-- ==== Sys2Proof/Word.lean ====
section
/-! DEFINITION. The plain words of the part: bytes, the bit sets that the links carry whole, and the
fixed-length table in which every numbered record of the data book is held. -/

namespace Sys2Proof

/-- One byte of a link frame or of the external flash. -/
abbrev Byte := BitVec 8

/-- A set of bells (00_scope.md, "bell sets"): the least significant bit stands for bell 1. -/
abbrev BellSet := BitVec 24

/-- A set of lighting circuits: the least significant bit stands for circuit 1 (R158, R182). -/
abbrev CircuitMask := BitVec 8

/-- `n` records of one kind, numbered from 0 here and from 1 in the data book where its tables are
(bells 1 to 24, trains 1 to 4, circuits 1 to 8). The length is carried with the rows, so that a table
of another length cannot be written. -/
structure Table (n : Nat) (α : Type) where
  rows : List α
  len : rows.length = n
  deriving DecidableEq, Repr

/-- `n` equal records. -/
def Table.replicate (n : Nat) (a : α) : Table n α := ⟨List.replicate n a, List.length_replicate⟩

/-- The record numbered `i`. -/
def Table.get (t : Table n α) (i : Fin n) : α :=
  t.rows[i.val]'(Nat.lt_of_lt_of_eq i.isLt t.len.symm)

/-- The table with the record numbered `i` replaced. -/
def Table.set (t : Table n α) (i : Fin n) (a : α) : Table n α :=
  ⟨t.rows.set i.val a, (List.length_set).trans t.len⟩

/-- The table with the record numbered `i` changed by `f`. -/
def Table.modify (t : Table n α) (i : Fin n) (f : α → α) : Table n α := t.set i (f (t.get i))

/-- The table with every record changed by `f`. -/
def Table.map (t : Table n α) (f : α → β) : Table n β :=
  ⟨t.rows.map f, (List.length_map f).trans t.len⟩

end Sys2Proof
end

