-- ==== Sys2Proof/Syntax.lean ====
section
/-! DEFINITION. The commands of the part: one constructor for each row of spec/opcode_table.json, with the
row's operands. A command is one whole and indivisible step (95_what_each_step_holds.md): a start, an event
of a clock or an input, or a request taken on a link.

Numbers are those of the data book: bells 1 to 24, trains 1 to 4, circuits 1 to 8, hammer slots 1 to 4.
A request carries the port it came on and its parameter bytes as they stand in its frame after the code
(R171, R182); Machine/Operands.lean reads them. -/

namespace Sys2Proof

/-- The links of the vestry console, the ringing-chamber panel and the site controller. -/
inductive Port where
  | v | c | s
  deriving DecidableEq, Repr

/-- The runs that hand notes or blows over one at a time (R103). -/
inductive RunKind where
  | quarter | hour | request
  deriving DecidableEq, Repr

/-- The commands. -/
inductive Instr where
  /-- COLD_START (R19). Start after loss of the retained store: first power or mains and backup both absent; all state takes its cold values and the timekeeper runs its start stages. -/
  | coldStart
  /-- WARM_START (R19). Start with the retained store intact once debounced mains-present is true again; volatile state is reset, retained state kept, and the start stages are taken. -/
  | warmStart
  /-- RESET_INPUT (R19). A low pulse on RESET cuts pulses and impulses, clears the section locks and begins a warm start that raises no MAINS. -/
  | resetInput
  /-- MAINS_FAIL (R63). Debounced mains-present goes false: all drive lines are released, pulses and impulses are cut, volatile state is lost and only the counting chain runs. -/
  | mainsFail
  /-- TICK_END (R1). The reference divider completes a tick of 127, 128 or 129 cycles; the tick counter, the running count, the slew remainder and the date counters advance and boundaries are reached. -/
  | tickEnd
  /-- SENSOR_SCAN (R50). Every 4 ticks the bell sensor matrix, the lock-out input and the mains-present input are read and debounced. -/
  | sensorScan (matrix : BitVec 96) (lockout mains : Bool)
  /-- PARK_TIMER_EXPIRY (R59). The park timer expires in PARKING or UNPARKING, and the hammer enters FAULT with PARK-TIMEOUT or UNPARK-TIMEOUT. -/
  | parkTimerExpiry (bell : Nat)
  /-- DIAL_CATCH_UP (R37). The running count reaches a train's catch-up instant; a CATCHING train is evaluated, or a demanded impulse begins. -/
  | dialCatchUp (train : Nat)
  /-- IMPULSE_END (R38). A dial impulse has been driven for its width; the line is released, the position advances and the polarity and in-flight mark are updated. -/
  | impulseEnd (train : Nat)
  /-- ENTRY_DUE (R89). A queued strike entry reaches its fire time, and the arbiter chooses and attempts grants while slots are free. -/
  | entryDue
  /-- WAIT_RECOVERY_MET (R92). The running count reaches the instant at which a waiting entry's recovery is met; it becomes eligible and the arbiter acts. -/
  | waitRecoveryMet
  /-- PULSE_END (R94). A hammer pulse reaches its end; the line is released, the slot is freed and offered to the queue, and a waiting park may begin. -/
  | pulseEnd (slot : Nat)
  /-- LATE_DROP (R95). An entry still queued at F + 9 is dropped LATE. -/
  | lateDrop
  /-- CLAIM_LAPSE (R75). A claim's expiry is reached; it ends or becomes releasing, and CLAIM is raised on the owner's port. -/
  | claimLapse (bell : Nat)
  /-- NOTE_HAND_OVER (R103). The hand-over instant of the next note or blow of a run is reached, and the request is handed to the strike engine. -/
  | noteHandOver (run : RunKind)
  /-- DEFER_TEST (R110). A deferred hour strike tests its bell every 256 ticks and restarts the strike when the answer is yes. -/
  | deferTest
  /-- DEFER_EXPIRED (R110). At H + 153,600 the deferred strike is given up, recorded DEFER-EXPIRED, and CHIME is raised on all ports. -/
  | deferExpired
  /-- TOLL_INSTANT (R116). A toll run's instant is reached, a TOLL blow is handed over and the remaining count falls. -/
  | tollInstant (port : Port)
  /-- CLAVIER_SCAN (R122). Every 4 ticks the key matrix and pedal are read and debounced. -/
  | clavierScan (keys : BitVec 32) (pedal : Bool)
  /-- START_END (R137). A STARTING bell's start time ends; it enters RINGING or FAULT with STALL from the edge count. -/
  | startEnd (bell : Nat)
  /-- PULSE_DEADLINE (R138). A RINGING bell's pulse deadline passes without an edge, and the bell enters FAULT with STALL. -/
  | pulseDeadline (bell : Nat)
  /-- DURATION_END (R138). A RINGING bell reaches its duration end and enters STOPPING with the cause DURATION. -/
  | durationEnd (bell : Nat)
  /-- QUIET_REACHED (R140). The last swing pulse plus 512 ticks is reached, and a STOPPING bell with REST true enters SETTLING. -/
  | quietReached (bell : Nat)
  /-- STOP_DEADLINE (R140). A STOPPING bell reaches its stop deadline and enters FAULT with STOP-TIMEOUT. -/
  | stopDeadline (bell : Nat)
  /-- SETTLE_END (R141). A SETTLING bell reaches its settle end and enters IDLE, which removes the SWING demand. -/
  | settleEnd (bell : Nat)
  /-- STAGGER_END (R146). A slot run's stagger after its previous bell entered STARTING ends, and the next bell is taken. -/
  | staggerEnd
  /-- SLOT_END (R147). A slot run reaches its end; its bells are brought down and the run is recorded RAN. -/
  | slotEnd
  /-- RAMP_MOVE (R155). Every 16 ticks a ramping circuit's current level moves one step towards the granted level. -/
  | rampMove (circuit : Nat)
  /-- LOAD_WAIT_EXPIRY (R166). A load queue entry reaches its expiry and is removed; the bell returns to IDLE with LOAD-TIMEOUT and LOAD is raised. -/
  | loadWaitExpiry (bell : Nat)
  /-- STORE_OP_END (R179). A fetch or TUNE-INFO read of a slot completes with a tune, NOT-SET or STORE-FAULT, and the next queued operation begins. -/
  | storeOpEnd (failedReads : Nat)
  /-- COMMIT_END (R181). A commit's erase, programming and read-back end OK or STORE-FAULT; the buffer is freed, DONE is raised and the clock player is told. -/
  | commitEnd (left : Option (List Byte))
  /-- STAGING_ABANDON (R180). The staging buffer's abandon instant is reached; the buffer is freed and its contents lost. -/
  | stagingAbandon
  /-- BYTE_RECEIVED (R170). A byte arrives on a link, enters the FIFO and advances the receiver through HUNT, LENGTH, BODY and CHECK. -/
  | byteReceived (port : Port) (byte : Byte) (stopBit : Bool)
  /-- GAP_DISCARD (R170). More than 4 character times pass between two bytes of a frame; the frame is discarded, counted and LINK is raised. -/
  | gapDiscard (port : Port)
  /-- RESPONSE_SENT (R171). The last byte of a response has gone; it is counted and the port's next good frame may be taken. -/
  | responseSent (port : Port)
  /-- UNKNOWN_REQUEST (R171). A taken frame whose code is not a request code is answered UNKNOWN. -/
  | unknownRequest (port : Port) (code : Byte) (params : List Byte)
  /-- REQUEST_PART (R172). A part of SET-PLAN or SET-SOLAR other than the last is gathered in the part buffer and answered OK. -/
  | requestPart (port : Port) (code : Byte) (params : List Byte)
  /-- READ_PAGE (R172). A read for a page above 0 is answered from the port's held read snapshot. -/
  | readPage (port : Port) (code : Byte) (params : List Byte)
  /-- READ_NOTICES (R176). Returns and removes the port's whole notice set. -/
  | readNotices (port : Port) (params : List Byte)
  /-- SET_MASK (R176). Sets the sending port's notice mask. -/
  | setMask (port : Port) (params : List Byte)
  /-- GET_LINK (R177). Returns the link counters of all three ports. -/
  | getLink (port : Port) (params : List Byte)
  /-- GET_DONE (R173). Returns the port's last completion and whether a delayed request is outstanding. -/
  | getDone (port : Port) (params : List Byte)
  /-- SET_RIGHTS (R174). Replaces the rights of all three ports. -/
  | setRights (port : Port) (params : List Byte)
  /-- GET_RIGHTS (R174). Returns the three rights sets and the locked sections. -/
  | getRights (port : Port) (params : List Byte)
  /-- LOCK (R175). Adds sections to the locked set. -/
  | lock (port : Port) (params : List Byte)
  /-- RESTART (R177). Answered OK, after which a warm start begins once the response has been sent. -/
  | restart (port : Port) (params : List Byte)
  /-- SET_TIME (R4). Corrects the tower time by a slew or a step according to Δ and the time-valid flag. -/
  | setTime (port : Port) (params : List Byte)
  /-- GET_TIME (R7). Returns standard and local time, the flags, the slew remainder, the guard, missed quarters and the running count. -/
  | getTime (port : Port) (params : List Byte)
  /-- SET_DST (R8). Writes the daylight rule and evaluates the in-force flag. -/
  | setDst (port : Port) (params : List Byte)
  /-- GET_DST (R8). Returns the daylight rule and the in-force flag. -/
  | getDst (port : Port) (params : List Byte)
  /-- SET_TICK (R18). Sets the sending port's TICK tap. -/
  | setTick (port : Port) (params : List Byte)
  /-- SET_YEAR_REF (R20). Adds or replaces a year reference and re-runs the day's choice. -/
  | setYearRef (port : Port) (params : List Byte)
  /-- CLEAR_YEAR_REF (R20). Removes a year's reference and re-runs the day's choice. -/
  | clearYearRef (port : Port) (params : List Byte)
  /-- SET_ENTRY (R21). Writes a calendar slot and re-runs the day's choice. -/
  | setEntry (port : Port) (params : List Byte)
  /-- SET_PROGRAM (R28). Replaces a day program record, with a RECORD hand-over if it is the program in force. -/
  | setProgram (port : Port) (params : List Byte)
  /-- GET_YEAR_REF (R31). Returns the year-reference table. -/
  | getYearRef (port : Port) (params : List Byte)
  /-- GET_ENTRY (R31). Returns one calendar slot. -/
  | getEntry (port : Port) (params : List Byte)
  /-- GET_ENTRY_MAP (R31). Returns the occupied calendar slots. -/
  | getEntryMap (port : Port) (params : List Byte)
  /-- GET_PROGRAM (R31). Returns one day program record. -/
  | getProgram (port : Port) (params : List Byte)
  /-- GET_DAY (R25). Returns the day in force. -/
  | getDay (port : Port) (params : List Byte)
  /-- CALENDAR_QUERY (R31). Returns the program, the winner and the matching slots for a given date. -/
  | calendarQuery (port : Port) (params : List Byte)
  /-- SET_DIAL_CONFIG (R33). Replaces a dial train's configuration part. -/
  | setDialConfig (port : Port) (params : List Byte)
  /-- SET_DIAL (R42). Records a hand-set position of an UNSET or STOPPED train. -/
  | setDial (port : Port) (params : List Byte)
  /-- DIAL_STOP (R43). Stops a running dial train. -/
  | dialStop (port : Port) (params : List Byte)
  /-- DIAL_RELEASE (R44). Returns a stopped train to running and evaluates it. -/
  | dialRelease (port : Port) (params : List Byte)
  /-- GET_DIALS (R45). Returns the state of the four dial trains. -/
  | getDials (port : Port) (params : List Byte)
  /-- SET_BELL (R47). Replaces a bell's configuration part unless the bell is busy, and acts on a change of the hammer-fitted flag. -/
  | setBell (port : Port) (params : List Byte)
  /-- GET_BELL_CONFIG (R49). Returns a bell's configuration part. -/
  | getBellConfig (port : Port) (params : List Byte)
  /-- GET_BELLS (R49). Returns the dynamic state and sensors of all 24 bells. -/
  | getBells (port : Port) (params : List Byte)
  /-- GET_SENSORS (R53). Returns the 96 sensors and, with TAKE, clears their change latches. -/
  | getSensors (port : Port) (params : List Byte)
  /-- CLEAR_FAULT_HAMMER (R60). Clears a hammer fault according to its demands and sensors. -/
  | clearFaultHammer (port : Port) (params : List Byte)
  /-- CLEAR_FAULT_SWING (R143). Clears a swing fault of a bell at rest, which then enters SETTLING. -/
  | clearFaultSwing (port : Port) (params : List Byte)
  /-- CLAIM (R69). Claims a bell set CHIME or ROPE, all or nothing, placing demands and purging entries. -/
  | claim (port : Port) (params : List Byte)
  /-- RENEW (R72). Renews the expiry of the port's held claims. -/
  | renew (port : Port) (params : List Byte)
  /-- RELEASE (R74). Ends the port's claims, or makes ROPE claims on moving bells releasing. -/
  | release (port : Port) (params : List Byte)
  /-- SET_CLAIM_HOLD (R71). Sets the sending port's claim hold time, clamped to 1..60 minutes. -/
  | setClaimHold (port : Port) (params : List Byte)
  /-- GET_CLAIMS (R77). Returns the claim records and the hold times. -/
  | getClaims (port : Port) (params : List Byte)
  /-- SET_STRIKE_PRIORITY (R91). Replaces the six source priorities. -/
  | setStrikePriority (port : Port) (params : List Byte)
  /-- GET_STRIKES (R99). Returns the strike queue, the slots, the rotation bell and the priorities. -/
  | getStrikes (port : Port) (params : List Byte)
  /-- GET_COUNTERS (R98). Returns the nine loss counters. -/
  | getCounters (port : Port) (params : List Byte)
  /-- TUNE_PLAY (R111). Delayed request that starts the request player fetching a tune for playing. -/
  | tunePlay (port : Port) (params : List Byte)
  /-- TUNE_STOP (R114). Stops the request player or marks a stop pending. -/
  | tuneStop (port : Port) (params : List Byte)
  /-- TOLL_START (R115). Starts or replaces the sending port's toll run. -/
  | tollStart (port : Port) (params : List Byte)
  /-- TOLL_STOP (R117). Ends the sending port's toll run and purges its entries. -/
  | tollStop (port : Port) (params : List Byte)
  /-- STRIKE (R118). Hands one SINGLE strike to the strike engine and answers with its planning outcome. -/
  | strike (port : Port) (params : List Byte)
  /-- GET_PLAYERS (R120). Returns the state of the buffers, runs, request player and toll runs. -/
  | getPlayers (port : Port) (params : List Byte)
  /-- SET_CLAVIER (R126). Sets the clavier's mode, class and binding. -/
  | setClavier (port : Port) (params : List Byte)
  /-- READ_KEYS (R129). Returns and removes the function-key queue and clears the overrun flag. -/
  | readKeys (port : Port) (params : List Byte)
  /-- GET_CLAVIER (R131). Returns the clavier's settings, keys, arbiter and counts. -/
  | getClavier (port : Port) (params : List Byte)
  /-- SWING_START (R134). Starts the swing of each eligible bell of a set, each entering PARKING. -/
  | swingStart (port : Port) (params : List Byte)
  /-- SWING_STOP (R139). Stops the bells of a set or gives up their starts. -/
  | swingStop (port : Port) (params : List Byte)
  /-- GET_SWING (R149). Returns the swing records, the slot runs, the slot guard and the slot history. -/
  | getSwing (port : Port) (params : List Byte)
  /-- SET_CIRCUIT (R150). Replaces a lighting circuit's configuration part within the budget. -/
  | setCircuit (port : Port) (params : List Byte)
  /-- SET_PLAN (R158). Replaces a lighting plan, rebuilding today's timeline if it is the plan in force. -/
  | setPlan (port : Port) (params : List Byte)
  /-- SET_LEVEL (R163). Sets an override level on the circuits of a mask and grants the new wanted levels. -/
  | setLevel (port : Port) (params : List Byte)
  /-- SET_LEVEL_RELEASE (R163). Removes the overrides on the circuits of a mask and grants the new wanted levels. -/
  | setLevelRelease (port : Port) (params : List Byte)
  /-- SET_SOLAR (R156). Replaces the solar table and rebuilds today's timeline. -/
  | setSolar (port : Port) (params : List Byte)
  /-- SET_LOAD (R152). Sets the capacity, reserve and load wait. -/
  | setLoad (port : Port) (params : List Byte)
  /-- GET_LIGHTS (R168). Returns the circuits, the plan in force and today's timeline. -/
  | getLights (port : Port) (params : List Byte)
  /-- GET_LOAD (R168). Returns the load settings, reservations, swing loads and the load queue. -/
  | getLoad (port : Port) (params : List Byte)
  /-- GET_SOLAR (R156). Returns the solar table. -/
  | getSolar (port : Port) (params : List Byte)
  /-- GET_PLAN (R158). Returns a plan's steps as stored. -/
  | getPlan (port : Port) (params : List Byte)
  /-- TUNE_BEGIN (R180). Takes the staging buffer and writes its header. -/
  | tuneBegin (port : Port) (params : List Byte)
  /-- TUNE_WRITE (R180). Writes notes into the staging buffer. -/
  | tuneWrite (port : Port) (params : List Byte)
  /-- TUNE_COMMIT (R181). Delayed request that queues a commit of the staged tune to a slot. -/
  | tuneCommit (port : Port) (params : List Byte)
  /-- TUNE_INFO (R181). Delayed read of a slot's header information. -/
  | tuneInfo (port : Port) (params : List Byte)
  /-- GET_STORE (R178). Returns the slot directory, the store queue and the staging buffer state. -/
  | getStore (port : Port) (params : List Byte)
  /-- LOSS_OF_MAIN_SUPPLY (R63). VDD is lost with no prior change of the debounced mains-present input: all drive lines are released, pulses and dial impulses are cut with their in-flight marks left set, and all volatile state is lost. -/
  | lossOfMainSupply
  deriving DecidableEq, Repr

end Sys2Proof
end

