-- ==== Sys2Proof/Decode.lean ====
section
/-! DEFINITION. The commands that words spell. The opcode table gives none of its rows any bits: a command is an event of a
clock or an input, or a request taken on a link, whose frame Machine/LinkOps.lean reads (R170, R171). So no word spells
a command. -/

namespace Sys2Proof

/-- The command that a word spells by the table's bits: none, since no row of the table gives bits. -/
def decodeTableWord (_nbits _w : Nat) : Option Instr := none

end Sys2Proof
end

