-- ==== Sys2Proof/Config.lean ====
section
/-! DEFINITION. The constants of the data book, and the free values: what the data book leaves open and
the model therefore leaves open too (an `opaque` constant without a body has no value a proof can use). -/

namespace Sys2Proof.Config

/-- Ticks in a second (00_scope.md, "the tick"): 1/256 s each. -/
def second : Nat := 256

/-- Ticks in a minute (R71). -/
def minute : Nat := 15360

/-- Entries the strike queue holds (R85). -/
def strikeQueue : Nat := 48

/-- Entries the load queue holds (R166). -/
def loadQueue : Nat := 8

/-- Slot runs the swing controller holds (R146). -/
def slotRuns : Nat := 8

/-- Entries the function-key queue holds (R128). -/
def keyQueue : Nat := 8

/-- The value at which the saturating 16-bit counters hold (R14, R97, R128, R177). -/
def saturation : Nat := 65535

/-- Bytes a link's receive FIFO holds (R170). -/
def fifo : Nat := 64

/-- Data bytes a page of a read holds (R172). -/
def pageBytes : Nat := 240

/-- Bytes of a tune slot (R178). -/
def slotBytes : Nat := 512

/-- How many signals between blocks one command delivers at most (notes/assumptions/37.md). -/
def signalLimit : Nat := 100000

/-- FREE VALUE (notes/assumptions/8.md). R179: a commit that a start or a mains failure cuts leaves its
slot as the erase or the programming left it; the data book does not say with which bytes.
`cutByte n i` is byte `i` of the slot after the `n`-th such cut. -/
opaque cutByte : Nat → Nat → Byte

end Sys2Proof.Config
end

