-- ==== Sys2Proof/Machine/State.lean ====
section
/-! DEFINITION. The state of the part: every piece of state the data book gives each of its blocks, as plain
data, block by block in the order of the chapters, and the state right after the first cold start.

Instants are values of the running count (R1). Bells, trains, circuits, slots and programs are numbered
from 0 here, by `Fin`; the links carry the data book's numbers. -/

namespace Sys2Proof.Machine

/-! ## Names and numbers shared by the blocks -/

/-- Bell `b + 1` of the data book. -/
abbrev Bell := Fin 24

/-- Dial train `n + 1`. -/
abbrev Train := Fin 4

/-- Lighting circuit `c + 1`. -/
abbrev Circuit := Fin 8

/-- Hammer slot `k + 1`. -/
abbrev HammerSlot := Fin 4

/-- The quarters Q1 to Q4, numbered from 0. -/
abbrev Quarter := Fin 4

/-- A tune slot 0..63 of the external flash. -/
abbrev TuneSlot := Fin 64

/-- A day program 0..15. -/
abbrev ProgramNo := Fin 16

/-- A calendar slot 0..47. -/
abbrev EntrySlot := Fin 48

/-- A lighting plan 0..7. -/
abbrev PlanNo := Fin 8

/-- One value for each of the three ports. -/
structure PerPort (α : Type) where
  v : α
  c : α
  s : α
  deriving DecidableEq, Repr

/-- A date, with its full year (R2, R22). -/
structure Date where
  year : Nat
  month : Nat
  day : Nat
  deriving DecidableEq, Repr

/-- SLIP or DROP: what a run does when recovery is not met (R28, R78). -/
inductive Policy where
  | slip | drop
  deriving DecidableEq, Repr

/-- The statuses of R171's table, in the order of their codes. -/
inductive Status where
  | ok | taken | busy | locked | noRight | badValue | unavailable | unknown | storeFault | notSet
  deriving DecidableEq, Repr

/-- Whether the part has its supply: `on` while mains is present and the part works, `absent` after the
debounced mains-present input went false (VDD still there), `off` without VDD (R63). -/
inductive Power where
  | on | absent | off
  deriving DecidableEq, Repr

/-! ## Timekeeper (01_tower_time.md) -/

/-- The date and time counters with the tick counter, in standard time (R1, R2). -/
structure Counters where
  century : Nat
  year : Nat
  month : Nat
  day : Nat
  hour : Nat
  minute : Nat
  second : Nat
  tick : Nat
  deriving DecidableEq, Repr

/-- An instant of local time. -/
structure LocalTime where
  date : Date
  hour : Nat
  minute : Nat
  second : Nat
  tick : Nat
  deriving DecidableEq, Repr

/-- A week field: 1..4 or LAST (R8, R21). -/
inductive Week where
  | nth (n : Nat)
  | last
  deriving DecidableEq, Repr

/-- The begin or the end part of the daylight rule (R8). -/
structure DstPart where
  month : Nat
  week : Week
  weekday : Nat
  hour : Nat
  deriving DecidableEq, Repr

/-- The daylight rule (R8). -/
structure DstRule where
  enabled : Bool
  begins : DstPart
  ends : DstPart
  deriving DecidableEq, Repr

/-- A quarter instant: its local date and its index 0..95 (R12). -/
structure QuarterInstant where
  date : Date
  index : Nat
  deriving DecidableEq, Repr

/-- An hour-ahead announcement: the local date and hour it names and the running count of the hour (R15). -/
structure HourAhead where
  date : Date
  hour : Nat
  count : Nat
  deriving DecidableEq, Repr

/-- A TICK tap: none, 1 s, 15 s, 60 s or 15 min (R18). -/
inductive Tap where
  | off | s1 | s15 | s60 | min15
  deriving DecidableEq, Repr

/-- The timekeeper's state (table "state after each start" of 01_tower_time.md). -/
structure Timekeeper where
  divider : Nat
  counters : Counters
  slew : Int
  runCount : Nat
  timeValid : Bool
  dstRule : DstRule
  dstInForce : Bool
  guard : Option QuarterInstant
  missedCount : Nat
  lastMissed : Option QuarterInstant
  hourAhead : Option HourAhead
  taps : PerPort Tap
  deriving DecidableEq, Repr

/-! ## Calendar (02_calendar_and_day_programs.md) -/

/-- A calendar entry's kind with its fields (R21). -/
inductive EntryKind where
  | fixed (month day : Nat)
  | yearRef (offset : Int)
  | weekday (weekday : Nat)
  | nth (week : Week) (weekday month : Nat)
  deriving DecidableEq, Repr

/-- A calendar entry (R21). -/
structure Entry where
  kind : EntryKind
  rank : Nat
  program : ProgramNo
  deriving DecidableEq, Repr

/-- DROP or DEFER: what the hour strike does when its bell is unavailable (R28, R108). -/
inductive BusyPolicy where
  | drop | defer
  deriving DecidableEq, Repr

/-- A ringing slot of a day program (R28). -/
structure RingSlot where
  start : Nat
  bells : BellSet
  duration : Nat
  stagger : Nat
  deriving DecidableEq, Repr

/-- A day program record (R28). -/
structure Program where
  tunes : Table 4 (Option TuneSlot)
  tempo : Nat
  policy : Policy
  maxSlip : Nat
  hourOn : Bool
  hourBell : Bell
  hourInterval : Nat
  hourGap : Nat
  hourClass : Nat
  busy : BusyPolicy
  silentStart : Nat
  silentEnd : Nat
  plan : Option PlanNo
  slots : List RingSlot
  deriving DecidableEq, Repr

/-- The day in force, with the time-valid flag of the last date change (R25). -/
structure DayInForce where
  date : Date
  program : ProgramNo
  winner : Option EntrySlot
  valid : Bool
  deriving DecidableEq, Repr

/-- The calendar's state (R32). -/
structure Calendar where
  yearRefs : List Date
  entries : Table 48 (Option Entry)
  programs : Table 16 Program
  day : Option DayInForce
  deriving DecidableEq, Repr

/-! ## Dial driver (03_dial_trains.md) -/

/-- The polarity of an impulse (R33). -/
inductive Polarity where
  | a | b
  deriving DecidableEq, Repr

/-- The retained mode of a train (R34). -/
inductive DialMode where
  | unset | stopped | running
  deriving DecidableEq, Repr

/-- The state of a train (R34). -/
inductive DialState where
  | unset | inStep | catching | holding | stopped
  deriving DecidableEq, Repr

/-- An impulse in flight: the polarity it drives and the running count of its end (R37, R38). -/
structure Impulse where
  polarity : Polarity
  ends : Nat
  deriving DecidableEq, Repr

/-- A dial-train record (R33, R34). `demanded` says that an impulse has been demanded and has not begun, and `catchUpDue` that a
catch-up instant has been reached in CATCHING and its evaluation is still to come, another having been taken first (R37,
notes/assumptions/68.md). -/
structure Dial where
  fitted : Bool
  width : Nat
  period : Nat
  hold : Nat
  position : Nat
  lastPolarity : Polarity
  uncertain : Bool
  inFlight : Bool
  mode : DialMode
  state : DialState
  lag : Option Nat
  lastStart : Option Nat
  catchUp : Nat
  impulse : Option Impulse
  demanded : Bool
  catchUpDue : Bool
  deriving DecidableEq, Repr

/-! ## Bell table (04_bells_sensors_and_interlocks.md) -/

/-- The configuration part of a bell record (R46). Times are in seconds, the lead, recovery and pulse
widths in ticks. -/
structure BellConfig where
  hammer : Bool
  motor : Bool
  lead : Nat
  recovery : Nat
  widths : Table 4 Nat
  startLoad : Nat
  runLoad : Nat
  startTime : Nat
  pulseTimeout : Nat
  settleTime : Nat
  stopTimeout : Nat
  parkTimeout : Nat
  deriving DecidableEq, Repr

/-- The hammer states (R49). NONE, before the first state after a start (R64), is `Option.none`. -/
inductive Hammer where
  | absent | ready | parking | parked | unparking | fault
  deriving DecidableEq, Repr

/-- The causes of a hammer fault (R59). -/
inductive HammerCause where
  | parkTimeout | unparkTimeout | parkLost | homeAtGrant | sensorConflict
  deriving DecidableEq, Repr

/-- The park demand set (R54). -/
structure Demands where
  lockout : Bool
  swing : Bool
  rope : Bool
  start : Bool
  deriving DecidableEq, Repr

/-- A sensor: its last reading, its debounced state (UNKNOWN is `none`) and its change latch (R51, R53). -/
structure Sensor where
  last : Option Bool
  state : Option Bool
  latch : Bool
  deriving DecidableEq, Repr

/-- A bell record (R46, R49) with the bell's four sensors. The mirrored swing state and the pulse-in-flight
flag are read from the swing record and the hammer slots, which hold them (notes/assumptions/34.md).
`motor` is the motor enable line MTn (R61). -/
structure BellRec where
  config : BellConfig
  hammer : Option Hammer
  cause : Option HammerCause
  demands : Demands
  timer : Option Nat
  motor : Bool
  lastOnset : Option Nat
  horizon : Option Nat
  sw : Sensor
  rest : Sensor
  home : Sensor
  park : Sensor
  deriving DecidableEq, Repr

/-- The bell table: the 24 records, the lock-out and mains-present inputs as two further sensors (R50), and
whether the sensor image is valid (R51). -/
structure BellTable where
  bells : Table 24 BellRec
  lockout : Sensor
  mains : Sensor
  imageValid : Bool
  deriving DecidableEq, Repr

/-! ## Claims table (05_claims.md) -/

/-- The kinds of claim (R66). -/
inductive ClaimKind where
  | chime | rope
  deriving DecidableEq, Repr

/-- The claim record of a bell that is not free (R66). -/
structure Claim where
  owner : Port
  kind : ClaimKind
  expiry : Option Nat
  releasing : Bool
  deriving DecidableEq, Repr

/-- The claims table: a bell that is free has no record; the hold times are in minutes (R66). -/
structure Claims where
  recs : Table 24 (Option Claim)
  hold : PerPort Nat
  deriving DecidableEq, Repr

/-! ## Strike engine (06_strike_timing_and_the_hammer_driver.md) -/

/-- The six sources of strikes (R78). -/
inductive Source where
  | quarter | hour | tune | toll | clavier | single
  deriving DecidableEq, Repr

/-- Why a strike, or a chime, was lost (R81, R97). -/
inductive DropReason where
  | recovery | late | interlock | claimed | queueFull | hammerFault | silent | fetch | stopped | noHammer
  deriving DecidableEq, Repr

/-- A strike request (R78). `run` is the run's identifier, and `index` the number of the note or blow
within its run, counted from 0. -/
structure StrikeRequest where
  source : Source
  port : Option Port
  bell : Bell
  cls : Nat
  onset : Nat
  policy : Policy
  allowance : Nat
  run : Option Nat
  index : Nat
  deriving DecidableEq, Repr

/-- An entry of the strike queue: planned onset P and fire time F (R85). -/
structure QueueEntry where
  source : Source
  port : Option Port
  bell : Bell
  cls : Nat
  run : Option Nat
  index : Nat
  onset : Nat
  fire : Nat
  deriving DecidableEq, Repr

/-- What a BUSY hammer slot holds (R88). -/
structure BusySlot where
  bell : Bell
  source : Source
  port : Option Port
  cls : Nat
  onset : Nat
  ends : Nat
  deriving DecidableEq, Repr

/-- The source priorities, in the order of R91's table. -/
structure Priorities where
  clavier : Nat
  toll : Nat
  hour : Nat
  quarter : Nat
  single : Nat
  tune : Nat
  deriving DecidableEq, Repr

/-- The nine loss counters (R97). -/
structure Losses where
  recovery : Nat
  late : Nat
  interlock : Nat
  claimed : Nat
  queueFull : Nat
  hammerFault : Nat
  silent : Nat
  fetch : Nat
  stopped : Nat
  deriving DecidableEq, Repr

/-- The strike engine's state (R100). -/
structure Engine where
  queue : List QueueEntry
  slots : Table 4 (Option BusySlot)
  rotation : Bell
  priorities : Priorities
  losses : Losses
  deriving DecidableEq, Repr

/-! ## Chime players (07_chimes_the_hour_strike_and_tolls.md) -/

/-- A stored note: the bell byte 0..255, the gap and the class (R178). -/
structure Note where
  bell : Nat
  gap : Nat
  cls : Nat
  deriving DecidableEq, Repr

/-- A tune as read from a slot: default tempo, default policy and notes (R178). -/
structure Tune where
  tempo : Nat
  policy : Policy
  notes : List Note
  deriving DecidableEq, Repr

/-- The states of a quarter buffer (R101). -/
inductive BufferState where
  | empty | wanted | fetching | valid | failed
  deriving DecidableEq, Repr

/-- A quarter buffer (R101). `change` is a change of slot that waits for the run that plays from the
buffer to finish handing over (R102). -/
structure Buffer where
  state : BufferState
  slot : Option TuneSlot
  tune : Option Tune
  status : Option Status
  change : Option (Option TuneSlot)
  deriving DecidableEq, Repr

/-- An announcement that waits for the first program hand-over of a start (R101). -/
inductive HeldAnnouncement where
  | quarter (instant : QuarterInstant) (count : Nat)
  | hourAhead (announced : HourAhead)
  deriving DecidableEq, Repr

/-- The counts of a run's notes (R101, R103). -/
structure RunCounts where
  handed : Nat
  granted : Nat
  dropped : Nat
  skipped : Nat
  deriving DecidableEq, Repr

/-- The quarter run (R101). A Q4 run is prepared, `started` false, until its buffer is tested at `testAt`
(R105); `ahead` is the hour instant of the hour-ahead that a run was prepared from (R107). `handAt` is the hand-over
instant of the next note, fixed when that note becomes the next (R103). -/
structure QuarterRun where
  id : Nat
  quarter : Quarter
  start : Nat
  tempo : Nat
  policy : Policy
  maxSlip : Nat
  slip : Nat
  next : Nat
  counts : RunCounts
  started : Bool
  testAt : Nat
  ahead : Option Nat
  handAt : Nat
  deriving DecidableEq, Repr

/-- The states of an hour strike run (R101). -/
inductive HourState where
  | planned | striking | deferred
  deriving DecidableEq, Repr

/-- The hour strike run (R101, R108). `hour` is the local hour it strikes; `firstOpen` says that blow 0 is
queued and has no end outcome yet (R109); `handAt` is the hand-over instant of the next blow (R103). -/
structure HourRun where
  id : Nat
  hour : Nat
  instant : Nat
  count : Nat
  bell : Bell
  interval : Nat
  cls : Nat
  policy : Policy
  maxSlip : Nat
  busy : BusyPolicy
  start : Nat
  slip : Nat
  next : Nat
  state : HourState
  firstOpen : Bool
  reason : Option DropReason
  testAt : Nat
  granted : Nat
  dropped : Nat
  handAt : Nat
  deriving DecidableEq, Repr

/-- The record of the last hour strike: COMPLETE when `expired` is `none`, else DEFER-EXPIRED with its
reason (R110, R120). -/
structure LastHour where
  hour : Nat
  granted : Nat
  dropped : Nat
  expired : Option DropReason
  deriving DecidableEq, Repr

/-- The states of the request player (07, "the request player"). -/
inductive PlayerState where
  | idle | fetching | waiting | playing
  deriving DecidableEq, Repr

/-- How a request player's run ended (R113, R114, R119). -/
inductive EndCause where
  | complete | stopped | allStop
  deriving DecidableEq, Repr

/-- The summary of the request player's last run (R113). -/
structure Summary where
  slot : TuneSlot
  owner : Port
  counts : RunCounts
  slip : Nat
  cause : EndCause
  deriving DecidableEq, Repr

/-- What the request player holds while it is not IDLE (R111 to R114). A tempo or policy of `none` is
DEFAULT until the fetch resolves it; `queued` counts its notes in the strike queue. -/
structure RequestRun where
  id : Nat
  owner : Port
  slot : TuneSlot
  tempo : Option Nat
  policy : Option Policy
  maxSlip : Nat
  start : Nat
  tune : Option Tune
  slip : Nat
  next : Nat
  counts : RunCounts
  queued : Nat
  stopPending : Option EndCause
  handAt : Nat
  deriving DecidableEq, Repr

/-- The request player. -/
structure RequestPlayer where
  state : PlayerState
  run : Option RequestRun
  last : Option Summary
  deriving DecidableEq, Repr

/-- A toll run (R115, R116). `interval` is in ticks, `remaining` is `none` for a run until stopped, `queued`
counts its blows in the strike queue. -/
structure TollRun where
  id : Nat
  bell : Bell
  interval : Nat
  cls : Nat
  remaining : Option Nat
  next : Nat
  handed : Nat
  granted : Nat
  dropped : Nat
  queued : Nat
  deriving DecidableEq, Repr

/-- The chime players' state (R121). `clockFetch` is the buffer of the clock player's outstanding fetch,
with a mark that its result is to be discarded (R102); `nextRun` numbers the runs. -/
structure Players where
  program : Option Program
  held : List HeldAnnouncement
  buffers : Table 4 Buffer
  clockFetch : Option (Quarter × Bool)
  quarterRun : Option QuarterRun
  hourRun : Option HourRun
  lastHour : Option LastHour
  request : RequestPlayer
  tolls : PerPort (Option TollRun)
  nextRun : Nat
  deriving DecidableEq, Repr

/-! ## Clavier scanner (08_the_clavier.md) -/

/-- The clavier's modes (R126). -/
inductive KeyMode where
  | lockout | rollover
  deriving DecidableEq, Repr

/-- The condition of a key 1..31. -/
inductive KeyCondition where
  | unknown | opened | registered | contending | ignored
  deriving DecidableEq, Repr

/-- A key: its last reading, its debounced state (true is CLOSED, UNKNOWN is `none`) and its condition. -/
structure Key where
  last : Option Bool
  state : Option Bool
  condition : KeyCondition
  deriving DecidableEq, Repr

/-- The arbiter of the two-key lockout (R125). -/
inductive Arbiter where
  | free
  | held (key : Fin 32)
  | contended (keys : List (Fin 32))
  deriving DecidableEq, Repr

/-- An entry of the function-key queue (R128). -/
structure KeyEntry where
  key : Nat
  pedal : Bool
  hour : Nat
  minute : Nat
  second : Nat
  tick : Nat
  valid : Bool
  deriving DecidableEq, Repr

/-- The clavier scanner's state. Key `k + 1` of the data book is row `k`; `pedal` holds the pedal's last
reading and debounced state. The data book gives the count of ALL-STOPs and the four counts of bell keys no width; they
have no largest value here (notes/assumptions/57.md). -/
structure Clavier where
  mode : KeyMode
  cls : Nat
  binding : Option Port
  keys : Table 32 Key
  pedal : Sensor
  arbiter : Arbiter
  queue : List KeyEntry
  overrun : Bool
  overruns : Nat
  allStops : Nat
  lastAllStop : Option LocalTime
  registered : Nat
  queued : Nat
  granted : Nat
  dropped : Nat
  deriving DecidableEq, Repr

/-! ## Swing controller (09_swing_ringing.md) -/

/-- The swing states (R132); NONE is `unreported`. -/
inductive SwingState where
  | unreported | idle | parking | waitLoad | starting | ringing | stopping | settling | fault
  deriving DecidableEq, Repr

/-- The causes of a swing fault (R142). -/
inductive SwingFault where
  | stall | stopTimeout | parkFault | hammerLost
  deriving DecidableEq, Repr

/-- The last causes (R149's table). -/
inductive SwingCause where
  | duration | stop | allStop | lockOut | slotEnd | loadFull | loadTimeout
  | fault (f : SwingFault)
  deriving DecidableEq, Repr

/-- Who started a swing: a port or a slot run, by its identifier (R132). -/
inductive Origin where
  | port (p : Port)
  | slotRun (id : Nat)
  deriving DecidableEq, Repr

/-- The codes with which a bell's start is refused (R134). -/
inductive StartRefusal where
  | noMotor | noHammer | notIdle | lockedOut | claimed | hammerFault | moving
  deriving DecidableEq, Repr

/-- A swing record (R132). `minutes` is the duration kept with the start (R134). -/
structure SwingRec where
  state : SwingState
  origin : Option Origin
  minutes : Option Nat
  durationEnd : Option Nat
  timer : Option Nat
  edges : Nat
  lastPulse : Option Nat
  fault : Option SwingFault
  lastCause : Option SwingCause
  deriving DecidableEq, Repr

/-- A slot run (R146): `remaining` are the bells not yet taken, `waiting` the bell it waits for, `nextAt` the
running count at which the next bell is taken. -/
structure SlotRun where
  id : Nat
  date : Date
  number : Nat
  bells : BellSet
  stagger : Nat
  start : Nat
  ends : Nat
  remaining : List Bell
  waiting : Option Bell
  nextAt : Option Nat
  started : List Bell
  skipped : List (Bell × StartRefusal)
  deriving DecidableEq, Repr

/-- The outcomes of a handled slot (R149). -/
inductive SlotOutcome where
  | ran | missed | skipped
  deriving DecidableEq, Repr

/-- A line of the slot history (R147, R149). -/
structure SlotRecord where
  date : Date
  number : Nat
  outcome : SlotOutcome
  started : List Bell
  skipped : List (Bell × StartRefusal)
  deriving DecidableEq, Repr

/-- The swing controller's state (R145, R148). `guard` and `held` hold a local date with a minute; `day` the
ringing slots with the local date of their hand-over. -/
structure Swing where
  recs : Table 24 SwingRec
  runs : List SlotRun
  guard : Option (Date × Nat)
  day : Option (Date × List RingSlot)
  held : List (Date × Nat)
  history : List SlotRecord
  nextRun : Nat
  deriving DecidableEq, Repr

/-! ## Lighting and load controllers (10_floodlights_and_the_tower_load.md) -/

/-- The triggers of a plan step (R158). -/
inductive Trigger where
  | clock (minute : Nat)
  | sunset (offset : Int)
  | sunrise (offset : Int)
  | ringStart
  | ringEnd
  deriving DecidableEq, Repr

/-- A plan step (R158); the ramp is in seconds. -/
structure PlanStep where
  trigger : Trigger
  mask : CircuitMask
  level : Nat
  ramp : Nat
  deriving DecidableEq, Repr

/-- The configuration part of a circuit record (R150). -/
structure CircuitConfig where
  weight : Nat
  rank : Nat
  floor : Nat
  fallback : Nat
  deriving DecidableEq, Repr

/-- An override (R163); an end of `none` is NEXT-STEP. -/
structure Override where
  level : Nat
  ends : Option Nat
  ramp : Nat
  port : Port
  deriving DecidableEq, Repr

/-- A ramp in progress (R155). -/
structure Ramp where
  start : Nat
  step : Nat
  next : Nat
  deriving DecidableEq, Repr

/-- A circuit record (R150). The ramp time stays when the ramp is NONE (R155). -/
structure CircuitRec where
  config : CircuitConfig
  planLevel : Nat
  override : Option Override
  wanted : Nat
  granted : Nat
  current : Nat
  shed : Bool
  ramp : Option Ramp
  rampTime : Nat
  deriving DecidableEq, Repr

/-- A point of the solar table: standard minutes (R156). -/
structure SolarPoint where
  sunrise : Nat
  sunset : Nat
  deriving DecidableEq, Repr

/-- A step of today's timeline (R159). -/
structure TimelineStep where
  minute : Nat
  step : PlanStep
  done : Bool
  deriving DecidableEq, Repr

/-- A minute announcement that waits for its date's hand-over (R159). -/
structure HeldMinute where
  date : Date
  minute : Nat
  valid : Bool
  deriving DecidableEq, Repr

/-- The lighting controller's state (R169). The solar table is in the order day 1, day 16 of month 1 to 12.
`handDate` is the local date of the latest program hand-over, `plan` its plan, `valid` the time-valid flag
it and the latest date change carried, `dateSeen` the date of the latest date change. -/
structure Lights where
  circuits : Table 8 CircuitRec
  plans : Table 8 (List PlanStep)
  solar : Table 24 SolarPoint
  handDate : Option Date
  plan : Option PlanNo
  valid : Bool
  dateSeen : Option Date
  timelineDate : Option Date
  timeline : List TimelineStep
  held : List HeldMinute
  deriving DecidableEq, Repr

/-- An entry of the load queue; a requester of `none` is PROGRAM (R166). -/
structure LoadEntry where
  bell : Bell
  load : Nat
  requester : Option Port
  expiry : Nat
  deriving DecidableEq, Repr

/-- The load controller's state (R152, R166). Reservations and swing loads are computed (R151). -/
structure Load where
  capacity : Nat
  reserve : Nat
  wait : Nat
  queue : List LoadEntry
  deriving DecidableEq, Repr

/-! ## Link controller (11_console_links_notices_and_the_tune_store.md) -/

/-- The receiver's states, with what of the frame being received they hold (R170). -/
inductive Receiver where
  | hunt
  | length
  | body (len : Nat) (bytes : List Byte)
  | check (len : Nat) (bytes : List Byte)
  deriving DecidableEq, Repr

/-- A response being sent (R171): the response code (request code plus 80h), the status and the payload. -/
structure Response where
  code : Byte
  status : Status
  payload : List Byte
  deriving DecidableEq, Repr

/-- The completion of a delayed request (R173). -/
structure Completion where
  code : Byte
  status : Status
  payload : List Byte
  deriving DecidableEq, Repr

/-- The part buffer (R172): the shares held, in order. -/
structure Parts where
  code : Byte
  count : Nat
  shares : List (List Byte)
  deriving DecidableEq, Repr

/-- A held read snapshot (R172): the read, its parameters before the page number, and its data. -/
structure Snapshot where
  code : Byte
  args : List Byte
  data : List Byte
  deriving DecidableEq, Repr

/-- The seven link counters (R177). -/
structure LinkCounters where
  taken : Nat
  sent : Nat
  lengthErrors : Nat
  checkErrors : Nat
  gaps : Nat
  framing : Nat
  overflows : Nat
  deriving DecidableEq, Repr

/-- The fourteen notice kinds, in bit order (R176). -/
inductive NoticeKind where
  | done | bell | fault | loss | claim | keys | time | dial | light | load | chime | mains | tick | link
  deriving DecidableEq, Repr

/-- The classes of rights, in bit order (R174). -/
inductive Right where
  | time | clock | bells | strike | swing | claim | lights | calendar | store | admin
  deriving DecidableEq, Repr

/-- The lockable sections, in bit order (R175). -/
inductive Sect where
  | bells | clock | lights | calendar | store | admin
  deriving DecidableEq, Repr

/-- A port record. `waiting` holds the bodies (code and parameters) of the good frames that wait to be
taken, oldest first; `restart` says that the response being sent is RESTART's (R177). -/
structure PortRec where
  waiting : List (List Byte)
  receiver : Receiver
  rights : BitVec 10
  notices : BitVec 14
  mask : BitVec 14
  outstanding : Option Byte
  completion : Option Completion
  parts : Option Parts
  snapshot : Option Snapshot
  counters : LinkCounters
  response : Option Response
  restart : Bool
  deriving DecidableEq, Repr

/-- The link controller's state; the section locks are held once for the whole part (R175). -/
structure Link where
  ports : PerPort PortRec
  locks : BitVec 6
  deriving DecidableEq, Repr

/-! ## Store controller -/

/-- An entry of the slot directory (R178). -/
inductive DirEntry where
  | unknown | empty | present (notes : Nat) | faulty | underCommit
  deriving DecidableEq, Repr

/-- An operation of the store queue (R179). -/
inductive StoreOp where
  | clockFetch (quarter : Quarter) (slot : TuneSlot)
  | playFetch (slot : TuneSlot)
  | info (port : Port) (slot : TuneSlot)
  | commit (port : Port) (slot : TuneSlot)
  deriving DecidableEq, Repr

/-- The staging buffer while a port holds it (R180): a note not written is `none`; the abandon instant is
withdrawn while a commit holds the buffer (R181). -/
structure Staging where
  owner : Port
  tempo : Nat
  policy : Policy
  notes : List (Option Note)
  abandon : Option Nat
  deriving DecidableEq, Repr

/-- The external flash and the store controller. `flash` lists (address, byte) pairs in rising order of
address, and no entry equal to FFh, which an unlisted address reads as. `executing` carries, with the
operation, whether its slot was UNDER-COMMIT when it began (R179). `cuts` counts the commits that were cut. -/
structure Store where
  flash : List Host.Cell
  directory : Table 64 DirEntry
  executing : Option (StoreOp × Bool)
  queue : List StoreOp
  staging : Option Staging
  cuts : Nat
  deriving DecidableEq, Repr

/-! ## The whole part -/

/-- What one block has to tell another within the same event (notes/assumptions/37.md): the hammer state
of a bell reported to the swing controller (R61), a fall of the committed load or a removal of the
queue's head (R167), and a slot run that takes its next bell (R146). -/
inductive Signal where
  | hammer (bell : Bell)
  | loadFell
  | slotNext (run : Nat)
  deriving DecidableEq, Repr

/-- The state of the part, with the queue of the commands that wait. -/
structure State where
  pending : List Instr
  power : Power
  tk : Timekeeper
  cal : Calendar
  dials : Table 4 Dial
  bells : BellTable
  claims : Claims
  engine : Engine
  players : Players
  clavier : Clavier
  swing : Swing
  lights : Lights
  load : Load
  link : Link
  store : Store
  signals : List Signal
  deriving DecidableEq, Repr

/-- No command of the data book stops the part, so there is no fault: safe, since nothing is ruled out. -/
inductive Fault where
  deriving DecidableEq, Repr

/-- A step may refuse only a command that has no meaning yet. -/
inductive Refusal where
  /-- Raised by `exec` for a command without a meaning in this model, named as the opcode table spells it;
  safe: the machine stops. -/
  | notModelled (mnemonic : String)
  deriving DecidableEq, Repr

/-! ## The values after a cold start -/

/-- A sensor at a start (R51, R122): UNKNOWN, no reading, latch clear. -/
def Sensor.unknown : Sensor := { last := none, state := none, latch := false }

/-- No notes counted. -/
def RunCounts.zero : RunCounts := { handed := 0, granted := 0, dropped := 0, skipped := 0 }

/-- The counters after cold start (R2): 2000-01-01 00:00:00+0 standard. -/
def Counters.cold : Counters :=
  { century := 20, year := 0, month := 1, day := 1, hour := 0, minute := 0, second := 0, tick := 0 }

/-- A part of the daylight rule after cold start (R8). -/
def DstPart.cold : DstPart := { month := 1, week := .nth 1, weekday := 0, hour := 0 }

/-- The timekeeper after cold start (01, "state after each start"). -/
def Timekeeper.cold : Timekeeper :=
  { divider := 0, counters := .cold, slew := 0, runCount := 0, timeValid := false,
    dstRule := { enabled := false, begins := .cold, ends := .cold }, dstInForce := false,
    guard := none, missedCount := 0, lastMissed := none, hourAhead := none,
    taps := { v := .off, c := .off, s := .off } }

/-- A day program after cold start (R32). -/
def Program.cold : Program :=
  { tunes := .replicate 4 none, tempo := 64, policy := .slip, maxSlip := 64, hourOn := false, hourBell := 0,
    hourInterval := 640, hourGap := 256, hourClass := 3, busy := .drop, silentStart := 0, silentEnd := 0,
    plan := none, slots := [] }

/-- The date counted after a cold start. -/
def Date.cold : Date := { year := 2000, month := 1, day := 1 }

/-- The calendar after cold start, once the date change that ends the start has been taken (R32). -/
def Calendar.cold : Calendar :=
  { yearRefs := [], entries := .replicate 48 none, programs := .replicate 16 .cold,
    day := some { date := .cold, program := 0, winner := none, valid := false } }

/-- A dial-train record after cold start (R33). -/
def Dial.cold : Dial :=
  { fitted := false, width := 256, period := 512, hold := 240, position := 0, lastPolarity := .b,
    uncertain := false, inFlight := false, mode := .unset, state := .unset, lag := none, lastStart := none,
    catchUp := 0, impulse := none, demanded := false, catchUpDue := false }

/-- A bell's configuration after cold start (R46). -/
def BellConfig.cold : BellConfig :=
  { hammer := false, motor := false, lead := 32, recovery := 256, widths := ⟨[8, 12, 16, 24], rfl⟩,
    startLoad := 0, runLoad := 0, startTime := 10, pulseTimeout := 4, settleTime := 30, stopTimeout := 300,
    parkTimeout := 2 }

/-- An empty park demand set. -/
def Demands.empty : Demands := { lockout := false, swing := false, rope := false, start := false }

/-- The dynamic part of a bell record at a start, with the configuration `cfg` (R64): an unfitted hammer is
ABSENT at once, a fitted one waits for the sensor image. -/
def BellRec.atStart (cfg : BellConfig) : BellRec :=
  { config := cfg, hammer := if cfg.hammer then none else some .absent, cause := none, demands := .empty,
    timer := none, motor := false, lastOnset := none, horizon := none, sw := .unknown, rest := .unknown,
    home := .unknown, park := .unknown }

/-- The bell table after cold start. -/
def BellTable.cold : BellTable :=
  { bells := .replicate 24 (.atStart .cold), lockout := .unknown, mains := .unknown, imageValid := false }

/-- The claims table after cold start (R66). -/
def Claims.cold : Claims := { recs := .replicate 24 none, hold := { v := 10, c := 10, s := 10 } }

/-- The source priorities after cold start (R91). -/
def Priorities.cold : Priorities :=
  { clavier := 1, toll := 2, hour := 3, quarter := 4, single := 5, tune := 6 }

/-- The loss counters at a start (R97). -/
def Losses.zero : Losses :=
  { recovery := 0, late := 0, interlock := 0, claimed := 0, queueFull := 0, hammerFault := 0, silent := 0,
    fetch := 0, stopped := 0 }

/-- The strike engine at a start, with the retained priorities (R100). -/
def Engine.atStart (prio : Priorities) : Engine :=
  { queue := [], slots := .replicate 4 none, rotation := 23, priorities := prio, losses := .zero }

/-- An EMPTY quarter buffer (R101). -/
def Buffer.empty : Buffer := { state := .empty, slot := none, tune := none, status := none, change := none }

/-- The chime players at a start, before the first program hand-over (R121). -/
def Players.atStart : Players :=
  { program := none, held := [], buffers := .replicate 4 .empty, clockFetch := none, quarterRun := none,
    hourRun := none, lastHour := none, request := { state := .idle, run := none, last := none },
    tolls := { v := none, c := none, s := none }, nextRun := 0 }

/-- A key at a start (R122). -/
def Key.unknown : Key := { last := none, state := none, condition := .unknown }

/-- The clavier at a start, with its retained settings (08, "state after each start"). -/
def Clavier.atStart (mode : KeyMode) (cls : Nat) (binding : Option Port) : Clavier :=
  { mode := mode, cls := cls, binding := binding, keys := .replicate 32 .unknown, pedal := .unknown,
    arbiter := .free, queue := [], overrun := false, overruns := 0, allStops := 0, lastAllStop := none,
    registered := 0, queued := 0, granted := 0, dropped := 0 }

/-- A swing record at a start (R148). -/
def SwingRec.atStart : SwingRec :=
  { state := .unreported, origin := none, minutes := none, durationEnd := none, timer := none, edges := 0,
    lastPulse := none, fault := none, lastCause := none }

/-- The swing controller at a start, before the first program hand-over (R148). -/
def Swing.atStart : Swing :=
  { recs := .replicate 24 .atStart, runs := [], guard := none, day := none, held := [], history := [],
    nextRun := 0 }

/-- A circuit record at a start, with its retained configuration (R169). -/
def CircuitRec.atStart (cfg : CircuitConfig) : CircuitRec :=
  { config := cfg, planLevel := 0, override := none, wanted := 0, granted := 0, current := 0, shed := false,
    ramp := none, rampTime := 0 }

/-- A circuit's configuration after cold start (R150). -/
def CircuitConfig.cold : CircuitConfig := { weight := 0, rank := 0, floor := 0, fallback := 0 }

/-- The lighting controller after cold start, once the first hand-over has been taken (R169). -/
def Lights.cold : Lights :=
  { circuits := .replicate 8 (.atStart .cold), plans := .replicate 8 [],
    solar := .replicate 24 { sunrise := 360, sunset := 1080 }, handDate := some .cold, plan := none,
    valid := false, dateSeen := some .cold, timelineDate := some .cold, timeline := [], held := [] }

/-- The load controller after cold start (R152). -/
def Load.cold : Load := { capacity := 0, reserve := 0, wait := 120, queue := [] }

/-- The link counters at a start (R177). -/
def LinkCounters.zero : LinkCounters :=
  { taken := 0, sent := 0, lengthErrors := 0, checkErrors := 0, gaps := 0, framing := 0, overflows := 0 }

/-- A port record at a start, with its retained rights and mask, and no notice pending. -/
def PortRec.atStart (rights : BitVec 10) (mask : BitVec 14) : PortRec :=
  { waiting := [], receiver := .hunt, rights := rights, notices := 0, mask := mask, outstanding := none,
    completion := none, parts := none, snapshot := none, counters := .zero, response := none,
    restart := false }

/-- The notices pending after the first cold start: CLAIM, raised at every start (R66), and MAINS, raised
after a start that follows a return of mains (R176); bits 4 and 11. -/
def startNotices : BitVec 14 := 0x0810

/-- The link controller after cold start (R174, R175, R176): the rights of R174's table. -/
def Link.cold : Link :=
  { ports :=
      { v := { PortRec.atStart 0x0F8 0 with notices := startNotices }
        c := { PortRec.atStart 0x038 0 with notices := startNotices }
        s := { PortRec.atStart 0x3FF 0 with notices := startNotices } }
    locks := 0 }

/-- The store controller at a start over the flash `flash` (R178, R179, R180). -/
def Store.atStart (flash : List Host.Cell) (cuts : Nat) : Store :=
  { flash := flash, directory := .replicate 64 .unknown, executing := none, queue := [], staging := none,
    cuts := cuts }

/-- The part right after the cold start of its first power-up: every piece of state at the cold-start value
of its chapter, the first date change and program hand-over taken (R19, R32), no command waiting.
See notes/assumptions/30.md. -/
def State.reset : State :=
  { pending := []
    power := .on
    tk := .cold
    cal := .cold
    dials := .replicate 4 .cold
    bells := .cold
    claims := .cold
    engine := .atStart .cold
    players := { Players.atStart with program := some .cold }
    clavier := .atStart .lockout 2 (some .c)
    swing := { Swing.atStart with day := some (.cold, []) }
    lights := .cold
    load := .cold
    link := .cold
    store := .atStart [] 0
    signals := [] }

end Sys2Proof.Machine
end

