-- ==== Sys2Proof/Machine/Dates.lean ====
section
/-! DEFINITION. The arithmetic of dates and times of day: month lengths, weekdays, day numbers, the advance of the
counters, local time, and the days that a week and a weekday name in a month (R2, R9). -/

namespace Sys2Proof.Machine

/-- A leap year is divisible by 4 but not by 100, or divisible by 400 (R2). -/
def isLeap (y : Nat) : Bool := (y % 4 == 0 && y % 100 != 0) || y % 400 == 0

/-- The days of month `m` of the full year `y` (R2). -/
def daysInMonth (y m : Nat) : Nat :=
  if m == 2 then (if isLeap y then 29 else 28)
  else if m == 4 || m == 6 || m == 9 || m == 11 then 30 else 31

/-- The days of the year `y` before the first of month `m`. -/
def daysBefore (y m : Nat) : Nat := ((List.range (m - 1)).map fun k => daysInMonth y (k + 1)).sum

/-- The number of a day within its year, 1 for 1 January. -/
def Date.ordinal (d : Date) : Nat := daysBefore d.year d.month + d.day

/-- Days counted from a fixed day long past; consecutive dates have consecutive numbers. -/
def Date.number (d : Date) : Nat :=
  365 * (d.year - 1) + (d.year - 1) / 4 - (d.year - 1) / 100 + (d.year - 1) / 400 + d.ordinal

/-- The weekday of a date, 0 for Sunday (R2): 1 January 2000 is a Saturday. -/
def Date.weekday (d : Date) : Nat := d.number % 7

/-- Whether the month has the day, and the year has the month. -/
def Date.inCalendar (d : Date) : Bool :=
  1 ≤ d.month && d.month ≤ 12 && 1 ≤ d.day && d.day ≤ daysInMonth d.year d.month

/-- The date after `d`. -/
def Date.next (d : Date) : Date :=
  if d.day < daysInMonth d.year d.month then { d with day := d.day + 1 }
  else if d.month < 12 then { year := d.year, month := d.month + 1, day := 1 }
  else { year := d.year + 1, month := 1, day := 1 }

/-- Whether `d` is later than `e`. -/
def Date.later (d e : Date) : Bool :=
  e.year < d.year || (d.year == e.year && (e.month < d.month || (d.month == e.month && e.day < d.day)))

/-- The day of month `m` of year `y` that the week and the weekday name (R9): for week n, the named weekday at or
after day 7(n - 1) + 1; for LAST, the named weekday at or before the last day. -/
def dayOfWeek (y m : Nat) (week : Week) (weekday : Nat) : Nat :=
  match week with
  | .nth n =>
    let first := 7 * (n - 1) + 1
    first + (weekday + 7 - Date.weekday ⟨y, m, first⟩) % 7
  | .last =>
    let last := daysInMonth y m
    last - (Date.weekday ⟨y, m, last⟩ + 7 - weekday % 7) % 7

/-- The standard date that the counters hold (R2). -/
def Counters.date (c : Counters) : Date := ⟨c.century * 100 + c.year, c.month, c.day⟩

/-- The standard instant in ticks. -/
def Counters.ticks (c : Counters) : Nat :=
  (((c.date.number * 24 + c.hour) * 60 + c.minute) * 60 + c.second) * Config.second + c.tick

/-- The instant at which counting stops (R2): 2999-12-31 23:59:59+255. -/
def Counters.final : Counters :=
  { century := 29, year := 99, month := 12, day := 31, hour := 23, minute := 59, second := 59, tick := 255 }

/-- The date counters moved to `d`. -/
def Counters.withDate (c : Counters) (d : Date) : Counters :=
  { c with century := d.year / 100, year := d.year % 100, month := d.month, day := d.day }

/-- The counters one tick later: the tick counter carries at 256, the second at 60 and so on (R1, R2). -/
def Counters.advance (c : Counters) : Counters :=
  if c.tick < 255 then { c with tick := c.tick + 1 }
  else if c.second < 59 then { c with tick := 0, second := c.second + 1 }
  else if c.minute < 59 then { c with tick := 0, second := 0, minute := c.minute + 1 }
  else if c.hour < 23 then { c with tick := 0, second := 0, minute := 0, hour := c.hour + 1 }
  else { c with tick := 0, second := 0, minute := 0, hour := 0 }.withDate c.date.next

/-- Local time: standard time, plus 60 minutes while daylight time is in force (00_scope.md, "local time"). -/
def Counters.toLocal (c : Counters) (dst : Bool) : LocalTime :=
  if dst then
    if c.hour < 23 then ⟨c.date, c.hour + 1, c.minute, c.second, c.tick⟩
    else ⟨c.date.next, 0, c.minute, c.second, c.tick⟩
  else ⟨c.date, c.hour, c.minute, c.second, c.tick⟩

/-- The minute of the day (00_scope.md, "minutes of the day"). -/
def LocalTime.minuteOfDay (t : LocalTime) : Nat := t.hour * 60 + t.minute

/-- Minutes counted across days. -/
def LocalTime.minuteNumber (t : LocalTime) : Nat := t.date.number * 1440 + t.minuteOfDay

/-- Ticks since local midnight. -/
def LocalTime.tickOfDay (t : LocalTime) : Nat :=
  ((t.hour * 60 + t.minute) * 60 + t.second) * Config.second + t.tick

/-- Whether local time `t` is later than `u`. -/
def LocalTime.later (t u : LocalTime) : Bool :=
  u.date.number < t.date.number || (t.date.number == u.date.number && u.tickOfDay < t.tickOfDay)

/-- Quarter instants counted across days: consecutive instants have consecutive numbers, and one is later than
another exactly when its number is greater (R12). -/
def QuarterInstant.number (q : QuarterInstant) : Nat := q.date.number * 96 + q.index

/-- The latest quarter instant that is not later than `t`. -/
def LocalTime.quarter (t : LocalTime) : QuarterInstant := ⟨t.date, t.hour * 4 + t.minute / 15⟩

/-- Whether a quarter instant is later than the guard; every one is later than EMPTY (R12). -/
def QuarterInstant.laterThan (q : QuarterInstant) (guard : Option QuarterInstant) : Bool :=
  match guard with
  | none => true
  | some g => g.number < q.number

/-- The hour after the one that `t` lies in, as a quarter instant. -/
def LocalTime.nextHour (t : LocalTime) : QuarterInstant :=
  if t.hour < 23 then ⟨t.date, (t.hour + 1) * 4⟩ else ⟨t.date.next, 0⟩

/-- The begin or end of daylight time in year `y`, as an hour counted within the year's order (R9). -/
def DstPart.hourKey (p : DstPart) (y : Nat) : Nat :=
  (p.month * 32 + dayOfWeek y p.month p.week p.weekday) * 24 + p.hour

/-- The in-force flag that the rule gives for the standard instant of the counters (R10). -/
def DstRule.inForceAt (r : DstRule) (c : Counters) : Bool :=
  let b := r.begins.hourKey c.date.year
  let e := r.ends.hourKey c.date.year
  let t := (c.month * 32 + c.day) * 24 + c.hour
  if !r.enabled then false
  else if b < e then b ≤ t && t < e
  else if e < b then b ≤ t || t < e
  else false

end Sys2Proof.Machine
end

