-- ==== Sys2Proof/Machine/Ops.lean ====
section
/-! DEFINITION. The named reads and changes of the state: one changer for each block, the records of bells, trains,
circuits and ports, and what follows from the records at once (the drive outputs, the pulse-in-flight flag, the
mirrored swing state, the lock-out). -/

namespace Sys2Proof.Machine

namespace PerPort

/-- The value of port `p`. -/
def get (t : PerPort α) : Port → α
  | .v => t.v
  | .c => t.c
  | .s => t.s

/-- The value of port `p` replaced. -/
def set (t : PerPort α) (p : Port) (a : α) : PerPort α :=
  match p with
  | .v => { t with v := a }
  | .c => { t with c := a }
  | .s => { t with s := a }

/-- The value of every port changed by `f`. -/
def map (t : PerPort α) (f : α → β) : PerPort β := { v := f t.v, c := f t.c, s := f t.s }

end PerPort

/-- The bells in ascending number. -/
def allBells : List Bell := List.finRange 24

/-- The circuits in ascending number. -/
def allCircuits : List Circuit := List.finRange 8

/-- The trains in ascending number. -/
def allTrains : List Train := List.finRange 4

/-- Bell number `n` of the data book, 1..24. -/
def bellOf? (n : Nat) : Option Bell := if h : 1 ≤ n ∧ n ≤ 24 then some ⟨n - 1, by omega⟩ else none

/-- Train number `n`, 1..4. -/
def trainOf? (n : Nat) : Option Train := if h : 1 ≤ n ∧ n ≤ 4 then some ⟨n - 1, by omega⟩ else none

/-- Circuit number `n`, 1..8. -/
def circuitOf? (n : Nat) : Option Circuit := if h : 1 ≤ n ∧ n ≤ 8 then some ⟨n - 1, by omega⟩ else none

/-- Hammer slot number `n`, 1..4. -/
def hammerSlotOf? (n : Nat) : Option HammerSlot := if h : 1 ≤ n ∧ n ≤ 4 then some ⟨n - 1, by omega⟩ else none

/-- The bells of a set, in ascending number. -/
def bellsOf (m : BellSet) : List Bell := allBells.filter fun b => m.getLsbD b.val

/-- The set of a list of bells. -/
def bellSetOf (l : List Bell) : BellSet := l.foldl (fun m b => m ||| BitVec.twoPow 24 b.val) 0

/-- The circuits of a mask, in ascending number. -/
def circuitsOf (m : CircuitMask) : List Circuit := allCircuits.filter fun c => m.getLsbD c.val

/-- Whether a park demand set is empty (R54). -/
def Demands.isEmpty (d : Demands) : Bool := !d.lockout && !d.swing && !d.rope && !d.start

namespace State

/-- A change of the timekeeper. -/
def modTk (f : Timekeeper → Timekeeper) (s : State) : State := { s with tk := f s.tk }
/-- A change of the calendar. -/
def modCal (f : Calendar → Calendar) (s : State) : State := { s with cal := f s.cal }
/-- A change of the dial-train records. -/
def modDials (f : Table 4 Dial → Table 4 Dial) (s : State) : State := { s with dials := f s.dials }
/-- A change of the bell table. -/
def modBells (f : BellTable → BellTable) (s : State) : State := { s with bells := f s.bells }
/-- A change of the claims table. -/
def modClaims (f : Claims → Claims) (s : State) : State := { s with claims := f s.claims }
/-- A change of the strike engine. -/
def modEngine (f : Engine → Engine) (s : State) : State := { s with engine := f s.engine }
/-- A change of the chime players. -/
def modPlayers (f : Players → Players) (s : State) : State := { s with players := f s.players }
/-- A change of the clavier scanner. -/
def modClavier (f : Clavier → Clavier) (s : State) : State := { s with clavier := f s.clavier }
/-- A change of the swing controller. -/
def modSwing (f : Swing → Swing) (s : State) : State := { s with swing := f s.swing }
/-- A change of the lighting controller. -/
def modLights (f : Lights → Lights) (s : State) : State := { s with lights := f s.lights }
/-- A change of the load controller. -/
def modLoad (f : Load → Load) (s : State) : State := { s with load := f s.load }
/-- A change of the link controller. -/
def modLink (f : Link → Link) (s : State) : State := { s with link := f s.link }
/-- A change of the store controller. -/
def modStore (f : Store → Store) (s : State) : State := { s with store := f s.store }
/-- A signal between blocks, to be delivered within the same command. -/
def signal (x : Signal) (s : State) : State := { s with signals := s.signals ++ [x] }

/-- The running count now (R1). -/
def now (s : State) : Nat := s.tk.runCount

/-- Local time now. -/
def localTime (s : State) : LocalTime := s.tk.counters.toLocal s.tk.dstInForce

/-- The record of bell `b`. -/
def bell (s : State) (b : Bell) : BellRec := s.bells.bells.get b

/-- The configuration part of bell `b`. -/
def config (s : State) (b : Bell) : BellConfig := (s.bell b).config

/-- A change of bell `b`'s record. -/
def modBell (b : Bell) (f : BellRec → BellRec) (s : State) : State :=
  s.modBells fun t => { t with bells := t.bells.modify b f }

/-- The record of train `n`. -/
def dial (s : State) (n : Train) : Dial := s.dials.get n

/-- A change of train `n`'s record. -/
def modDial (n : Train) (f : Dial → Dial) (s : State) : State := s.modDials (·.modify n f)

/-- The swing record of bell `b`. -/
def swingRec (s : State) (b : Bell) : SwingRec := s.swing.recs.get b

/-- A change of bell `b`'s swing record. -/
def modSwingRec (b : Bell) (f : SwingRec → SwingRec) (s : State) : State :=
  s.modSwing fun w => { w with recs := w.recs.modify b f }

/-- The swing state of bell `b`, which the bell table mirrors (R49, R61). -/
def swingState (s : State) (b : Bell) : SwingState := (s.swingRec b).state

/-- The claim on bell `b`, `none` for a free bell. -/
def claim (s : State) (b : Bell) : Option Claim := s.claims.recs.get b

/-- Bell `b`'s claim record replaced. -/
def setClaim (b : Bell) (c : Option Claim) (s : State) : State :=
  s.modClaims fun t => { t with recs := t.recs.set b c }

/-- The record of circuit `c`. -/
def circuit (s : State) (c : Circuit) : CircuitRec := s.lights.circuits.get c

/-- A change of circuit `c`'s record. -/
def modCircuit (c : Circuit) (f : CircuitRec → CircuitRec) (s : State) : State :=
  s.modLights fun l => { l with circuits := l.circuits.modify c f }

/-- The record of port `p`. -/
def port (s : State) (p : Port) : PortRec := s.link.ports.get p

/-- A change of port `p`'s record. -/
def modPort (p : Port) (f : PortRec → PortRec) (s : State) : State :=
  s.modLink fun l => { l with ports := l.ports.set p (f (l.ports.get p)) }

/-- A change of quarter buffer `q`. -/
def modBuffer (q : Quarter) (f : Buffer → Buffer) (s : State) : State :=
  s.modPlayers fun y => { y with buffers := y.buffers.modify q f }

/-- Whether the lock-out is on: its debounced input is true (R62). -/
def lockedOut (s : State) : Bool := s.bells.lockout.state == some true

/-- Whether a hammer pulse is in flight on bell `b`: a slot drives it (R49, R88). -/
def pulsing (s : State) (b : Bell) : Bool :=
  s.engine.slots.rows.any fun x => x.any fun k => k.bell == b

/-- The park demand set of bell `b` holds a demand. -/
def demanded (s : State) (b : Bell) : Bool := !(s.bell b).demands.isEmpty

/-- The bell's needed load s: the larger of its start and running loads (R164). -/
def neededLoad (s : State) (b : Bell) : Nat := max (s.config b).startLoad (s.config b).runLoad

/-- The number of bells in RINGING (R133). -/
def ringing (s : State) : Nat := (allBells.filter fun b => s.swingState b == .ringing).length

/-! ### The drive outputs (00_scope.md, "terminal functions") -/

/-- HMb: driven while a slot drives the bell (R93, R94). -/
def hammerLine (s : State) (b : Bell) : Bool := s.pulsing b

/-- PKb: driven in PARKING and PARKED, and in FAULT while a demand is present (R55 to R59). -/
def parkLine (s : State) (b : Bell) : Bool :=
  match (s.bell b).hammer with
  | some .parking | some .parked => true
  | some .fault => s.demanded b
  | _ => false

/-- MTb, the motor enable line (R61). -/
def motorLine (s : State) (b : Bell) : Bool := (s.bell b).motor

/-- DAn and DBn: the line of the polarity that the impulse in flight drives (R37). -/
def dialLine (s : State) (n : Train) (p : Polarity) : Bool :=
  (s.dial n).impulse.any fun i => i.polarity == p

/-- LTc: the current level (R150). -/
def lightLine (s : State) (c : Circuit) : Nat := (s.circuit c).current

end State

end Sys2Proof.Machine
end

