-- ==== Sys2Proof/Machine/Flags.lean ====
section
/-! DEFINITION. The flags that the masters see: the notice sets, masks and attention lines (R176), the rights and
section locks (R174, R175), and the saturating counters of losses and of the links (R97, R177). -/

namespace Sys2Proof.Machine

/-- The bit of a notice kind (11, "layouts"). -/
def NoticeKind.bit (k : NoticeKind) : BitVec 14 := BitVec.twoPow 14 k.ctorIdx

/-- The bit of a class of rights (R174). -/
def Right.bit (r : Right) : BitVec 10 := BitVec.twoPow 10 r.ctorIdx

/-- The bit of a section (R175). -/
def Sect.bit (x : Sect) : BitVec 6 := BitVec.twoPow 6 x.ctorIdx

/-- A saturating 16-bit counter one higher (00_scope.md, "numbers"). -/
def bump (n : Nat) : Nat := if n < Config.saturation then n + 1 else n

namespace State

/-- A notice raised on port `p` adds its kind to the pending set (R176). -/
def raise (k : NoticeKind) (p : Port) (s : State) : State :=
  s.modPort p fun r => { r with notices := r.notices ||| k.bit }

/-- A notice raised on all three ports. -/
def raiseAll (k : NoticeKind) (s : State) : State := ((s.raise k .v).raise k .c).raise k .s

/-- A notice raised on a port, or on all three where none is named (R166: PROGRAM). -/
def raiseFor (k : NoticeKind) (p : Option Port) (s : State) : State :=
  match p with
  | some p => s.raise k p
  | none => s.raiseAll k

/-- The attention line of port `p` is asserted while its set holds a kind that the mask does not name;
while mains is absent the lines are released (R176). -/
def attention (s : State) (p : Port) : Bool :=
  s.power == .on && (s.port p).notices &&& ~~~(s.port p).mask != 0

/-- Whether port `p` holds the right `r` (R174). -/
def holds (s : State) (p : Port) (r : Right) : Bool := (s.port p).rights &&& r.bit != 0

/-- Whether the section `x` is locked (R175). -/
def locked (s : State) (x : Sect) : Bool := s.link.locks &&& x.bit != 0

end State

/-- The counter of a loss reason: NO-HAMMER is counted under INTERLOCK (R97). -/
def Losses.read (l : Losses) : DropReason → Nat
  | .recovery => l.recovery
  | .late => l.late
  | .interlock | .noHammer => l.interlock
  | .claimed => l.claimed
  | .queueFull => l.queueFull
  | .hammerFault => l.hammerFault
  | .silent => l.silent
  | .fetch => l.fetch
  | .stopped => l.stopped

/-- The counter of a loss reason raised by one, saturating (R97). -/
def Losses.count (l : Losses) : DropReason → Losses
  | .recovery => { l with recovery := bump l.recovery }
  | .late => { l with late := bump l.late }
  | .interlock | .noHammer => { l with interlock := bump l.interlock }
  | .claimed => { l with claimed := bump l.claimed }
  | .queueFull => { l with queueFull := bump l.queueFull }
  | .hammerFault => { l with hammerFault := bump l.hammerFault }
  | .silent => { l with silent := bump l.silent }
  | .fetch => { l with fetch := bump l.fetch }
  | .stopped => { l with stopped := bump l.stopped }

namespace State

/-- One loss: its counter rises and LOSS is raised on all ports, unless the counter has saturated (R97, R98). -/
def lose (r : DropReason) (s : State) : State :=
  if s.engine.losses.read r < Config.saturation then
    (s.modEngine fun e => { e with losses := e.losses.count r }).raiseAll .loss
  else s

end State

/-- The errors that a receiver counts (R170, R177). -/
inductive LinkError where
  | length | check | gap | framing | overflow
  deriving DecidableEq, Repr

/-- The counter of a receive error. -/
def LinkCounters.read (l : LinkCounters) : LinkError → Nat
  | .length => l.lengthErrors
  | .check => l.checkErrors
  | .gap => l.gaps
  | .framing => l.framing
  | .overflow => l.overflows

/-- The counter of a receive error raised by one, saturating (R177). -/
def LinkCounters.count (l : LinkCounters) : LinkError → LinkCounters
  | .length => { l with lengthErrors := bump l.lengthErrors }
  | .check => { l with checkErrors := bump l.checkErrors }
  | .gap => { l with gaps := bump l.gaps }
  | .framing => { l with framing := bump l.framing }
  | .overflow => { l with overflows := bump l.overflows }

namespace State

/-- A receive error on port `p`: counted, and LINK raised on the port unless the counter has saturated (R177). -/
def linkError (p : Port) (x : LinkError) (s : State) : State :=
  if (s.port p).counters.read x < Config.saturation then
    (s.modPort p fun r => { r with counters := r.counters.count x }).raise .link p
  else s

end State

end Sys2Proof.Machine
end

