-- ==== Sys2Proof/Machine/Operands.lean ====
section
/-! DEFINITION. The operands of the requests and the payloads of the responses as bytes: the codings of R182, the
codes and lengths of 11's tables, the rights and sections each request needs (R174, R175), and the reader of
each request's parameters. A reader fails on a value that its rule refuses with BAD-VALUE. -/

namespace Sys2Proof.Machine

/-! ## Writing fields (R182) -/

/-- `w` bytes of a number, low byte first. -/
def le (w n : Nat) : List Byte := (List.range w).map fun i => BitVec.ofNat 8 (n / 256 ^ i)

/-- `w` bytes of a signed number in two's complement, low byte first. -/
def leInt (w : Nat) (i : Int) : List Byte := le w (i % (256 ^ w : Nat)).toNat

/-- A flag: 00h no or clear, 01h yes or set. -/
def wFlag (b : Bool) : List Byte := le 1 b.toNat

/-- A field of named values: the number of the name in the order of its type. -/
def wName (k : Nat) : List Byte := le 1 k

/-- A field that holds a value of `w` bytes or one name: 00h and the value, or 01h and zeros. -/
def wOr (w : Nat) (f : α → List Byte) : Option α → List Byte
  | some a => le 1 0 ++ f a
  | none => le 1 1 ++ le w 0

/-- A number of `w` bytes or one name. -/
def wOpt (w : Nat) : Option Nat → List Byte := wOr w (le w)

/-- A list, preceded by the number of its items. -/
def wList (f : α → List Byte) (l : List α) : List Byte := le 1 l.length ++ l.flatMap f

/-- A bell number. -/
def wBell (b : Bell) : List Byte := le 1 (b.val + 1)

/-- A set of bells. -/
def wBells (m : BellSet) : List Byte := le 3 m.toNat

/-- A full date: the full year in 2 bytes, the month and the day. -/
def wDate (d : Date) : List Byte := le 2 d.year ++ le 1 d.month ++ le 1 d.day

/-- A date and time to the tick, in the order of SET-TIME's fields. -/
def wTime (c : Counters) : List Byte :=
  le 1 c.century ++ le 1 c.year ++ le 1 c.month ++ le 1 c.day ++ le 1 c.hour ++ le 1 c.minute ++ le 1 c.second ++
    le 1 c.tick

/-- A local time, coded as a standard time is. -/
def wLocal (t : LocalTime) : List Byte :=
  wTime (Counters.withDate { Counters.cold with hour := t.hour, minute := t.minute, second := t.second, tick := t.tick } t.date)

/-- A quarter instant: its date and its index. -/
def wQuarter (q : QuarterInstant) : List Byte := wDate q.date ++ le 1 q.index

/-- A port, numbered V, C, S. -/
def wPort (p : Port) : List Byte := wName p.ctorIdx

/-- A port, or the name that follows the three (R78, R126, R166). -/
def wPortOr : Option Port → List Byte
  | some p => wPort p
  | none => wName 3

/-- NONE or a port, NONE listed first (R66). -/
def wOwner : Option Port → List Byte
  | some p => wName (p.ctorIdx + 1)
  | none => wName 0

/-- An instant of the running count, 48 bits (R1). -/
def wCount (n : Nat) : List Byte := le 6 n

/-- An instant of the running count or NONE. -/
def wCountOr : Option Nat → List Byte := wOpt 6

/-- Ticks from `now` to an instant, 0 if it has been reached. -/
def wTicksTo (now at_ : Nat) : List Byte := le 4 (at_ - now)

/-- Ticks from `now` to an instant, or NONE. -/
def wTicksToOr (now : Nat) : Option Nat → List Byte := wOr 4 (wTicksTo now)

/-- A sensor's reading or debounced state in R51's order: true 00h, false 01h, UNKNOWN 02h. -/
def wReading : Option Bool → List Byte
  | some true => wName 0
  | some false => wName 1
  | none => wName 2

/-- A key's debounced state, or the pedal's, in R122's order: OPEN 00h, CLOSED 01h, UNKNOWN 02h. -/
def wKeyState : Option Bool → List Byte
  | some false => wName 0
  | some true => wName 1
  | none => wName 2

/-- A week: a number, or LAST. -/
def wWeek : Week → List Byte
  | .nth n => le 1 0 ++ le 1 n
  | .last => le 1 1 ++ le 1 0

/-- A tune note as it is stored (11, "layouts"). -/
def wNote (n : Note) : List Byte := le 1 n.bell ++ le 1 (n.gap / 4) ++ le 1 (n.gap % 4 * 64 + (n.cls - 1))

/-! ## Reading fields (R182) -/

/-- A reader of parameter bytes; it fails on a value out of range. -/
abbrev Rd := StateT (List Byte) Option

/-- One byte. -/
def rByte : Rd Nat := fun l =>
  match l with
  | [] => none
  | b :: r => some (b.toNat, r)

/-- A number of `w` bytes, low byte first. -/
def rNum : Nat → Rd Nat
  | 0 => pure 0
  | w + 1 => do
    let b ← rByte
    let n ← rNum w
    pure (b + 256 * n)

/-- A value that must satisfy a test. -/
def rGuard (ok : Bool) : Rd Unit := if ok then pure () else failure

/-- A number of `w` bytes that is refused outside `lo..hi`. -/
def rIn (w lo hi : Nat) : Rd Nat := do
  let n ← rNum w
  rGuard (lo ≤ n && n ≤ hi)
  pure n

/-- A signed number of 2 bytes. -/
def rInt : Rd Int := do
  let n ← rNum 2
  pure (if n < 32768 then (n : Int) else (n : Int) - 65536)

/-- An operational value: 2 bytes, clamped to `lo..hi`. -/
def rClamp (lo hi : Nat) : Rd Nat := do
  let n ← rNum 2
  pure (max lo (min n hi))

/-- A signed operational value: 2 bytes, clamped to `lo..hi`. -/
def rClampInt (lo hi : Int) : Rd Int := do
  let n ← rInt
  pure (max lo (min n hi))

/-- A flag: 00h or 01h. -/
def rFlag : Rd Bool := do
  let n ← rIn 1 0 1
  pure (n == 1)

/-- A field of named values, the names in the order of their codes. -/
def rName (names : List α) : Rd α := do
  let n ← rByte
  match names[n]? with
  | some a => pure a
  | none => failure

/-- `w` bytes that are zero, where a field is absent. See notes/assumptions/23.md. -/
def rZeros (w : Nat) : Rd Unit := do
  let n ← rNum w
  rGuard (n == 0)

/-- A value of `w` bytes or one of the names: 00h and the value, or the name's code and zeros. -/
def rOr (w : Nat) (value : Rd α) (names : List α) : Rd α := do
  let k ← rByte
  if k == 0 then value
  else match names[k - 1]? with
    | some a => do
      rZeros w
      pure a
    | none => failure

/-- A number below `n`, as an index. -/
def rFin (w n : Nat) : Rd (Fin n) := do
  let k ← rNum w
  if h : k < n then pure ⟨k, h⟩ else failure

/-- A number 1..n, as an index. -/
def rFin1 (n : Nat) : Rd (Fin n) := do
  let k ← rByte
  if h : 1 ≤ k ∧ k ≤ n then pure ⟨k - 1, by omega⟩ else failure

/-- A bell number 1..24. -/
def rBell : Rd Bell := rFin1 24

/-- A set of bells. -/
def rBells : Rd BellSet := do
  let n ← rNum 3
  pure (BitVec.ofNat 24 n)

/-- A mask of circuits. -/
def rCircuits : Rd CircuitMask := do
  let n ← rByte
  pure (BitVec.ofNat 8 n)

/-- SLIP or DROP. -/
def rPolicy : Rd Policy := rName [.slip, .drop]

/-- `n` items read one after the other. -/
def rTimes (item : Rd α) : Nat → Rd (List α)
  | 0 => pure []
  | n + 1 => do
    let a ← item
    let l ← rTimes item n
    pure (a :: l)

/-- A date of the calendar: a full year 1900..2999, a month, and a day that the month has. -/
def rDate : Rd Date := do
  let y ← rIn 2 1900 2999
  let m ← rIn 1 1 12
  let d ← rByte
  rGuard (1 ≤ d && d ≤ daysInMonth y m)
  pure ⟨y, m, d⟩

/-- A week 1..4 or LAST. -/
def rWeek : Rd Week := rOr 1 (do let n ← rIn 1 1 4; pure (.nth n)) [.last]

/-- What a reader makes of all the bytes of `l`. -/
def readAll (r : Rd α) (l : List Byte) : Option α :=
  match r l with
  | some (a, []) => some a
  | _ => none

/-! ## The request codes -/

/-- What the link controller knows of a request (R171, R174, R175): whether a number of parameter bytes is one
that the code allows, the right and the section it needs where these do not depend on its parameters, and
whether it is delayed. -/
structure RequestRow where
  fits : List Byte → Bool
  right : Option Right := none
  sect : Option Sect := none
  delayed : Bool := false
  read : Bool := false

/-- A row of a request of `n` parameter bytes. -/
def RequestRow.of (n : Nat) (right : Option Right := none) (sect : Option Sect := none) : RequestRow :=
  { fits := fun l => l.length == n, right := right, sect := sect }

/-- A row of a read with `n` parameter bytes before its page number (R172); reads need no right. See notes/assumptions/20.md. -/
def RequestRow.ofRead (n : Nat) : RequestRow := { fits := fun l => l.length == n + 1, read := true }

/-- A row of a request that is sent in parts: a part number, a part count and any share (R172, R182). -/
def RequestRow.ofParts (right : Right) (sect : Sect) : RequestRow :=
  { fits := fun l => 2 ≤ l.length, right := some right, sect := some sect }

/-- A row of a delayed request of `n` parameter bytes (R173). -/
def RequestRow.ofDelayed (n : Nat) (right : Option Right) (sect : Option Sect := none) : RequestRow :=
  { fits := fun l => l.length == n, right := right, sect := sect, delayed := true }

/-- The request codes of 11's table, each with its row; `none` for a code that is not a request code. -/
def requestRow? (code : Nat) : Option RequestRow :=
  match code with
  | 0x01 => some (.of 0)                                                          -- READ-NOTICES
  | 0x02 => some (.of 2)                                                          -- SET-MASK
  | 0x03 => some (.ofRead 0)                                                      -- GET-LINK
  | 0x04 => some (.ofRead 0)                                                      -- GET-DONE
  | 0x05 => some (.of 6 (some .admin) (some .admin))                              -- SET-RIGHTS
  | 0x06 => some (.ofRead 0)                                                      -- GET-RIGHTS
  | 0x07 => some (.of 1 (some .admin))                                            -- LOCK
  | 0x08 => some (.of 0 (some .admin))                                            -- RESTART
  | 0x10 => some (.of 7 (some .time))                                             -- SET-TIME
  | 0x11 => some (.ofRead 0)                                                      -- GET-TIME
  | 0x12 => some (.of 11 (some .clock) (some .clock))                             -- SET-DST
  | 0x13 => some (.ofRead 0)                                                      -- GET-DST
  | 0x14 => some (.of 1)                                                          -- SET-TICK
  | 0x18 => some (.of 4 (some .calendar) (some .calendar))                        -- SET-YEAR-REF
  | 0x19 => some (.of 2 (some .calendar) (some .calendar))                        -- CLEAR-YEAR-REF
  | 0x1A => some (.of 9 (some .calendar) (some .calendar))                        -- SET-ENTRY
  | 0x1B => some                                                                  -- SET-PROGRAM
      { fits := fun l => 27 ≤ l.length && l.length == 27 + 7 * (l.getD 26 0).toNat
        right := some .calendar, sect := some .calendar }
  | 0x1C => some (.ofRead 0)                                                      -- GET-YEAR-REF
  | 0x1D => some (.ofRead 1)                                                      -- GET-ENTRY
  | 0x1E => some (.ofRead 0)                                                      -- GET-ENTRY-MAP
  | 0x1F => some (.ofRead 1)                                                      -- GET-PROGRAM
  | 0x20 => some (.ofRead 0)                                                      -- GET-DAY
  | 0x21 => some (.ofRead 4)                                                      -- CALENDAR-QUERY
  | 0x28 => some (.of 8 (some .clock) (some .clock))                              -- SET-DIAL-CONFIG
  | 0x29 => some (.of 5 (some .clock) (some .clock))                              -- SET-DIAL
  | 0x2A => some (.of 1 (some .clock))                                            -- DIAL-STOP
  | 0x2B => some (.of 1 (some .clock))                                            -- DIAL-RELEASE
  | 0x2C => some (.ofRead 0)                                                      -- GET-DIALS
  | 0x30 => some (.of 20 (some .bells) (some .bells))                             -- SET-BELL
  | 0x31 => some (.ofRead 1)                                                      -- GET-BELL-CONFIG
  | 0x32 => some (.ofRead 0)                                                      -- GET-BELLS
  | 0x33 => some (.ofRead 1)                                                      -- GET-SENSORS
  | 0x34 => some (.of 2)                                                          -- CLEAR-FAULT
  | 0x38 => some (.of 4 (some .claim))                                            -- CLAIM
  | 0x39 => some (.of 3 (some .claim))                                            -- RENEW
  | 0x3A => some (.of 3 (some .claim))                                            -- RELEASE
  | 0x3B => some (.of 2 (some .claim))                                            -- SET-CLAIM-HOLD
  | 0x3C => some (.ofRead 0)                                                      -- GET-CLAIMS
  | 0x40 => some (.of 6 (some .bells) (some .bells))                              -- SET-STRIKE-PRIORITY
  | 0x41 => some (.ofRead 0)                                                      -- GET-STRIKES
  | 0x42 => some (.ofRead 0)                                                      -- GET-COUNTERS
  | 0x48 => some (.ofDelayed 11 (some .strike))                                   -- TUNE-PLAY
  | 0x49 => some (.of 0 (some .strike))                                           -- TUNE-STOP
  | 0x4A => some (.of 7 (some .strike))                                           -- TOLL-START
  | 0x4B => some (.of 0 (some .strike))                                           -- TOLL-STOP
  | 0x4C => some (.of 3 (some .strike))                                           -- STRIKE
  | 0x4D => some (.ofRead 0)                                                      -- GET-PLAYERS
  | 0x50 => some (.of 3)                                                          -- SET-CLAVIER
  | 0x51 => some (.of 0)                                                          -- READ-KEYS
  | 0x52 => some (.ofRead 0)                                                      -- GET-CLAVIER
  | 0x58 => some (.of 6 (some .swing))                                            -- SWING-START
  | 0x59 => some (.of 3 (some .swing))                                            -- SWING-STOP
  | 0x5A => some (.ofRead 0)                                                      -- GET-SWING
  | 0x60 => some (.of 6 (some .lights) (some .lights))                            -- SET-CIRCUIT
  | 0x61 => some (.ofParts .lights .lights)                                       -- SET-PLAN
  | 0x62 => some (.of 9 (some .lights))                                           -- SET-LEVEL
  | 0x63 => some (.ofParts .clock .clock)                                         -- SET-SOLAR
  | 0x64 => some (.of 6 (some .admin) (some .admin))                              -- SET-LOAD
  | 0x65 => some (.ofRead 0)                                                      -- GET-LIGHTS
  | 0x66 => some (.ofRead 0)                                                      -- GET-LOAD
  | 0x67 => some (.ofRead 0)                                                      -- GET-SOLAR
  | 0x68 => some (.ofRead 1)                                                      -- GET-PLAN
  | 0x70 => some (.of 3 (some .store) (some .store))                              -- TUNE-BEGIN
  | 0x71 => some                                                                  -- TUNE-WRITE
      { fits := fun l => 2 ≤ l.length && l.length == 2 + 3 * (l.getD 1 0).toNat
        right := some .store, sect := some .store }
  | 0x72 => some (.ofDelayed 1 (some .store) (some .store))                       -- TUNE-COMMIT
  | 0x73 => some (.ofDelayed 1 none)                                              -- TUNE-INFO
  | 0x74 => some (.ofRead 0)                                                      -- GET-STORE
  | _ => none

/-! ## The parameters of each request, in the order in which its rule names them -/

/-- SET-MASK: no bit beyond the fourteen kinds (R176). -/
def rMask : Rd (BitVec 14) := do
  let n ← rIn 2 0 0x3FFF
  pure (BitVec.ofNat 14 n)

/-- A set of classes of rights: none outside the ten (R174). -/
def rRights : Rd (BitVec 10) := do
  let n ← rIn 2 0 0x3FF
  pure (BitVec.ofNat 10 n)

/-- SET-RIGHTS: the sets of V, C and S, at least one of which holds ADMIN (R174). See notes/assumptions/19.md. -/
def rSetRights : Rd (PerPort (BitVec 10)) := do
  let v ← rRights
  let c ← rRights
  let s ← rRights
  rGuard ((v ||| c ||| s) &&& Right.admin.bit != 0)
  pure { v := v, c := c, s := s }

/-- LOCK: a set of the six sections (R175). -/
def rLock : Rd (BitVec 6) := do
  let n ← rIn 1 0 0x3F
  pure (BitVec.ofNat 6 n)

/-- SET-TIME: a standard date and time to the second, at tick 0 (R4). -/
def rSetTime : Rd Counters := do
  let century ← rIn 1 19 29
  let year ← rIn 1 0 99
  let month ← rIn 1 1 12
  let day ← rByte
  rGuard (1 ≤ day && day ≤ daysInMonth (century * 100 + year) month)
  let hour ← rIn 1 0 23
  let minute ← rIn 1 0 59
  let second ← rIn 1 0 59
  pure ⟨century, year, month, day, hour, minute, second, 0⟩

/-- A part of the daylight rule (R8). -/
def rDstPart : Rd DstPart := do
  let month ← rIn 1 1 12
  let week ← rWeek
  let weekday ← rIn 1 0 6
  let hour ← rIn 1 0 23
  pure ⟨month, week, weekday, hour⟩

/-- SET-DST: the whole record (R8). -/
def rSetDst : Rd DstRule := do
  let enabled ← rFlag
  let b ← rDstPart
  let e ← rDstPart
  pure ⟨enabled, b, e⟩

/-- SET-TICK: a tap code (R18). -/
def rSetTick : Rd Tap := rName [.off, .s1, .s15, .s60, .min15]

/-- CLEAR-YEAR-REF: a full year (R20). -/
def rYear : Rd Nat := rIn 2 1900 2999

/-- The days that month `m` has in some year (R21). -/
def longestMonth (m : Nat) : Nat := daysInMonth 2000 m

/-- A kind with its fields: the code, then the 4 bytes of the largest form (R21, R182). -/
def rKind : Rd EntryKind := do
  let k ← rByte
  match k with
  | 0 => do
    let month ← rIn 1 1 12
    let day ← rByte
    rGuard (1 ≤ day && day ≤ longestMonth month)
    rZeros 2
    pure (.fixed month day)
  | 1 => do
    let o ← rInt
    rGuard (-120 ≤ o && o ≤ 240)
    rZeros 2
    pure (.yearRef o)
  | 2 => do
    let w ← rIn 1 0 6
    rZeros 3
    pure (.weekday w)
  | 3 => do
    let week ← rWeek
    let weekday ← rIn 1 0 6
    let month ← rIn 1 1 12
    pure (.nth week weekday month)
  | _ => failure

/-- A calendar entry (R21). -/
def rEntry : Rd Entry := do
  let kind ← rKind
  let rank ← rIn 1 0 15
  let program ← rFin 1 16
  pure ⟨kind, rank, program⟩

/-- SET-ENTRY: a slot and a whole entry, or EMPTY (R21). See notes/assumptions/16.md. -/
def rSetEntry : Rd (EntrySlot × Option Entry) := do
  let slot ← rFin 1 48
  let e ← rOr 7 (do let e ← rEntry; pure (some e)) [none]
  pure (slot, e)

/-- A tune slot or NONE. -/
def rTuneOr : Rd (Option TuneSlot) := rOr 1 (do let t ← rFin 1 64; pure (some t)) [none]

/-- A ringing slot (R28). -/
def rRingSlot : Rd RingSlot := do
  let start ← rIn 2 0 1439
  let bells ← rBells
  let duration ← rIn 1 1 180
  let stagger ← rIn 1 0 60
  pure ⟨start, bells, duration, stagger⟩

/-- A day program record (R28); that the hour strike's enable is a flag is the model's choice (notes/assumptions/51.md). -/
def rProgram : Rd Program := do
  let q1 ← rTuneOr
  let q2 ← rTuneOr
  let q3 ← rTuneOr
  let q4 ← rTuneOr
  let tempo ← rIn 1 16 255
  let policy ← rPolicy
  let maxSlip ← rByte
  let hourOn ← rFlag
  let hourBell ← rBell
  let hourInterval ← rIn 2 128 2048
  let hourGap ← rIn 2 0 1023
  let hourClass ← rIn 1 1 4
  let busy ← rName [.drop, .defer]
  let silentStart ← rIn 2 0 1439
  let silentEnd ← rIn 2 0 1439
  let plan ← rOr 1 (do let p ← rFin 1 8; pure (some p)) [none]
  let n ← rIn 1 0 4
  let slots ← rTimes rRingSlot n
  pure { tunes := ⟨[q1, q2, q3, q4], rfl⟩, tempo := tempo, policy := policy, maxSlip := maxSlip,
         hourOn := hourOn, hourBell := hourBell, hourInterval := hourInterval, hourGap := hourGap,
         hourClass := hourClass, busy := busy, silentStart := silentStart, silentEnd := silentEnd,
         plan := plan, slots := slots }

/-- SET-PROGRAM: a program number and a whole record (R28). -/
def rSetProgram : Rd (ProgramNo × Program) := do
  let n ← rFin 1 16
  let p ← rProgram
  pure (n, p)

/-- The four configuration fields of a train (R33). -/
structure DialConfig where
  fitted : Bool
  width : Nat
  period : Nat
  hold : Nat
  deriving DecidableEq, Repr

/-- SET-DIAL-CONFIG: a train and its configuration, the period at least the width plus 256 (R33). -/
def rSetDialConfig : Rd (Train × DialConfig) := do
  let n ← rFin1 4
  let fitted ← rFlag
  let width ← rIn 2 128 1024
  let period ← rIn 2 384 4096
  let hold ← rIn 2 0 720
  rGuard (width + 256 ≤ period)
  pure (n, ⟨fitted, width, period, hold⟩)

/-- SET-DIAL: a train, a position and, optionally, a polarity (R42): a flag and then the polarity.
See notes/assumptions/17.md. -/
def rSetDial : Rd (Train × Nat × Option Polarity) := do
  let n ← rFin1 4
  let position ← rIn 2 0 1439
  let given ← rFlag
  if given then do
    let p ← rName [.a, .b]
    pure (n, position, some p)
  else do
    rZeros 1
    pure (n, position, none)

/-- SET-BELL: a bell and its whole configuration part, every field within R46's ranges. -/
def rSetBell : Rd (Bell × BellConfig) := do
  let b ← rBell
  let hammer ← rFlag
  let motor ← rFlag
  let lead ← rByte
  let recovery ← rIn 2 16 1023
  let w1 ← rIn 1 2 64
  let w2 ← rIn 1 2 64
  let w3 ← rIn 1 2 64
  let w4 ← rIn 1 2 64
  let startLoad ← rIn 2 0 1000
  let runLoad ← rIn 2 0 1000
  let startTime ← rIn 1 2 60
  let pulseTimeout ← rIn 1 1 10
  let settleTime ← rIn 1 5 120
  let stopTimeout ← rIn 2 30 600
  let parkTimeout ← rIn 1 1 10
  pure (b, { hammer := hammer, motor := motor, lead := lead, recovery := recovery,
             widths := ⟨[w1, w2, w3, w4], rfl⟩, startLoad := startLoad, runLoad := runLoad,
             startTime := startTime, pulseTimeout := pulseTimeout, settleTime := settleTime,
             stopTimeout := stopTimeout, parkTimeout := parkTimeout })

/-- CLAIM: a bell set and a kind (R69). -/
def rClaim : Rd (BellSet × ClaimKind) := do
  let m ← rBells
  let k ← rName [.chime, .rope]
  pure (m, k)

/-- SET-STRIKE-PRIORITY: the six priorities in the order of R91's table. See notes/assumptions/18.md. -/
def rPriorities : Rd Priorities := do
  let clavier ← rIn 1 0 7
  let toll ← rIn 1 0 7
  let hour ← rIn 1 0 7
  let quarter ← rIn 1 0 7
  let single ← rIn 1 0 7
  let tune ← rIn 1 0 7
  pure ⟨clavier, toll, hour, quarter, single, tune⟩

/-- TUNE-PLAY's fields (R111): a tempo, policy or start of `none` is DEFAULT, DEFAULT or NOW. The start is
in seconds of the local day. -/
structure PlayRequest where
  slot : TuneSlot
  tempo : Option Nat
  policy : Option Policy
  maxSlip : Nat
  start : Option Nat
  deriving DecidableEq, Repr

/-- TUNE-PLAY (R111). -/
def rTunePlay : Rd PlayRequest := do
  let slot ← rFin 1 64
  let tempo ← rOr 2 (do let t ← rClamp 16 255; pure (some t)) [none]
  let policy ← rName [some .slip, some .drop, none]
  let maxSlip ← rClamp 0 255
  let start ← rOr 3 (do
    let h ← rIn 1 0 23
    let m ← rIn 1 0 59
    let s ← rIn 1 0 59
    pure (some ((h * 60 + m) * 60 + s))) [none]
  pure ⟨slot, tempo, policy, maxSlip, start⟩

/-- TOLL-START's fields (R115): the interval is in seconds. -/
structure TollRequest where
  bell : Bell
  interval : Nat
  count : Nat
  cls : Nat
  deriving DecidableEq, Repr

/-- TOLL-START (R115). -/
def rTollStart : Rd TollRequest := do
  let b ← rBell
  let interval ← rClamp 1 60
  let count ← rClamp 0 255
  let cls ← rClamp 1 4
  pure ⟨b, interval, count, cls⟩

/-- STRIKE: a bell and a class (R118). -/
def rStrike : Rd (Bell × Nat) := do
  let b ← rBell
  let cls ← rClamp 1 4
  pure (b, cls)

/-- The binding of SET-CLAVIER: V, C, S or NONE (R126). -/
def rBinding : Rd (Option Port) := rName [some .v, some .c, some .s, none]

/-- SET-CLAVIER: mode, class and binding (R126). -/
def rSetClavier : Rd (KeyMode × Nat × Option Port) := do
  let mode ← rName [.lockout, .rollover]
  let cls ← rIn 1 1 3
  let binding ← rBinding
  pure (mode, cls, binding)

/-- SWING-START: a bell set and a number of minutes, or UNTIL-STOP (R134). -/
def rSwingStart : Rd (BellSet × Option Nat) := do
  let m ← rBells
  let d ← rOr 2 (do let n ← rClamp 1 180; pure (some n)) [none]
  pure (m, d)

/-- SET-CIRCUIT: a circuit and its configuration part (R150). -/
def rSetCircuit : Rd (Circuit × CircuitConfig) := do
  let c ← rFin1 8
  let weight ← rIn 2 0 400
  let rank ← rIn 1 0 8
  let floor ← rByte
  let fallback ← rByte
  pure (c, ⟨weight, rank, floor, fallback⟩)

/-- A trigger with its field, 2 bytes (R158): AT, SUNSET, SUNRISE, RING-START, RING-END. -/
def rTrigger : Rd Trigger := do
  let k ← rByte
  match k with
  | 0 => do
    let m ← rIn 2 0 1439
    pure (.clock m)
  | 1 => do
    let o ← rClampInt (-120) 120
    pure (.sunset o)
  | 2 => do
    let o ← rClampInt (-120) 120
    pure (.sunrise o)
  | 3 => do
    rZeros 2
    pure .ringStart
  | 4 => do
    rZeros 2
    pure .ringEnd
  | _ => failure

/-- A plan step (R158); its level and ramp are operational values. See notes/assumptions/24.md. -/
def rStep : Rd PlanStep := do
  let trigger ← rTrigger
  let mask ← rCircuits
  let level ← rClamp 0 255
  let ramp ← rClamp 0 600
  pure ⟨trigger, mask, level, ramp⟩

/-- SET-PLAN, whole: a plan number and its steps, at most 12 (R158). -/
def rSetPlan : Rd (PlanNo × List PlanStep) := do
  let n ← rFin 1 8
  let k ← rIn 1 0 12
  let steps ← rTimes rStep k
  pure (n, steps)

/-- SET-LEVEL's fields (R163): a level of `none` is RELEASE, an end of `none` NEXT-STEP. -/
structure LevelRequest where
  mask : CircuitMask
  level : Option Nat
  ramp : Nat
  ends : Option Nat
  deriving DecidableEq, Repr

/-- SET-LEVEL (R163). -/
def rSetLevel : Rd LevelRequest := do
  let mask ← rCircuits
  let level ← rOr 2 (do let l ← rClamp 0 255; pure (some l)) [none]
  let ramp ← rClamp 0 600
  let ends ← rOr 2 (do let m ← rIn 2 0 1439; pure (some m)) [none]
  pure ⟨mask, level, ramp, ends⟩

/-- A point of the solar table (R156). -/
def rSolarPoint : Rd SolarPoint := do
  let sunrise ← rIn 2 0 1439
  let sunset ← rIn 2 0 1439
  pure ⟨sunrise, sunset⟩

/-- SET-SOLAR, whole: 24 points (R156). -/
def rSetSolar : Rd (Table 24 SolarPoint) := do
  let l ← rTimes rSolarPoint 24
  if h : l.length = 24 then pure ⟨l, h⟩ else failure

/-- SET-LOAD: capacity, reserve and load wait (R152). -/
def rSetLoad : Rd (Nat × Nat × Nat) := do
  let capacity ← rIn 2 0 4000
  let reserve ← rIn 2 0 1000
  let wait ← rIn 2 10 600
  pure (capacity, reserve, wait)

/-- TUNE-BEGIN: a note count, a default tempo and a policy (R180). -/
def rTuneBegin : Rd (Nat × Nat × Policy) := do
  let count ← rIn 1 1 128
  let tempo ← rIn 1 16 255
  let policy ← rPolicy
  pure (count, tempo, policy)

/-- A note of 3 bytes whose unused bits are zero (R178, R180). -/
def rNote : Rd Note := do
  let bell ← rByte
  let high ← rByte
  let low ← rByte
  rGuard (low / 4 % 16 == 0)
  pure ⟨bell, high * 4 + low / 64, low % 4 + 1⟩

/-- TUNE-WRITE: an offset, a count and that many notes (R180). -/
def rTuneWrite : Rd (Nat × List Note) := do
  let offset ← rIn 1 0 127
  let count ← rIn 1 1 16
  let notes ← rTimes rNote count
  pure (offset, notes)

end Sys2Proof.Machine
end

