-- ==== Sys2Proof/Machine/Flash.lean ====
section
/-! DEFINITION. The external serial flash: 64 tune slots of 512 bytes each at addresses 0 to 32767, its canonical
form, the tune slot's layout and the CRC (R178). -/

namespace Sys2Proof.Machine

/-- What an address that is not listed reads as: FFh, an erased byte (notes/assumptions/7.md). -/
def erased : Byte := 0xFF

/-- The byte at an address. -/
def flashRead : List Host.Cell → Nat → Byte
  | [], _ => erased
  | (a, b) :: rest, x => if a == x then b else flashRead rest x

/-- The flash with one byte written, in canonical form. -/
def flashWrite : List Host.Cell → Nat → Byte → List Host.Cell
  | [], x, v => if v == erased then [] else [(x, v)]
  | (a, b) :: rest, x, v =>
    if a == x then (if v == erased then rest else (x, v) :: rest)
    else if x < a then (if v == erased then (a, b) :: rest else (x, v) :: (a, b) :: rest)
    else (a, b) :: flashWrite rest x v

/-- The flash with bytes written at `x` and on. -/
def flashWriteAll (m : List Host.Cell) (x : Nat) : List Byte → List Host.Cell
  | [] => m
  | v :: l => flashWriteAll (flashWrite m x v) (x + 1) l

/-- The canonical form: addresses strictly rising from `lo`, below 32768, and no FFh listed. -/
def flashWfFrom : Nat → List Host.Cell → Bool
  | _, [] => true
  | lo, (a, b) :: rest => lo ≤ a && a < 64 * Config.slotBytes && b != erased && flashWfFrom (a + 1) rest

/-- The canonical form of the flash. -/
def flashWf (m : List Host.Cell) : Bool := flashWfFrom 0 m

/-- The address of byte 0 of a slot. -/
def slotBase (t : TuneSlot) : Nat := t.val * Config.slotBytes

/-- `n` bytes of a slot from byte `i` on. -/
def slotRead (m : List Host.Cell) (t : TuneSlot) (i n : Nat) : List Byte :=
  (List.range n).map fun k => flashRead m (slotBase t + i + k)

/-- 512 bytes made of the bytes of `l`, FFh after the last. -/
def padSlot (l : List Byte) : List Byte :=
  (l ++ List.replicate Config.slotBytes erased).take Config.slotBytes

/-- A slot erased and programmed with the bytes of `l`. -/
def slotProgram (m : List Host.Cell) (t : TuneSlot) (l : List Byte) : List Host.Cell :=
  flashWriteAll m (slotBase t) (padSlot l)

/-- One bit of the CRC: generator x^16 + x^12 + x^5 + 1, most significant bit first (R178). -/
def crcBit (crc : BitVec 16) (bit : Bool) : BitVec 16 :=
  if crc.getLsbD 15 != bit then (crc <<< 1) ^^^ 0x1021 else crc <<< 1

/-- One byte of the CRC. -/
def crcByte (crc : BitVec 16) (b : Byte) : BitVec 16 :=
  [7, 6, 5, 4, 3, 2, 1, 0].foldl (fun c i => crcBit c (b.getLsbD i)) crc

/-- The CRC-16 of a list of bytes, from the initial value FFFFh, with no final inversion (R178). -/
def crc16 (l : List Byte) : BitVec 16 := l.foldl crcByte 0xFFFF

/-- The code of a policy in a slot header: 00h SLIP, 01h DROP. -/
def Policy.byte : Policy → Byte
  | .slip => 0
  | .drop => 1

/-- The note bytes of a tune, in order. -/
def noteBytes (notes : List Note) : List Byte := notes.flatMap wNote

/-- The CRC of a tune: over header bytes 0 to 2 and then every note byte (R178). -/
def tuneCrc (t : Tune) : BitVec 16 :=
  crc16 (le 1 t.notes.length ++ le 1 t.tempo ++ [t.policy.byte] ++ noteBytes t.notes)

/-- The bytes of a slot that holds a tune, up to its last note (R178, 11 "layouts"). -/
def tuneImage (t : Tune) : List Byte :=
  le 1 t.notes.length ++ le 1 t.tempo ++ [t.policy.byte] ++ le 1 ((tuneCrc t).toNat / 256) ++
    le 1 ((tuneCrc t).toNat % 256) ++ noteBytes t.notes

/-- A note from its 3 bytes (11, "layouts"). -/
def noteOf (bell high low : Byte) : Note :=
  ⟨bell.toNat, high.toNat * 4 + low.toNat / 64, low.toNat % 4 + 1⟩

/-- The notes of a run of note bytes. -/
def notesOf : List Byte → List Note
  | a :: b :: c :: rest => noteOf a b c :: notesOf rest
  | _ => []

/-- What a slot reads as (R178). -/
inductive SlotContent where
  | empty
  | bad
  | tune (t : Tune)
  deriving DecidableEq, Repr

/-- How a slot reads: EMPTY when its note-count byte is FFh; bad when its header is out of range or its CRC does not
match; else its tune (R178). -/
def slotContent (m : List Host.Cell) (s : TuneSlot) : SlotContent :=
  let count := (flashRead m (slotBase s)).toNat
  let tempo := (flashRead m (slotBase s + 1)).toNat
  let policy := (flashRead m (slotBase s + 2)).toNat
  let crc := slotRead m s 3 2
  if count == 255 then .empty
  else if count == 0 || 129 ≤ count || tempo < 16 || 1 < policy then .bad
  else
    let bytes := slotRead m s 5 (3 * count)
    if crc16 (slotRead m s 0 3 ++ bytes) == BitVec.ofNat 16 ((crc.getD 0 0).toNat * 256 + (crc.getD 1 0).toNat) then
      .tune { tempo := tempo, policy := if policy == 0 then .slip else .drop, notes := notesOf bytes }
    else .bad

/-! ## Tempo arithmetic (R86) -/

/-- The cumulative gap of note `k`, counted from 0: the gap of the first note is ignored. -/
def cumulativeGap (notes : List Note) (k : Nat) : Nat := (((notes.take (k + 1)).drop 1).map Note.gap).sum

/-- The nominal offset of note `k`, counted from 0, at tempo `T`: G × T / 64 rounded half up. -/
def noteOffset (notes : List Note) (tempo k : Nat) : Nat := (cumulativeGap notes k * tempo + 32) / 64

/-- The duration of a tune: the offset of its last note. -/
def tuneDuration (notes : List Note) (tempo : Nat) : Nat := noteOffset notes tempo (notes.length - 1)

end Sys2Proof.Machine
end

