-- ==== Sys2Proof/Machine/Hammers.lean ====
section
/-! DEFINITION. The hammer of each bell: the park demand set, the park machine and the hammer faults (R54 to R60), and
the report of each change to the swing controller (R61). `quiet` leaves out the BELL notice, for the states first
taken at a start (R64). -/

namespace Sys2Proof.Machine.State

/-- HOME and PARK are both debounced true: SENSOR-CONFLICT (R59). -/
def sensorConflict (s : State) (b : Bell) : Bool :=
  (s.bell b).home.state == some true && (s.bell b).park.state == some true

/-- The hammer takes a state: the motor line is released unless it is PARKED (R61), BELL is raised unless `quiet`, and the
change is reported to the swing controller. -/
def setHammer (b : Bell) (h : Hammer) (timer : Option Nat) (quiet : Bool) (s : State) : State :=
  let s := s.modBell b fun r => { r with hammer := some h, timer := timer, motor := r.motor && h == .parked }
  let s := if quiet then s else s.raiseAll .bell
  s.signal (.hammer b)

/-- The hammer enters FAULT: the timer is cleared, the cause recorded, FAULT and BELL raised (R59). -/
def faultHammer (b : Bell) (cause : HammerCause) (quiet : Bool) (s : State) : State :=
  ((s.setHammer b .fault none quiet).modBell b fun r => { r with cause := some cause }).raiseAll .fault

/-- The expiry of a park timer started now (R55, R57, R58). -/
def parkTimer (s : State) (b : Bell) : Option Nat := some (s.now + (s.config b).parkTimeout * Config.second)

/-- Entry to UNPARKING: the actuator is released and the timer started; READY at once when PARK is false and HOME true
(R57, R58). -/
def enterUnparking (b : Bell) (quiet : Bool) (s : State) : State :=
  if s.sensorConflict b then s.faultHammer b .sensorConflict quiet
  else if (s.bell b).park.state == some false && (s.bell b).home.state == some true then
    s.setHammer b .ready none quiet
  else s.setHammer b .unparking (s.parkTimer b) quiet

/-- Entry to PARKED: it is left again at once when the demand set is empty and REST is true (R56, R57). -/
def enterParked (b : Bell) (quiet : Bool) (s : State) : State :=
  if s.sensorConflict b then s.faultHammer b .sensorConflict quiet
  else
    let s := s.setHammer b .parked none quiet
    if !s.demanded b && (s.bell b).rest.state == some true then s.enterUnparking b quiet else s

/-- Entry to PARKING: the actuator is driven and the timer started; PARKED at once when PARK is already true (R55, R56). -/
def enterParking (b : Bell) (s : State) : State :=
  if s.sensorConflict b then s.faultHammer b .sensorConflict false
  else if (s.bell b).park.state == some true then s.enterParked b false
  else s.setHammer b .parking (s.parkTimer b) false

/-- The demand set of bell `b` changes. Becoming non-empty acts on a READY hammer, once no pulse is in flight, and on an
UNPARKING one; becoming empty acts on a PARKED one whose bell is at rest (R54, R55, R57, R58). -/
def changeDemands (b : Bell) (f : Demands → Demands) (s : State) : State :=
  let before := s.demanded b
  let s := s.modBell b fun r => { r with demands := f r.demands }
  match before, s.demanded b, (s.bell b).hammer with
  | false, true, some .ready => if s.pulsing b then s else s.enterParking b
  | false, true, some .unparking => s.enterParking b
  | true, false, some .parked => if (s.bell b).rest.state == some true then s.enterUnparking b false else s
  | _, _, _ => s

/-- The strike engine reports the end of the pulse on bell `b`: a park that waited for it begins (R55, R94). -/
def pulseEnded (b : Bell) (s : State) : State :=
  if s.demanded b && (s.bell b).hammer == some .ready && !s.pulsing b then s.enterParking b else s

/-- Debounced changes of bell `b`'s sensors act on its hammer (R56 to R59); each flag says that the sensor changed in this
scan. SENSOR-CONFLICT is tested before the rest, and of several changes one acts (notes/assumptions/52.md). -/
def hammerSensors (b : Bell) (restChanged homeChanged parkChanged : Bool) (s : State) : State :=
  let park := (s.bell b).park.state == some true
  let rest := (s.bell b).rest.state == some true
  match (s.bell b).hammer with
  | none | some .absent | some .fault => s
  | some .ready =>
    if parkChanged && park || homeChanged && s.sensorConflict b then s.faultHammer b .sensorConflict false else s
  | some .parking =>
    if (homeChanged || parkChanged) && s.sensorConflict b then s.faultHammer b .sensorConflict false
    else if parkChanged && park then s.enterParked b false else s
  | some .parked =>
    if (homeChanged || parkChanged) && s.sensorConflict b then s.faultHammer b .sensorConflict false
    else if parkChanged && !park then s.faultHammer b .parkLost false
    else if restChanged && rest && !s.demanded b then s.enterUnparking b false else s
  | some .unparking =>
    if (homeChanged || parkChanged) && s.sensorConflict b then s.faultHammer b .sensorConflict false
    else if restChanged && !rest then s.enterParking b
    else if (homeChanged || parkChanged) && !park && (s.bell b).home.state == some true then
      s.setHammer b .ready none false
    else s

/-- The park timer of bell `b` expires in PARKING or UNPARKING (R56, R58, R59). -/
def parkTimerExpires (b : Bell) (s : State) : State :=
  if (s.bell b).timer.any (· ≤ s.now) then
    match (s.bell b).hammer with
    | some .parking => s.faultHammer b .parkTimeout false
    | some .unparking => s.faultHammer b .unparkTimeout false
    | _ => s
  else s

/-- At the scan that makes the sensor image valid, a fitted hammer takes its first state from PARK and HOME (R64).
See notes/assumptions/22.md. -/
def hammerFirstState (b : Bell) (s : State) : State :=
  if (s.bell b).hammer.isNone then
    match (s.bell b).park.state == some true, (s.bell b).home.state == some true with
    | true, true => s.faultHammer b .sensorConflict true
    | true, false => (s.modBell b fun r => { r with demands := { r.demands with start := true } }).setHammer b .parked none true
    | false, true => s.setHammer b .ready none true
    | false, false => s.setHammer b .unparking (s.parkTimer b) true
  else s

end Sys2Proof.Machine.State
end

