-- ==== Sys2Proof/Machine/Buffers.lean ====
section
/-! DEFINITION. The store queue (R179) and the clock player's quarter buffers, which it fills (R101, R102). -/

namespace Sys2Proof.Machine

/-- The slot that an operation of the store queue works on. -/
def StoreOp.slot : StoreOp → TuneSlot
  | .clockFetch _ t | .playFetch t | .info _ t | .commit _ t => t

/-- Whether an operation is a fetch of the clock player. -/
def StoreOp.isClock : StoreOp → Bool
  | .clockFetch _ _ => true
  | _ => false

/-- Whether an operation is a commit. -/
def StoreOp.isCommit : StoreOp → Bool
  | .commit _ _ => true
  | _ => false

/-- The slot that a buffer is to hold, once a change of it that waits has been made (R102). -/
def Buffer.target (b : Buffer) : Option TuneSlot := b.change.getD b.slot

namespace State

/-- An operation begins to execute; a read of a slot UNDER-COMMIT is marked, and it will fail (R179).
See notes/assumptions/10.md. -/
def beginStoreOp (op : StoreOp) (s : State) : State :=
  s.modStore fun x =>
    { x with executing := some (op, !op.isCommit && x.directory.get op.slot == .underCommit) }

/-- An operation joins the store queue; it begins at once when none is executed. -/
def enqueueStoreOp (op : StoreOp) (s : State) : State :=
  if s.store.executing.isNone then s.beginStoreOp op
  else s.modStore fun x => { x with queue := x.queue ++ [op] }

/-- The operation executed next: the oldest clock-player fetch if there is one, and otherwise the oldest (R179). -/
def nextStoreOp (s : State) : State :=
  let s := s.modStore fun x => { x with executing := none }
  match s.store.queue.find? StoreOp.isClock, s.store.queue with
  | some op, _ => (s.modStore fun x => { x with queue := x.queue.erase op }).beginStoreOp op
  | none, op :: rest => (s.modStore fun x => { x with queue := rest }).beginStoreOp op
  | none, [] => s

/-- Buffer `q` becomes WANTED for a slot. While its fetch is outstanding it stays FETCHING and the result of that fetch
will be discarded (R102). See notes/assumptions/26.md. -/
def wantBuffer (q : Quarter) (t : TuneSlot) (s : State) : State :=
  match s.players.clockFetch with
  | some (k, _) =>
    if k = q then
      (s.modPlayers fun y => { y with clockFetch := some (q, true) }).modBuffer q fun _ =>
        { Buffer.empty with state := .fetching, slot := some t }
    else s.modBuffer q fun _ => { Buffer.empty with state := .wanted, slot := some t }
  | none => s.modBuffer q fun _ => { Buffer.empty with state := .wanted, slot := some t }

/-- Buffer `q`, whose slot has become NONE, becomes EMPTY; a fetch of it that is outstanding will be discarded. -/
def emptyBuffer (q : Quarter) (s : State) : State :=
  (s.modPlayers fun y =>
    { y with clockFetch := y.clockFetch.map fun x => if x.1 = q then (q, true) else x }).modBuffer q fun _ => .empty

/-- Buffer `q` is to hold the tune of slot `t`, read afresh, or nothing. -/
def assignBuffer (q : Quarter) (t : Option TuneSlot) (s : State) : State :=
  match t with
  | some t => s.wantBuffer q t
  | none => s.emptyBuffer q

/-- Whether the running quarter run is playing from buffer `q`. -/
def bufferInUse (s : State) (q : Quarter) : Bool :=
  s.players.quarterRun.any fun r => r.started && r.quarter == q

/-- As `assignBuffer`, but a buffer that the quarter run plays from keeps its state until the run has handed over its last
note or has ended (R102). -/
def assignBufferWhenFree (q : Quarter) (t : Option TuneSlot) (s : State) : State :=
  if s.bufferInUse q then s.modBuffer q fun b => { b with change := some t } else s.assignBuffer q t

/-- The quarters in the order in which they come after local time `t` (R102). -/
def quartersFrom (t : LocalTime) : List Quarter :=
  let next := t.minute / 15
  [next, next + 1, next + 2, next + 3].map fun k => Fin.ofNat 4 k

/-- The clock player asks for the WANTED buffer whose quarter comes soonest, unless a fetch of its own is outstanding
(R102). -/
def requestFetch (s : State) : State :=
  if s.players.clockFetch.isSome then s
  else
    match (quartersFrom s.localTime).find? fun q => (s.players.buffers.get q).state == .wanted with
    | some q =>
      match (s.players.buffers.get q).slot with
      | some t =>
        ((s.modPlayers fun y => { y with clockFetch := some (q, false) }).modBuffer q fun b =>
          { b with state := .fetching }).enqueueStoreOp (.clockFetch q t)
      | none => s
    | none => s

/-- A buffer's change of slot that waited for its run takes effect. -/
def releaseBuffer (q : Quarter) (s : State) : State :=
  match (s.players.buffers.get q).change with
  | some t => (s.assignBuffer q t).requestFetch
  | none => s

/-- The quarter run ends, and its buffer is free for refilling (R104). -/
def endQuarterRun (s : State) : State :=
  match s.players.quarterRun with
  | some r => (s.modPlayers fun y => { y with quarterRun := none }).releaseBuffer r.quarter
  | none => s

/-- The outstanding fetch of the clock player ends with a tune or with a status (R102). -/
def clockFetchEnds (result : Except Status Tune) (s : State) : State :=
  match s.players.clockFetch with
  | some (q, stale) =>
    let s := s.modPlayers fun y => { y with clockFetch := none }
    let s := s.modBuffer q fun b =>
      if stale then (if b.slot.isNone then .empty else { b with state := .wanted })
      else match result with
        | .ok t => { b with state := .valid, tune := some t, status := none }
        | .error e => { b with state := .failed, tune := none, status := some e }
    s.requestFetch
  | none => s

/-- The store controller reports that a commit has written slot `t`: every buffer holding or wanting it is fetched again
(R102, R181). -/
def slotWritten (t : TuneSlot) (s : State) : State :=
  let s := (List.finRange 4).foldl (fun s q =>
    if (s.players.buffers.get q).target == some t then s.assignBufferWhenFree q (some t) else s) s
  s.requestFetch

end State

end Sys2Proof.Machine
end

