-- ==== Sys2Proof/Machine/Outcomes.lean ====
section
/-! DEFINITION. What the sources of strikes do with the end outcomes of their requests (R80): the counts of the runs, the
deferral and the end of an hour strike (R108, R109), the end of a request player's tune (R113) and of a toll (R116). -/

namespace Sys2Proof.Machine

/-- The end outcome of a request: granted a slot, with the actual onset A, or dropped, whether at its planning or once queued
(R80, R93). -/
inductive EndOutcome where
  | granted (onset : Nat)
  | dropped (r : DropReason)
  deriving DecidableEq, Repr

/-- The reasons that R109 calls availability reasons. -/
def DropReason.isAvailability : DropReason → Bool
  | .noHammer | .interlock | .claimed | .hammerFault => true
  | _ => false

/-- A run's counts with one outcome more (R103). -/
def RunCounts.outcome (c : RunCounts) : EndOutcome → RunCounts
  | .granted _ => { c with granted := c.granted + 1 }
  | .dropped _ => { c with dropped := c.dropped + 1 }

/-- An hour strike run with one outcome more. -/
def HourRun.outcome (r : HourRun) : EndOutcome → HourRun
  | .granted _ => { r with granted := r.granted + 1 }
  | .dropped _ => { r with dropped := r.dropped + 1 }

/-- A toll run with one outcome more (R115). -/
def TollRun.outcome (r : TollRun) : EndOutcome → TollRun
  | .granted _ => { r with granted := r.granted + 1 }
  | .dropped _ => { r with dropped := r.dropped + 1 }

/-- The deferral reason, where this outcome of blow `index` makes the run defer (R109). -/
def HourRun.defers (r : HourRun) (index : Nat) : EndOutcome → Option DropReason
  | .dropped x => if index == 0 && r.busy == .defer && x.isAvailability then some x else none
  | .granted _ => none

namespace State

/-- An outcome of a quarter run's note (R103). -/
def quarterOutcome (id : Nat) (o : EndOutcome) (s : State) : State :=
  s.modPlayers fun y => { y with quarterRun := y.quarterRun.map fun r =>
    if r.id = id then { r with counts := r.counts.outcome o } else r }

/-- An outcome of an hour strike's blow: an availability drop of the first blow defers the strike, STOPPED ends it, and the
outcome of the last blow completes it (R108, R109). What is recorded then leaves out blows that are still queued
(notes/assumptions/60.md). -/
def hourOutcome (id index : Nat) (o : EndOutcome) (s : State) : State :=
  match s.players.hourRun with
  | some r0 =>
    if r0.id = id then
      let r := r0.outcome o
      match r.defers index o with
      | some x =>
        let r := { r with state := .deferred, reason := some x, testAt := s.now + 256, firstOpen := false }
        s.modPlayers fun y => { y with hourRun := some r }
      | none =>
        if o = .dropped .stopped then s.modPlayers fun y => { y with hourRun := none }
        else if index + 1 = r.count then
          let l : LastHour := { hour := r.hour, granted := r.granted, dropped := r.dropped, expired := none }
          s.modPlayers fun y => { y with hourRun := none, lastHour := some l }
        else
          s.modPlayers fun y => { y with hourRun := some { r with firstOpen := r.firstOpen && index != 0 } }
    else s
  | none => s

/-- The request player returns to IDLE with an end cause, and CHIME is raised on the owner's port; the notes still queued
are those that a purge is about to drop (R113, R114). -/
def finishRequest (cause : EndCause) (s : State) : State :=
  match s.players.request.run with
  | some r =>
    let counts := { r.counts with dropped := r.counts.dropped + r.queued }
    let last : Summary := { slot := r.slot, owner := r.owner, counts := counts, slip := r.slip, cause := cause }
    (s.modPlayers fun y => { y with request := { state := .idle, run := none, last := some last } }).raise .chime r.owner
  | none => s

/-- The request player's run is complete when its last note has been handed over or skipped and none is queued (R113). -/
def completeRequest (s : State) : State :=
  match s.players.request.run with
  | some r =>
    if r.tune.any (fun t => t.notes.length ≤ r.next) && r.queued == 0 then s.finishRequest .complete else s
  | none => s

/-- A change of the request player's run. -/
def modRequest (f : RequestRun → RequestRun) (s : State) : State :=
  s.modPlayers fun y => { y with request := { y.request with run := y.request.run.map f } }

/-- A change of port `p`'s toll run. -/
def modToll (p : Port) (f : Option TollRun → Option TollRun) (s : State) : State :=
  s.modPlayers fun y => { y with tolls := y.tolls.set p (f (y.tolls.get p)) }

/-- An end outcome of a queued note of the request player (R113). -/
def tuneOutcome (id : Nat) (o : EndOutcome) (s : State) : State :=
  match s.players.request.run with
  | some r =>
    if r.id = id then
      (s.modRequest fun r => { r with counts := r.counts.outcome o, queued := r.queued - 1 }).completeRequest
    else s
  | none => s

/-- A toll run ends when its last blow has its outcome, with CHIME on its port (R116). -/
def completeToll (p : Port) (s : State) : State :=
  match s.players.tolls.get p with
  | some r => if r.remaining = some 0 ∧ r.queued = 0 then (s.modToll p fun _ => none).raise .chime p else s
  | none => s

/-- An end outcome of a queued blow of port `p`'s toll run (R116). -/
def tollOutcome (p : Port) (id : Nat) (o : EndOutcome) (s : State) : State :=
  match s.players.tolls.get p with
  | some r =>
    if r.id = id then
      (s.modToll p fun x => x.map fun r => { r.outcome o with queued := r.queued - 1 }).completeToll p
    else s
  | none => s

/-- The end outcome of a queued entry is reported to its source (R80). -/
def endOutcome (e : QueueEntry) (o : EndOutcome) (s : State) : State :=
  match e.source, e.run, e.port with
  | .quarter, some id, _ => s.quarterOutcome id o
  | .hour, some id, _ => s.hourOutcome id e.index o
  | .tune, some id, _ => s.tuneOutcome id o
  | .toll, some id, some p => s.tollOutcome p id o
  | .clavier, _, _ =>
    s.modClavier fun k =>
      match o with
      | .granted _ => { k with granted := k.granted + 1 }
      | .dropped _ => { k with dropped := k.dropped + 1 }
  | _, _, _ => s

end State

end Sys2Proof.Machine
end

