-- ==== Sys2Proof/Machine/Engine.lean ====
section
/-! DEFINITION. The strike engine: the availability question (R65, R67), planning (R81 to R85), the arbiter and the grant
(R89 to R93), and the purges (R96). -/

namespace Sys2Proof.Machine

/-- What a claim allows a source with a port to strike (R67). -/
def claimAllows (c : Option Claim) (port : Option Port) : Bool :=
  match c with
  | none => true
  | some k => k.kind == .chime && port == some k.owner

/-- The planning outcome (R80). -/
inductive Planned where
  | queued (onset fire slip late : Nat)
  | dropped (r : DropReason)
  deriving DecidableEq, Repr

/-- The queue with an entry placed after those of an earlier or equal fire time (R85). -/
def insertEntry (e : QueueEntry) : List QueueEntry → List QueueEntry
  | [] => [e]
  | x :: rest => if x.fire ≤ e.fire then x :: insertEntry e rest else e :: x :: rest

/-- The priority of a source (R91). -/
def Priorities.read (p : Priorities) : Source → Nat
  | .clavier => p.clavier
  | .toll => p.toll
  | .hour => p.hour
  | .quarter => p.quarter
  | .single => p.single
  | .tune => p.tune

/-- How far bell `b` comes after the rotation bell `r`: 0 for the bell that follows it (R90). -/
def rotationDistance (r b : Bell) : Nat := (b.val + 23 - r.val) % 24

namespace State

/-- The availability answer: `none` is yes, otherwise the drop reason; the conditions in R65's order. -/
def availability (s : State) (port : Option Port) (b : Bell) : Option DropReason :=
  if !s.bells.imageValid || s.swingState b == .unreported then some .interlock
  else if (s.bell b).hammer == some .absent then some .noHammer
  else if s.lockedOut then some .interlock
  else if s.swingState b != .idle then some .interlock
  else if !claimAllows (s.claim b) port then some .claimed
  else if (s.bell b).hammer == some .fault then some .hammerFault
  else if (s.bell b).hammer != some .ready then some .interlock
  else none

/-- The horizon h(b): the later of the last struck onset and the planning horizon (R82). -/
def horizon (s : State) (b : Bell) : Option Nat :=
  match (s.bell b).lastOnset, (s.bell b).horizon with
  | some l, some h => some (max l h)
  | some l, none => some l
  | none, h => h

/-- The deficit of a request against the bell's horizon, 0 where there is none (R83). -/
def deficit (s : State) (b : Bell) (onset : Nat) : Nat :=
  match s.horizon b with
  | some h => h + (s.config b).recovery - onset
  | none => 0

/-- What planning decides about a request, which changes no state (R81, R83 to R85). -/
def planned (r : StrikeRequest) (s : State) : Planned :=
  match s.availability r.port r.bell with
  | some x => .dropped x
  | none =>
    let d := s.deficit r.bell r.onset
    if d ≠ 0 ∧ (r.policy = .drop ∨ r.allowance < d) then .dropped .recovery
    else
      let onset := r.onset + d
      let earliest := s.now + (s.config r.bell).lead
      if Config.strikeQueue ≤ s.engine.queue.length then .dropped .queueFull
      else if onset < earliest then .queued earliest s.now d (earliest - onset)
      else .queued onset (onset - (s.config r.bell).lead) d 0

/-- A request is planned: entered in the queue with the bell's planning horizon moved to its onset (R82, R85), or counted as
lost (R97). -/
def plan (r : StrikeRequest) (s : State) : State :=
  match s.planned r with
  | .dropped x => s.lose x
  | .queued onset fire _ _ =>
    let x : QueueEntry :=
      { source := r.source, port := r.port, bell := r.bell, cls := r.cls, run := r.run, index := r.index,
        onset := onset, fire := fire }
    (s.modEngine fun e => { e with queue := insertEntry x e.queue }).modBell r.bell fun b =>
      { b with horizon := some onset }

/-- Whether an entry's bell could not yet have recovered at the onset a grant now would give it (R92, check 3). -/
def unrecovered (s : State) (b : Bell) : Bool :=
  match (s.bell b).lastOnset with
  | some l => s.now + (s.config b).lead < l + (s.config b).recovery
  | none => false

/-- Whether a queued entry is due: its fire time has come (R89). -/
def due (s : State) (e : QueueEntry) : Bool := e.fire ≤ s.now

/-- Whether a due entry is waiting (R89). -/
def waits (s : State) (e : QueueEntry) : Bool := s.pulsing e.bell || s.unrecovered e.bell

/-- Whether an entry is eligible: due, not waiting, and not yet at F + 9 (R89, R95). -/
def eligible (s : State) (e : QueueEntry) : Bool := s.due e && s.now ≤ e.fire + 8 && !s.waits e

/-- Whether the arbiter prefers entry `x` to entry `y`: by priority, fire time and rotation (R90). -/
def prefers (s : State) (x y : QueueEntry) : Bool :=
  let px := s.engine.priorities.read x.source
  let py := s.engine.priorities.read y.source
  let rx := rotationDistance s.engine.rotation x.bell
  let ry := rotationDistance s.engine.rotation y.bell
  px < py || (px == py && (x.fire < y.fire || (x.fire == y.fire && rx < ry)))

/-- The eligible entry that the arbiter chooses (R90). -/
def choose (s : State) : Option QueueEntry :=
  (s.engine.queue.filter s.eligible).foldl (fun best x =>
    match best with
    | none => some x
    | some y => if s.prefers x y then some x else some y) none

/-- The lowest FREE hammer slot; R93 names no order among several (notes/assumptions/53.md). -/
def freeSlot (s : State) : Option HammerSlot := (List.finRange 4).find? fun k => (s.engine.slots.get k).isNone

/-- The width of a pulse on bell `b` for a class 1..4 (R46). -/
def pulseWidth (s : State) (b : Bell) (cls : Nat) : Nat := (s.config b).widths.get (Fin.ofNat 4 (cls - 1))

/-- A grant on a CHIME-claimed bell to an entry of the owner's port sets the expiry afresh (R73). -/
def renewByGrant (b : Bell) (port : Option Port) (s : State) : State :=
  match s.claim b with
  | some c =>
    if c.kind = .chime ∧ port = some c.owner then
      s.setClaim b (some { c with expiry := some (s.now + s.claims.hold.get c.owner * Config.minute) })
    else s
  | none => s

/-- An entry leaves the queue, dropped with a reason: counted and reported (R92, R96, R97). -/
def dropEntry (e : QueueEntry) (r : DropReason) (s : State) : State :=
  ((s.modEngine fun g => { g with queue := g.queue.erase e }).lose r).endOutcome e (.dropped r)

/-- A grant of slot `k` (R93). -/
def grant (k : HammerSlot) (e : QueueEntry) (s : State) : State :=
  let onset := s.now + (s.config e.bell).lead
  let pulse : BusySlot :=
    { bell := e.bell, source := e.source, port := e.port, cls := e.cls, onset := onset,
      ends := s.now + s.pulseWidth e.bell e.cls }
  let s := s.modEngine fun g =>
    { g with queue := g.queue.erase e, rotation := e.bell, slots := g.slots.set k (some pulse) }
  ((s.modBell e.bell fun b => { b with lastOnset := some onset }).renewByGrant e.bell e.port).endOutcome e
    (.granted onset)

/-- A grant attempt on an eligible entry (R92). -/
def attempt (k : HammerSlot) (e : QueueEntry) (s : State) : State :=
  match s.availability e.port e.bell with
  | some r => s.dropEntry e r
  | none =>
    if (s.bell e.bell).home.state ≠ some true then
      (s.dropEntry e .hammerFault).faultHammer e.bell .homeAtGrant false
    else s.grant k e

/-- The arbiter acts until no slot is FREE or no entry is eligible; each attempt takes an entry out of the queue (R89). -/
def arbitrateFor : Nat → State → State
  | 0, s => s
  | n + 1, s =>
    match s.freeSlot, s.choose with
    | some k, some e => arbitrateFor n (s.attempt k e)
    | _, _ => s

/-- The arbiter acts (R89). -/
def arbitrate (s : State) : State := s.arbitrateFor s.engine.queue.length

/-- A purge: every queued entry that matches is removed, counted and reported (R96). -/
def purge (matching : QueueEntry → Bool) (r : DropReason) (s : State) : State :=
  (s.engine.queue.filter matching).foldl (fun s e => s.dropEntry e r) s

end State

end Sys2Proof.Machine
end

