-- ==== Sys2Proof/Machine/Load.lean ====
section
/-! DEFINITION. The tower load: reservations and the budget (R151), the grant of a level (R153, R154), ramps (R155), the
room made for a motor start and the shedding of light (R164, R165). -/

namespace Sys2Proof.Machine

/-- The consumption at level `l` of a circuit of weight `w`: w × L / 255, rounded up (R151). -/
def consumption (w l : Nat) : Nat := (w * l + 254) / 255

/-- The largest level whose consumption fits the room (R154). -/
def largestLevel (w room : Nat) : Nat := if w = 0 then 255 else min 255 (255 * room / w)

/-- The step of a ramp from `a` to `b` in `t` seconds (R155). -/
def rampStep (a b t : Nat) : Nat := max 1 (((max a b - min a b) + (t * 16 - 1)) / (t * 16))

/-- A circuit record retargeted, at running count `now`, to a granted level with a ramp time in seconds (R155). -/
def CircuitRec.retarget (r : CircuitRec) (now level time : Nat) : CircuitRec :=
  if time = 0 then { r with granted := level, current := level, ramp := none, rampTime := 0 }
  else
    { r with
      granted := level
      rampTime := time
      ramp := if r.current = level then none
              else some { start := r.current, step := rampStep r.current level time, next := now + 16 } }

/-- One move of a ramp (R155). -/
def CircuitRec.move (r : CircuitRec) : CircuitRec :=
  match r.ramp with
  | some p =>
    let level := if r.current < r.granted then min r.granted (r.current + p.step)
                 else max r.granted (r.current - p.step)
    { r with current := level, ramp := if level = r.granted then none else some { p with next := p.next + 16 } }
  | none => r

/-- A circuit record shed to its floor (R165). -/
def CircuitRec.drop (r : CircuitRec) : CircuitRec :=
  { r with granted := r.config.floor, current := min r.current r.config.floor, ramp := none, shed := true }

/-- The circuits in ascending shed rank, ties by lower circuit number (R160, R167). -/
def rankOrder (rank : Circuit → Nat) : List Circuit :=
  (List.range 9).flatMap fun k => allCircuits.filter fun c => rank c == k

namespace State

/-- The reservation of circuit `c`: its consumption at the larger of its current and granted levels (R151). -/
def reservation (s : State) (c : Circuit) : Nat :=
  consumption (s.circuit c).config.weight (max (s.circuit c).current (s.circuit c).granted)

/-- The swing load of bell `b` (R151). -/
def swingLoad (s : State) (b : Bell) : Nat :=
  match s.swingState b with
  | .starting => s.neededLoad b
  | .ringing => (s.config b).runLoad
  | _ => 0

/-- The reservations of the eight circuits together. -/
def reservations (s : State) : Nat := (allCircuits.map s.reservation).sum

/-- The swing loads of the 24 bells together. -/
def swingLoads (s : State) : Nat := (allBells.map s.swingLoad).sum

/-- The committed load (R151). -/
def committed (s : State) : Nat := s.load.reserve + s.reservations + s.swingLoads

/-- The free load (R151). -/
def free (s : State) : Nat := s.load.capacity - s.committed

/-- A change after which the re-evaluation of R167 is called for if the reservation of circuit `c` has fallen.
See notes/assumptions/36.md. -/
def watchReservation (c : Circuit) (f : State → State) (s : State) : State :=
  let t := f s
  if t.reservation c < s.reservation c then t.signal .loadFell else t

/-- Whether circuit `c` is clamped: granted less than wanted (R154). -/
def clamped (s : State) (c : Circuit) : Bool := (s.circuit c).granted < (s.circuit c).wanted

/-- The level that a grant gives circuit `c` (R154). -/
def grantedLevel (s : State) (c : Circuit) : Nat :=
  let r := s.circuit c
  let lmax := largestLevel r.config.weight (s.free + s.reservation c)
  if r.shed then min r.wanted (min lmax r.config.floor)
  else if s.load.queue.isEmpty then min r.wanted lmax
  else min r.wanted (min lmax r.granted)

/-- Circuit `c` is granted a level, and its ramp retargeted if the level changes; LIGHT is raised where the grant changes
whether the circuit is clamped, `before` saying whether it was, unless `quiet` (R154, R155, R168, R169). -/
def grantCircuit (c : Circuit) (time : Nat) (before quiet : Bool) (s : State) : State :=
  let level := s.grantedLevel c
  let s := if level = (s.circuit c).granted then s
           else s.watchReservation c fun s => s.modCircuit c fun r => r.retarget s.now level time
  if s.clamped c != before && !quiet then s.raiseAll .light else s

/-- Whether the fallback applies: the time is invalid or the program in force names no plan (R153). -/
def fallbackApplies (s : State) : Bool := !s.lights.valid || s.lights.plan.isNone

/-- The wanted level that circuit `c`'s sources give (R153). -/
def wantedLevel (s : State) (c : Circuit) : Nat :=
  match (s.circuit c).override with
  | some o => o.level
  | none => if s.fallbackApplies then (s.circuit c).config.fallback else (s.circuit c).planLevel

/-- The wanted level of circuit `c` is recomputed, and granted if it differs from the one before (R153). -/
def rewant (c : Circuit) (time : Nat) (quiet : Bool) (s : State) : State :=
  let w := s.wantedLevel c
  if w = (s.circuit c).wanted then s
  else (s.modCircuit c fun r => { r with wanted := w }).grantCircuit c time (s.clamped c) quiet

/-- Every circuit in ascending shed rank. -/
def byRank (s : State) : List Circuit := rankOrder fun c => (s.circuit c).config.rank

/-- What a shed of circuit `c` would free; 0 where it may not be shed (R165). -/
def sheddable (s : State) (c : Circuit) : Nat :=
  let r := s.circuit c
  if 1 ≤ r.config.rank ∧ ¬r.shed then s.reservation c - consumption r.config.weight r.config.floor else 0

/-- Circuit `c` is shed (R165). -/
def shedCircuit (c : Circuit) (s : State) : State := (s.modCircuit c fun r => r.drop).raiseAll .light

/-- Circuits are shed one by one until the load freed covers the deficit (R165). -/
def shedFor : List Circuit → Nat → State → State
  | [], _, s => s
  | c :: rest, deficit, s =>
    if deficit = 0 then s
    else if s.sheddable c = 0 then shedFor rest deficit s
    else shedFor rest (deficit - s.sheddable c) (s.shedCircuit c)

/-- Room is made for a start that needs `need`: none is to be made, or shedding alone covers the deficit; `none` where it
does not (R164, steps 2 and 3). -/
def makeRoom (need : Nat) (s : State) : Option State :=
  if need ≤ s.free then some s
  else
    let deficit := need - s.free
    if deficit ≤ (allCircuits.map s.sheddable).sum then some (s.shedFor s.byRank.reverse deficit) else none

/-- A circuit that R167 grants again: its shed mark is cleared first, with LIGHT for the restore. -/
def restoreCircuit (c : Circuit) (s : State) : State :=
  let before := s.clamped c
  let s := if (s.circuit c).shed then (s.modCircuit c fun r => { r with shed := false }).raiseAll .light else s
  s.grantCircuit c (s.circuit c).rampTime before false

/-- Stage 2 of a re-evaluation: with the queue empty, the shed and the clamped circuits are granted again in ascending shed
rank (R167). -/
def restoreLights (s : State) : State :=
  if s.load.queue.isEmpty then
    (s.byRank.filter fun c => (s.circuit c).shed || s.clamped c).foldl (fun s c => s.restoreCircuit c) s
  else s

/-- The entry of bell `b` is removed from the load queue; a removal of the head calls for a re-evaluation (R166). -/
def leaveLoadQueue (b : Bell) (s : State) : State :=
  let head := s.load.queue.head?.any fun e => e.bell == b
  let s := s.modLoad fun l => { l with queue := l.queue.filter fun e => e.bell != b }
  if head then s.signal .loadFell else s

end State

end Sys2Proof.Machine
end

