-- ==== Sys2Proof/Machine/Lights.lean ====
section
/-! DEFINITION. The lighting controller: the solar arithmetic (R156, R157), today's timeline (R159, R160), the plan steps
taken at minute announcements and at the ringing (R161, R162), and the ends of overrides (R163). -/

namespace Sys2Proof.Machine

/-- A quotient of integers, rounded half away from zero (R157). -/
def divAway (n : Int) (d : Nat) : Int :=
  if 0 ≤ n then (2 * n + d) / (2 * d) else -((2 * -n + d) / (2 * d))

/-- The points A and B, the span and the fraction of a date (R157), the points as rows of the table. -/
def solarPoints (d : Date) : Fin 24 × Fin 24 × Nat × Nat :=
  let first := Fin.ofNat 24 (2 * (d.month - 1))
  if d.day ≤ 15 then (first, first + 1, 15, d.day - 1)
  else (first + 1, first + 2, daysInMonth d.year d.month - 15, d.day - 16)

/-- The sunrise or sunset of a local date, a standard minute (R157). -/
def solarMinute (table : Table 24 SolarPoint) (field : SolarPoint → Nat) (d : Date) : Int :=
  let (a, b, span, fraction) := solarPoints d
  let x : Int := field (table.get a)
  let y : Int := field (table.get b)
  x + divAway ((y - x) * fraction) span

/-- A local minute of the same date: the sum clamped to 0..1439 (R157). -/
def clampMinute (m : Int) : Nat := min 1439 m.toNat

/-- The timeline with a step placed after those of an earlier or equal minute (R159). -/
def insertStep (x : TimelineStep) : List TimelineStep → List TimelineStep
  | [] => [x]
  | y :: rest => if y.minute ≤ x.minute then y :: insertStep x rest else x :: y :: rest

/-- The trigger that fires when the number of ringing bells leaves 0, or returns to it (R158, R162). -/
def ringTrigger (starts : Bool) : Trigger := if starts then .ringStart else .ringEnd

namespace State

/-- The minutes by which local time is ahead of standard time. -/
def dstMinutes (s : State) : Int := if s.tk.dstInForce then 60 else 0

/-- The local minute at which a step fires on a date, for a step that a time or the sun triggers (R157, R158). -/
def stepMinute (s : State) (d : Date) : Trigger → Option Nat
  | .clock m => some m
  | .sunset o => some (clampMinute (solarMinute s.lights.solar SolarPoint.sunset d + s.dstMinutes + o))
  | .sunrise o => some (clampMinute (solarMinute s.lights.solar SolarPoint.sunrise d + s.dstMinutes + o))
  | .ringStart | .ringEnd => none

/-- The steps of the plan in force. -/
def planSteps (s : State) : List PlanStep :=
  match s.lights.plan with
  | some n => s.lights.plans.get n
  | none => []

/-- The timeline of a date, nothing done (R159). -/
def timelineOf (s : State) (d : Date) : List TimelineStep :=
  s.planSteps.foldl (fun l x =>
    match s.stepMinute d x.trigger with
    | some m => insertStep { minute := m, step := x, done := false } l
    | none => l) []

/-- An override of circuit `c` ends with LIGHT; `time` is the ramp of what follows, the override's own where there was one
(R163). See notes/assumptions/13.md. -/
def endOverride (c : Circuit) (time : Nat) (s : State) : State :=
  match (s.circuit c).override with
  | some o => ((s.modCircuit c fun r => { r with override := none }).raiseAll .light).rewant c o.ramp false
  | none => s.rewant c time false

/-- A plan step is taken at its instant: plan levels set, overrides ended, wanted levels granted (R161, R162), the circuits of
its mask in ascending number (notes/assumptions/59.md). -/
def takeStep (x : PlanStep) (time : Nat) (s : State) : State :=
  (circuitsOf x.mask).foldl (fun s c =>
    (s.modCircuit c fun r => { r with planLevel := x.level }).endOverride c time) s

/-- The RING-START or RING-END steps of the plan in force are taken, in step order (R162). -/
def takeRingSteps (starts : Bool) (s : State) : State :=
  (s.planSteps.filter fun x => x.trigger == ringTrigger starts).foldl (fun s x => s.takeStep x x.ramp) s

/-- The passed steps of a timeline set the plan levels, and nothing else (R160). -/
def applyPassed (l : List TimelineStep) (s : State) : State :=
  l.foldl (fun s x =>
    (circuitsOf x.step.mask).foldl (fun s c => s.modCircuit c fun r => { r with planLevel := x.step.level }) s) s

/-- The ramp of circuit `c` at a build: that of the last passed step that names it, 0 where its minute is earlier than the
present one or no step names it (R155, R160). So it is where the fallback ceases at the build too (notes/assumptions/59.md). -/
def buildRamp (l : List TimelineStep) (minute : Nat) (c : Circuit) : Nat :=
  l.foldl (fun t x =>
    if x.step.mask.getLsbD c.val then (if x.minute = minute then x.step.ramp else 0) else t) 0

/-- Every wanted level is recomputed, and those that change are granted in ascending shed rank (R160). -/
def rewantAll (time : Circuit → Nat) (quiet : Bool) (s : State) : State :=
  s.byRank.foldl (fun s c => s.rewant c (time c) quiet) s

/-- One LIGHT notice where the fallback starts or ceases to apply, unless `quiet` (R168, R169). -/
def fallbackNotice (before quiet : Bool) (s : State) : State :=
  if s.fallbackApplies != before && !quiet then s.raiseAll .light else s

/-- Whether the date change and the program hand-over of today's date are both held (R159). -/
def dayHeld (s : State) : Bool :=
  s.lights.handDate == some s.localTime.date && s.lights.dateSeen == some s.localTime.date

/-- Today's timeline is built, and the steps already passed are applied if the time is valid (R159, R160); then the wanted
levels are recomputed. While today's date change or hand-over is wanting, only these are. -/
def buildTimeline (quiet : Bool) (s : State) : State :=
  if s.dayHeld then
    let l := s.timelineOf s.localTime.date
    let minute := s.localTime.minuteOfDay
    let passed := if s.lights.valid then l.filter fun x => x.minute ≤ minute else []
    let marked := l.map fun x => { x with done := s.lights.valid && x.minute ≤ minute }
    let s := s.modLights fun g => { g with timelineDate := some s.localTime.date, timeline := marked }
    (s.applyPassed passed).rewantAll (buildRamp passed minute) quiet
  else s.rewantAll (fun _ => 0) quiet

/-- The steps due by minute `m` are taken in timeline order and marked done (R161). -/
def takeDue (m : Nat) (s : State) : State :=
  let due := s.lights.timeline.filter fun x => !x.done && x.minute ≤ m
  let s := s.modLights fun g =>
    { g with timeline := g.timeline.map fun x => { x with done := x.done || x.minute ≤ m } }
  due.foldl (fun s x => s.takeStep x.step (if x.minute = m then x.step.ramp else 0)) s

/-- The overrides that an end minute among `ends` ends (R163). See notes/assumptions/14.md. -/
def endOverrides (ends : Nat → Bool) (s : State) : State :=
  allCircuits.foldl (fun s c =>
    if (s.circuit c).override.any fun o => o.ends.any ends then s.endOverride c 0 else s) s

/-- A minute announcement taken by the lighting controller: the steps due, where the time is valid, and then the end minutes
of the overrides (R161, R163). -/
def takeLightMinute (m : HeldMinute) (s : State) : State :=
  let s := if m.valid && s.lights.timelineDate == some m.date then s.takeDue m.minute else s
  s.endOverrides fun x => x == m.minute

/-- A minute announcement reaches the lighting controller; it is held until the hand-over of its date (R159). -/
def lightMinute (m : HeldMinute) (s : State) : State :=
  if s.lights.handDate = some m.date then s.takeLightMinute m
  else s.modLights fun g => { g with held := g.held ++ [m] }

/-- The held minute announcements of the date whose hand-over has come are taken (R159). -/
def takeHeldMinutes (s : State) : State :=
  let mine := s.lights.held.filter fun m => s.lights.handDate == some m.date
  let s := s.modLights fun g => { g with held := g.held.filter fun m => g.handDate != some m.date }
  mine.foldl (fun s m => s.takeLightMinute m) s

/-- A program hand-over for a date with its plan, and the date change that goes with it where its time-valid flag is given,
reach the lighting controller together (R153, R159). -/
def lightHandOver (d : Date) (plan : Option PlanNo) (valid : Option Bool) (quiet : Bool) (s : State) : State :=
  let before := s.fallbackApplies
  let s := s.modLights fun g =>
    { g with handDate := some d
             plan := plan
             dateSeen := if valid.isSome then some d else g.dateSeen
             valid := valid.getD g.valid }
  ((s.buildTimeline quiet).fallbackNotice before quiet).takeHeldMinutes

/-- Whether a change of local time from `t` to `u` moves it forward over minute `m` of the day; one that lands on the minute
counts (notes/assumptions/65.md). -/
def passesMinute (t u : LocalTime) (m : Nat) : Bool :=
  t.minuteNumber < u.minuteNumber &&
    (t.minuteNumber + 1440 ≤ u.minuteNumber ||
      (m + 1440 - (t.minuteOfDay + 1)) % 1440 < u.minuteNumber - t.minuteNumber)

/-- A time-change announcement reaches the lighting controller: the overrides whose end minute is passed over end, and then the
timeline is built again (R159, R163); the order is the model's (notes/assumptions/59.md). -/
def lightTimeChange (t u : LocalTime) (s : State) : State :=
  ((s.endOverrides (passesMinute t u)).buildTimeline false)

end State

end Sys2Proof.Machine
end

