-- ==== Sys2Proof/Machine/SwingOps.lean ====
section
/-! DEFINITION. The swing controller: the changes of a bell's swing state with what each block is told of them (R133), the
start tests (R134), the slot runs (R145 to R147), the first states of a start (R148), the load queue's admissions (R164,
R167), and the delivery of the signals between the blocks (notes/assumptions/37.md). -/

namespace Sys2Proof.Machine

/-- Whether the SWING park demand is present in a state (R54). -/
def SwingState.demandsPark : SwingState → Bool
  | .unreported | .idle => false
  | _ => true

/-- Whether the motor is demanded in a state (R133). -/
def SwingState.demandsMotor : SwingState → Bool
  | .starting | .ringing => true
  | _ => false

/-- What a claim allows an origin to start; PROGRAM is `none` (R68). -/
def claimAllowsStart (c : Option Claim) (origin : Option Port) : Bool :=
  match c with
  | none => true
  | some k => k.kind == .chime && origin == some k.owner

/-- The port of a swing's origin; `none` for a slot run (R166: PROGRAM). -/
def Origin.port? : Origin → Option Port
  | .port p => some p
  | .slotRun _ => none

/-- Whether one local minute is later than another (R145). -/
def laterMinute (x y : Date × Nat) : Bool := x.1.later y.1 || (x.1 == y.1 && y.2 < x.2)

/-- Whether a local minute is later than the slot guard; every minute is later than NONE, where `empty` says so. -/
def laterThanSlotGuard (x : Date × Nat) (empty : Bool) : Option (Date × Nat) → Bool
  | none => empty
  | some g => laterMinute x g

namespace State

/-! ### Changes of the swing state -/

/-- Ring steps are taken where the number of ringing bells crosses 0 (R133, R162). -/
def ringCrossing (before : Nat) (s : State) : State :=
  if before = 0 ∧ s.ringing ≠ 0 then s.takeRingSteps true
  else if before ≠ 0 ∧ s.ringing = 0 then s.takeRingSteps false
  else s

/-- The slot run that waits for bell `b` learns of its state: STARTING starts the stagger, IDLE and FAULT take the next bell
(R146). A run with no next bell has no next instant (notes/assumptions/64.md). -/
def slotRunHears (b : Bell) (x : SwingState) (s : State) : State :=
  match s.swing.runs.find? fun r => r.waiting == some b with
  | some r =>
    let put (f : SlotRun → SlotRun) (s : State) : State :=
      s.modSwing fun w => { w with runs := w.runs.map fun q => if q.id = r.id then f q else q }
    match x with
    | .starting =>
      if r.stagger = 0 then (put (fun q => { q with waiting := none }) s).signal (.slotNext r.id)
      else put (fun q =>
        { q with waiting := none
                 nextAt := if q.remaining.isEmpty then none else some (s.now + r.stagger * Config.second) }) s
    | .idle | .fault => (put (fun q => { q with waiting := none }) s).signal (.slotNext r.id)
    | _ => s
  | none => s

/-- Bell `b`'s swing record takes a new state by `f`, and in the same event the bell table, the load controller, the lighting
controller and the slot runs hear of it (R133); BELL is raised unless `quiet`. -/
def setSwing (b : Bell) (f : SwingRec → SwingRec) (quiet : Bool) (s : State) : State :=
  let before := s.ringing
  let load := s.swingLoad b
  let s := s.modSwingRec b f
  let x := s.swingState b
  let s := if quiet then s else s.raiseAll .bell
  let s := s.changeDemands b fun d => { d with swing := x.demandsPark, start := d.start && x != .idle }
  let s := s.modBell b fun r =>
    { r with motor := x.demandsMotor && (r.motor || (x == .starting && r.hammer == some .parked)) }
  let s := if s.swingLoad b < load then s.signal .loadFell else s
  (s.ringCrossing before).slotRunHears b x

/-- The bell enters STARTING on its admission (R137). -/
def toStarting (b : Bell) (s : State) : State :=
  s.setSwing b (fun r =>
    { r with state := .starting, edges := 0, timer := some (s.now + (s.config b).startTime * Config.second) }) false

/-- The bell enters RINGING (R138). -/
def toRinging (b : Bell) (s : State) : State :=
  s.setSwing b (fun r =>
    { r with
      state := .ringing
      timer := r.lastPulse.map fun p => p + (s.config b).pulseTimeout * Config.second
      durationEnd := match r.origin, r.minutes with
        | some (.port _), some n => some (s.now + n * Config.minute)
        | _, _ => none }) false

/-- The bell enters SETTLING (R141). -/
def toSettling (b : Bell) (quiet : Bool) (s : State) : State :=
  s.setSwing b (fun r =>
    { r with state := .settling, timer := some (s.now + (s.config b).settleTime * Config.second) }) quiet

/-- The bell is quiet: no SW edge has been seen, or the latest is 512 ticks past (R140). -/
def quiet (s : State) (b : Bell) : Bool := (s.swingRec b).lastPulse.all fun p => p + 512 ≤ s.now

/-- The test that ends STOPPING in SETTLING (R140). -/
def testRest (b : Bell) (s : State) : State :=
  if s.swingState b = .stopping ∧ (s.bell b).rest.state = some true ∧ s.quiet b then s.toSettling b false else s

/-- The bell enters STOPPING, with a last cause where one sends it there (R140). -/
def toStopping (b : Bell) (cause : Option SwingCause) (quiet : Bool) (s : State) : State :=
  (s.setSwing b (fun r =>
    { r with
      state := .stopping
      timer := some (s.now + (s.config b).stopTimeout * Config.second)
      lastCause := cause.orElse fun _ => r.lastCause }) quiet).testRest b

/-- The bell enters IDLE (R141). -/
def toIdle (b : Bell) (cause : Option SwingCause) (quiet : Bool) (s : State) : State :=
  s.setSwing b (fun r =>
    { r with state := .idle, origin := none, minutes := none, durationEnd := none, timer := none
             lastCause := cause.orElse fun _ => r.lastCause }) quiet

/-- A start is given up in PARKING or WAIT-LOAD: IDLE, and out of the load queue (R135, R136). -/
def giveUp (b : Bell) (cause : SwingCause) (s : State) : State := (s.leaveLoadQueue b).toIdle b (some cause) false

/-- The bell enters FAULT, and leaves the load queue if it stood in it (R142). -/
def swingFaults (b : Bell) (cause : SwingFault) (s : State) : State :=
  ((s.leaveLoadQueue b).setSwing b (fun r =>
    { r with state := .fault, fault := some cause, lastCause := some (.fault cause), timer := none }) false).raiseAll .fault

/-- A bell is brought down with a cause: STARTING and RINGING stop, PARKING and WAIT-LOAD give up, other states stay
(R139, R144, R147). -/
def bringDown (b : Bell) (cause : SwingCause) (s : State) : State :=
  match s.swingState b with
  | .starting | .ringing => s.toStopping b (some cause) false
  | .parking | .waitLoad => s.giveUp b cause
  | _ => s

/-- The bell enters PARKING: its entries are purged, and a hammer that is PARKED already is reported so (R135). -/
def toParking (b : Bell) (origin : Origin) (minutes : Option Nat) (s : State) : State :=
  let s := s.setSwing b (fun r =>
    { r with state := .parking, origin := some origin, minutes := minutes, durationEnd := none, timer := none
             lastCause := none }) false
  let s := s.purge (fun e => e.bell == b) .interlock
  if (s.bell b).hammer = some .parked then s.signal (.hammer b) else s

/-! ### The load queue -/

/-- The requester of bell `b`'s start: the port that started it, or PROGRAM (R166). -/
def requester (s : State) (b : Bell) : Option Port := (s.swingRec b).origin.bind Origin.port?

/-- The bell joins the load queue, or is refused where it holds 8 entries (R164, R166). -/
def joinLoadQueue (b : Bell) (s : State) : State :=
  let port := s.requester b
  if Config.loadQueue ≤ s.load.queue.length then (s.toIdle b (some .loadFull) false).raiseFor .load port
  else
    let e : LoadEntry :=
      { bell := b, load := s.neededLoad b, requester := port, expiry := s.now + s.load.wait * Config.second }
    s.modLoad fun l => { l with queue := l.queue ++ [e] }

/-- The bell enters WAIT-LOAD and is put to the load controller (R136, R164). -/
def toWaitLoad (b : Bell) (s : State) : State :=
  let s := s.setSwing b (fun r => { r with state := .waitLoad }) false
  if s.load.queue.isEmpty then
    match s.makeRoom (s.neededLoad b) with
    | some s => s.toStarting b
    | none => s.joinLoadQueue b
  else s.joinLoadQueue b

/-- Stage 1 of a re-evaluation: heads of the queue are admitted until one cannot be (R167). -/
def admitHeads : Nat → State → State
  | 0, s => s
  | n + 1, s =>
    match s.load.queue with
    | [] => s
    | e :: rest =>
      match s.makeRoom e.load with
      | some s => admitHeads n ((s.modLoad fun l => { l with queue := rest }).toStarting e.bell)
      | none => s

/-- A re-evaluation of the load (R167). -/
def reevaluate (s : State) : State := (s.admitHeads s.load.queue.length).restoreLights

/-! ### Starting bells and slot runs -/

/-- The first condition of R134 that bell `b` meets, for a start from a port or from PROGRAM. -/
def startRefusal (s : State) (b : Bell) (origin : Option Port) : Option StartRefusal :=
  if !(s.config b).motor then some .noMotor
  else if !(s.config b).hammer then some .noHammer
  else if s.swingState b != .idle then some .notIdle
  else if s.lockedOut then some .lockedOut
  else if !claimAllowsStart (s.claim b) origin then some .claimed
  else if (s.bell b).hammer == some .fault then some .hammerFault
  else if (s.bell b).rest.state != some true then some .moving
  else none

/-- A change of the slot run `id`. -/
def modRun (id : Nat) (f : SlotRun → SlotRun) (s : State) : State :=
  s.modSwing fun w => { w with runs := w.runs.map fun r => if r.id = id then f r else r }

/-- A slot run takes its bells in turn: refused ones are skipped with BELL, and the first that can be is started (R146). -/
def takeBells (id : Nat) : List Bell → State → State
  | [], s => s.modRun id fun r => { r with remaining := [] }
  | b :: rest, s =>
    match s.startRefusal b none with
    | some code =>
      takeBells id rest ((s.modRun id fun r => { r with skipped := r.skipped ++ [(b, code)] }).raiseAll .bell)
    | none =>
      (s.modRun id fun r =>
        { r with remaining := rest, waiting := some b, started := r.started ++ [b] }).toParking b (.slotRun id) none

/-- The slot run `id` takes its next bell (R146). -/
def slotNext (id : Nat) (s : State) : State :=
  match s.swing.runs.find? fun r => r.id == id with
  | some r => (s.modRun id fun r => { r with nextAt := none }).takeBells id r.remaining
  | none => s

/-- A line added to the slot history, which holds the last four (R149). -/
def recordSlot (x : SlotRecord) (s : State) : State :=
  s.modSwing fun w => { w with history := (w.history ++ [x]).drop (w.history.length + 1 - 4) }

/-- A slot run ends and is recorded RAN (R147). -/
def endRun (r : SlotRun) (s : State) : State :=
  (s.modSwing fun w => { w with runs := w.runs.filter fun q => q.id != r.id }).recordSlot
    { date := r.date, number := r.number, outcome := .ran, started := r.started, skipped := r.skipped }

/-- A slot run reaches its end: the bells whose origin it is are brought down (R147). -/
def slotRunEnds (r : SlotRun) (s : State) : State :=
  allBells.foldl (fun s b =>
    if (s.swingRec b).origin = some (.slotRun r.id) then s.bringDown b .slotEnd else s) (s.endRun r)

/-- A ringing slot starts, or is recorded SKIPPED while 8 runs are in progress (R146). -/
def startSlot (d : Date) (number : Nat) (x : RingSlot) (s : State) : State :=
  if Config.slotRuns ≤ s.swing.runs.length then
    (s.recordSlot { date := d, number := number, outcome := .skipped, started := [], skipped := [] }).raiseAll .bell
  else
    let id := s.swing.nextRun
    let r : SlotRun :=
      { id := id, date := d, number := number, bells := x.bells, stagger := x.stagger, start := s.now
        ends := s.now + x.duration * Config.minute, remaining := bellsOf x.bells, waiting := none, nextAt := none
        started := [], skipped := [] }
    (s.modSwing fun w => { w with runs := w.runs ++ [r], nextRun := id + 1 }).slotNext id

/-- The ringing slots handed over for the date `d`, numbered from 1 (notes/assumptions/58.md). -/
def slotsOf (s : State) (d : Date) : List (Nat × RingSlot) :=
  match s.swing.day with
  | some (e, l) => if e = d then l.zipIdx.map fun x => (x.2 + 1, x.1) else []
  | none => []

/-- A minute is acted on: slots passed over are recorded MISSED, those of this minute start, the guard advances (R145). Those
missed are recorded in slot order (notes/assumptions/58.md). -/
def actOnMinute (d : Date) (m : Nat) (s : State) : State :=
  let guard := s.swing.guard
  let missed := (s.slotsOf d).filter fun x => laterThanSlotGuard (d, x.2.start) false guard && x.2.start < m
  let s := missed.foldl (fun s x =>
    (s.recordSlot { date := d, number := x.1, outcome := .missed, started := [], skipped := [] }).raiseAll .bell) s
  if laterThanSlotGuard (d, m) true guard then
    let s := ((s.slotsOf d).filter fun x => x.2.start == m).foldl (fun s x => s.startSlot d x.1 x.2) s
    s.modSwing fun w => { w with guard := some (d, m) }
  else s

/-- A minute announcement reaches the swing controller: it is acted on while it carries the time-valid flag, and held until
the hand-over of its date (R145). -/
def swingMinute (d : Date) (m : Nat) (valid : Bool) (s : State) : State :=
  if !valid then s
  else if s.swing.day.any fun x => x.1 == d then s.actOnMinute d m
  else s.modSwing fun w => { w with held := w.held ++ [(d, m)] }

/-- A program hand-over reaches the swing controller; the minutes held for its date are acted on (R145). -/
def swingHandOver (d : Date) (slots : List RingSlot) (s : State) : State :=
  let mine := s.swing.held.filter fun x => x.1 == d
  let s := s.modSwing fun w => { w with day := some (d, slots), held := w.held.filter fun x => x.1 != d }
  mine.foldl (fun s x => s.actOnMinute x.1 x.2) s

/-! ### Sensors, the lock-out and ALL-STOP -/

/-- A swing pulse of bell `b` (R137, R138, R140, R141). See notes/assumptions/41.md. -/
def swingEdge (b : Bell) (s : State) : State :=
  let s := s.modSwingRec b fun r => { r with lastPulse := some s.now }
  match s.swingState b with
  | .starting => s.modSwingRec b fun r => { r with edges := min 255 (r.edges + 1) }
  | .ringing =>
    s.modSwingRec b fun r => { r with timer := some (s.now + (s.config b).pulseTimeout * Config.second) }
  | .stopping => s.testRest b
  | .settling =>
    if (s.bell b).rest.state = some true then
      s.modSwingRec b fun r => { r with timer := some (s.now + (s.config b).settleTime * Config.second) }
    else s
  | _ => s

/-- A change of bell `b`'s REST (R140, R141). -/
def swingRest (b : Bell) (s : State) : State :=
  match s.swingState b with
  | .stopping => s.testRest b
  | .settling => if (s.bell b).rest.state = some true then s else s.toStopping b none false
  | _ => s

/-- The lock-out has gone on: every bell that swings or starts is brought down (R144). -/
def swingLockOut (s : State) : State := allBells.foldl (fun s b => s.bringDown b .lockOut) s

/-- ALL-STOP at the swing controller: every slot run ends, and every bell that swings or starts is brought down (R144,
R147). The runs are recorded in the order in which they started (notes/assumptions/64.md). -/
def swingAllStop (s : State) : State :=
  allBells.foldl (fun s b => s.bringDown b .allStop) (s.swing.runs.foldl (fun s r => s.endRun r) s)

/-- The first swing state of bell `b`, at the scan that makes the sensor image valid (R148). -/
def swingFirstState (b : Bell) (s : State) : State :=
  if s.swingState b = .unreported then
    if !(s.config b).hammer && !(s.config b).motor then s.toIdle b none true
    else if (s.bell b).rest.state = some true then s.toSettling b true
    else s.toStopping b none true
  else s

/-! ### The signals between the blocks -/

/-- The hammer state of bell `b` as the swing controller takes it (R61, R135, R142). -/
def hammerReported (b : Bell) (s : State) : State :=
  match s.swingState b, (s.bell b).hammer with
  | .parking, some .parked => s.toWaitLoad b
  | .parking, some .fault => s.swingFaults b .parkFault
  | .waitLoad, h | .starting, h | .ringing, h => if h = some .parked then s else s.swingFaults b .hammerLost
  | _, _ => s

/-- One signal is acted on. -/
def deliver (x : Signal) (s : State) : State :=
  match x with
  | .hammer b => s.hammerReported b
  | .loadFell => s.reevaluate
  | .slotNext id => s.slotNext id

/-- Signals are delivered in the order in which they were given, those that a delivery gives included. -/
def settleFor : Nat → State → State
  | 0, s => s
  | n + 1, s =>
    match s.signals with
    | [] => s
    | x :: rest => settleFor n (deliver x { s with signals := rest })

/-- Every signal of this event is delivered (notes/assumptions/37.md). -/
def settle (s : State) : State := s.settleFor Config.signalLimit

end State

end Sys2Proof.Machine
end

