-- ==== Sys2Proof/Machine/Players.lean ====
section
/-! DEFINITION. The chime players: quarter chimes (R104 to R107), the hour strike and its deferral (R108 to R110), the request
player (R111 to R114), the toll runs (R116), single strikes (R118), and how each hands its notes to the strike engine
(R79, R87, R103). -/

namespace Sys2Proof.Machine

/-- Whether a minute of the day lies in the silent window (R29). -/
def Program.silentAt (p : Program) (m : Nat) : Bool :=
  if p.silentStart = p.silentEnd then false
  else if p.silentStart < p.silentEnd then p.silentStart ≤ m && m < p.silentEnd
  else p.silentStart ≤ m || m < p.silentEnd

/-- How many of the notes at the head name no bell 1..24, and are skipped (R103). -/
def restsAtHead : List Note → Nat
  | n :: rest => if (bellOf? n.bell).isNone then restsAtHead rest + 1 else 0
  | [] => 0

/-- The number of the first note whose bell lies in 1..24, with its bell (R105). -/
def firstNote? : List Note → Option (Nat × Bell)
  | n :: rest =>
    match bellOf? n.bell with
    | some b => some (0, b)
    | none => (firstNote? rest).map fun x => (x.1 + 1, x.2)
  | [] => none

/-- The slip that a planning outcome charges (R87). -/
def Planned.slip : Planned → Nat
  | .queued _ _ d _ => d
  | .dropped _ => 0

/-- Whether a planning outcome is QUEUED. -/
def Planned.isQueued : Planned → Bool
  | .queued _ _ _ _ => true
  | .dropped _ => false

/-- A run's counts with one note more handed over and its planning outcome (R103). -/
def RunCounts.handOver (c : RunCounts) (o : Planned) : RunCounts :=
  match o with
  | .queued _ _ _ _ => { c with handed := c.handed + 1 }
  | .dropped _ => { c with handed := c.handed + 1, dropped := c.dropped + 1 }

namespace State

/-- The hand-over instant of a note of offset `offset` on bell `b`, in a run with a start and an accumulated slip, with the
bell's lead as it is now (R103). -/
def handOverAt (s : State) (start offset slip : Nat) (b : Bell) : Nat :=
  start + offset + slip - (s.config b).lead - 512

/-- The hand-over instant of note `k` of a tune; a note whose bell lies outside 1..24 has none (R103). -/
def noteInstant (s : State) (notes : List Note) (tempo start slip k : Nat) : Nat :=
  match notes[k]?.bind fun n => bellOf? n.bell with
  | some b => s.handOverAt start (noteOffset notes tempo k) slip b
  | none => 0

/-! ### The quarter run -/

/-- The notes of quarter `q`'s buffer, where it is VALID. -/
def bufferNotes (s : State) (q : Quarter) : Option (List Note) :=
  let b := s.players.buffers.get q
  if b.state = .valid then b.tune.map Tune.notes else none

/-- The notes that a quarter run plays: those its buffer holds. -/
def quarterNotes (s : State) (r : QuarterRun) : List Note :=
  ((s.players.buffers.get r.quarter).tune.map Tune.notes).getD []

/-- The rests at the next note are skipped; the note after them becomes the next, and its hand-over instant is fixed; the run
ends when it has finished handing over (R103, R104). -/
def advanceQuarter (s : State) : State :=
  match s.players.quarterRun with
  | some r =>
    let notes := s.quarterNotes r
    let k := restsAtHead (notes.drop r.next)
    if notes.length ≤ r.next + k then s.endQuarterRun
    else
      let r := { r with
        next := r.next + k, counts := { r.counts with skipped := r.counts.skipped + k }
        handAt := s.noteInstant notes r.tempo r.start r.slip (r.next + k) }
      s.modPlayers fun y => { y with quarterRun := some r }
  | none => s

/-- A chime that is suppressed or dropped: one loss item (R106). -/
def chimeLost (reason : DropReason) (s : State) : State := s.lose reason

/-- A chime is dropped because quarter `q`'s buffer is not VALID: one FETCH item, but for an EMPTY buffer, which belongs to a
slot that is NONE (R106). -/
def chimeNotHeld (q : Quarter) (s : State) : State :=
  if (s.players.buffers.get q).state = .empty then s else s.chimeLost .fetch

/-- The prepared Q4 chime reaches its test: the run starts if its buffer is VALID, and is dropped otherwise (R105, R106).
See notes/assumptions/54.md and, for a buffer that is EMPTY by then, notes/assumptions/56.md. -/
def testFourthQuarter (s : State) : State :=
  match s.players.quarterRun with
  | some r =>
    if r.started || s.now < r.testAt then s
    else if (s.bufferNotes r.quarter).isSome then
      (s.modPlayers fun y => { y with quarterRun := some { r with started := true } }).advanceQuarter
    else (s.modPlayers fun y => { y with quarterRun := none }).chimeNotHeld r.quarter
  | none => s

/-- The quarter run hands its next note over, where the instant fixed for it has come (R79, R87, R103). -/
def handQuarter (s : State) : State :=
  match s.players.quarterRun with
  | some r =>
    let notes := s.quarterNotes r
    match notes[r.next]?.bind fun n => (bellOf? n.bell).map fun b => (n, b) with
    | some (n, b) =>
      let offset := noteOffset notes r.tempo r.next
      if r.started ∧ r.handAt ≤ s.now then
        let x : StrikeRequest :=
          { source := .quarter, port := none, bell := b, cls := n.cls, onset := r.start + offset + r.slip
            policy := r.policy, allowance := r.maxSlip - r.slip, run := some r.id, index := r.next }
        let o := s.planned x
        let r := { r with next := r.next + 1, slip := r.slip + o.slip, counts := r.counts.handOver o }
        (((s.plan x).modPlayers fun y => { y with quarterRun := some r }).advanceQuarter).arbitrate
      else s
    | none => s
  | none => s

/-- A new quarter run takes the place of one that still hands over, which ends; the buffer that one played from is then free
for refilling, unless the new run starts now and plays from it too (R102, R104, R105). See notes/assumptions/54.md. A Q4 chime
that is prepared and not yet started gives way too, and is no loss item (notes/assumptions/56.md). -/
def beginQuarterRun (r : QuarterRun) (s : State) : State :=
  match s.players.quarterRun with
  | some old =>
    if old.quarter = r.quarter ∧ r.started then s.modPlayers fun y => { y with quarterRun := some r, nextRun := r.id + 1 }
    else s.endQuarterRun.modPlayers fun y => { y with quarterRun := some r, nextRun := r.id + 1 }
  | none => s.modPlayers fun y => { y with quarterRun := some r, nextRun := r.id + 1 }

/-- The quarter announcement of Q1 to Q3 (R104). -/
def quarterChime (p : Program) (q : Quarter) (minute count : Nat) (s : State) : State :=
  match p.tunes.get q with
  | none => s
  | some _ =>
    if p.silentAt minute then s.chimeLost .silent
    else if (s.bufferNotes q).isNone then s.chimeLost .fetch
    else
      (s.beginQuarterRun
        { id := s.players.nextRun, quarter := q, start := count, tempo := p.tempo, policy := p.policy
          maxSlip := p.maxSlip, slip := 0, next := 0, counts := .zero, started := true, testAt := s.now
          ahead := none, handAt := 0 }).advanceQuarter

/-- The fourth-quarter chime is placed before the hour `h`, or dropped FETCH (R105). -/
def prepareFourthQuarter (p : Program) (h : HourAhead) (s : State) : State :=
  match p.tunes.get 3 with
  | none => s
  | some _ =>
    match s.bufferNotes 3 with
    | none => s.chimeLost .fetch
    | some notes =>
      let start := max (h.count - tuneDuration notes p.tempo - p.hourGap) (s.now + 768)
      let testAt := match firstNote? notes with
        | some (k, b) => max s.now (s.handOverAt start (noteOffset notes p.tempo k) 0 b)
        | none => s.now
      (s.beginQuarterRun
        { id := s.players.nextRun, quarter := 3, start := start, tempo := p.tempo, policy := p.policy
          maxSlip := p.maxSlip, slip := 0, next := 0, counts := .zero, started := false, testAt := testAt
          ahead := some h.count, handAt := 0 }).testFourthQuarter

/-- The hour strike run for the hour `h` is planned, in place of one that exists (R108). -/
def planHourStrike (p : Program) (h : HourAhead) (s : State) : State :=
  if p.hourOn then
    let r : HourRun :=
      { id := s.players.nextRun, hour := h.hour, instant := h.count
        count := if h.hour % 12 = 0 then 12 else h.hour % 12
        bell := p.hourBell, interval := p.hourInterval, cls := p.hourClass, policy := p.policy
        maxSlip := p.maxSlip, busy := p.busy, start := h.count, slip := 0, next := 0, state := .planned
        firstOpen := false, reason := none, testAt := 0, granted := 0, dropped := 0
        handAt := s.handOverAt h.count 0 0 p.hourBell }
    s.modPlayers fun y => { y with hourRun := some r, nextRun := r.id + 1 }
  else s

/-- The silent hour's losses: one item for the chime if Q4 has a slot, one for the strike if it is enabled (R106). -/
def silentHour (p : Program) (s : State) : State :=
  let s := if (p.tunes.get 3).isSome then s.chimeLost .silent else s
  if p.hourOn then s.chimeLost .silent else s

/-- The hour-ahead announcement is taken under the program in force (R105). -/
def takeHourAhead (p : Program) (h : HourAhead) (s : State) : State :=
  if p.silentAt (h.hour * 60) then s.silentHour p else (s.prepareFourthQuarter p h).planHourStrike p h

/-- A quarter announcement is taken under the program in force; that of an hour starts nothing (R104, R105). -/
def takeQuarter (p : Program) (q : QuarterInstant) (count : Nat) (s : State) : State :=
  match q.index % 4 with
  | 1 => s.quarterChime p 0 (q.index * 15) count
  | 2 => s.quarterChime p 1 (q.index * 15) count
  | 3 => s.quarterChime p 2 (q.index * 15) count
  | _ => s

/-- One announcement reaches the clock player; before the first program hand-over of a start it is held (R101). -/
def chimeAnnounced (x : HeldAnnouncement) (s : State) : State :=
  match s.players.program with
  | some p =>
    match x with
    | .quarter q count => s.takeQuarter p q count
    | .hourAhead h => s.takeHourAhead p h
  | none => s.modPlayers fun y => { y with held := y.held ++ [x] }

/-- The withdrawal of an hour-ahead: the Q4 run prepared from it and the hour strike run planned from it end (R107). The
record of the last hour stays (notes/assumptions/44.md). -/
def chimeWithdrawn (h : HourAhead) (s : State) : State :=
  let s := s.modPlayers fun y => { y with held := y.held.filter fun x => x != .hourAhead h }
  let s := if s.players.quarterRun.any fun r => r.ahead == some h.count then s.endQuarterRun else s
  if s.players.hourRun.any fun r => r.instant == h.count then s.modPlayers fun y => { y with hourRun := none } else s

/-- A program hand-over reaches the clock player: the buffers' slots (R102), and the announcements that waited for it (R101).
`date` says that its cause is DATE. -/
def chimeHandOver (p : Program) (date : Bool) (s : State) : State :=
  let s := s.modPlayers fun y => { y with program := some p }
  let s := (List.finRange 4).foldl (fun s q =>
    let b := s.players.buffers.get q
    if date || b.target != p.tunes.get q then s.assignBufferWhenFree q (p.tunes.get q) else s) s
  let s := s.requestFetch
  let held := s.players.held
  held.foldl (fun s x => s.chimeAnnounced x) (s.modPlayers fun y => { y with held := [] })

/-! ### The hour strike -/

/-- Whether the next blow may be handed over: the instant fixed for it has come, and under DEFER blow 1 waits for the end
outcome of blow 0 (R103, R109). -/
def hourReady (s : State) (r : HourRun) : Bool :=
  r.state != .deferred && r.next < r.count && !(r.busy == .defer && r.firstOpen) && r.handAt ≤ s.now

/-- The hour strike hands its next blow over, the blow after it becomes the next with its instant, and the arbiter acts (R79,
R87, R103, R108). -/
def handBlow (r : HourRun) (s : State) : State :=
  let x : StrikeRequest :=
    { source := .hour, port := none, bell := r.bell, cls := r.cls, onset := r.start + r.next * r.interval + r.slip
      policy := r.policy, allowance := r.maxSlip - r.slip, run := some r.id, index := r.next }
  let o := s.planned x
  let r' := { r with
    next := r.next + 1, slip := r.slip + o.slip, state := .striking
    firstOpen := if r.next = 0 then o.isQueued else r.firstOpen
    handAt := s.handOverAt r.start ((r.next + 1) * r.interval) (r.slip + o.slip) r.bell }
  let s := (s.plan x).modPlayers fun y => { y with hourRun := some r' }
  let s := match o with
    | .dropped d => s.hourOutcome r.id r.next (.dropped d)
    | .queued _ _ _ _ => s
  s.arbitrate

/-- The hour strike hands its next blow over where its instant has come. -/
def handHour (s : State) : State :=
  match s.players.hourRun with
  | some r => if s.hourReady r then s.handBlow r else s
  | none => s

/-- A test of the deferred hour strike: it restarts, or takes the new reason and waits 256 ticks more (R110). -/
def deferTests (s : State) : State :=
  match s.players.hourRun with
  | some r =>
    if r.state = .deferred ∧ r.testAt ≤ s.now then
      match s.availability none r.bell with
      | none =>
        s.handBlow { r with state := .striking, start := s.now + (s.config r.bell).lead, slip := 0, next := 0 }
      | some x => s.modPlayers fun y => { y with hourRun := some { r with reason := some x, testAt := r.testAt + 256 } }
    else s
  | none => s

/-- A deferred hour strike is given up 153,600 ticks after its hour (R110). -/
def deferExpires (s : State) : State :=
  match s.players.hourRun with
  | some r =>
    if r.state = .deferred ∧ r.instant + 153600 ≤ s.now then
      let l : LastHour := { hour := r.hour, granted := r.granted, dropped := r.dropped, expired := r.reason }
      (s.modPlayers fun y => { y with hourRun := none, lastHour := some l }).raiseAll .chime
    else s
  | none => s

/-! ### The request player -/

/-- The rests at the next note are skipped; the note after them becomes the next, and its hand-over instant is fixed; the run
completes when nothing is left to hand over and nothing is queued (R103, R113). -/
def advanceRequest (s : State) : State :=
  match s.players.request.run with
  | some r =>
    let notes := (r.tune.map Tune.notes).getD []
    let k := restsAtHead (notes.drop r.next)
    let tempo := r.tempo.getD ((r.tune.map Tune.tempo).getD 0)
    (s.modRequest fun r =>
      { r with
        next := r.next + k, counts := { r.counts with skipped := r.counts.skipped + k }
        handAt := s.noteInstant notes tempo r.start r.slip (r.next + k) }).completeRequest
  | none => s

/-- The next note of the request player with its bell and its offset, where there is one. -/
def nextTuneNote (r : RequestRun) : Option (Note × Bell × Nat) :=
  match r.tune with
  | some t =>
    match t.notes[r.next]? with
    | some n => (bellOf? n.bell).map fun b => (n, b, noteOffset t.notes (r.tempo.getD t.tempo) r.next)
    | none => none
  | none => none

/-- The request player hands its next note over, where the instant fixed for it has come (R79, R87, R103, R113). -/
def handTune (s : State) : State :=
  match s.players.request.run with
  | some r =>
    match nextTuneNote r with
    | some (n, b, offset) =>
      if r.handAt ≤ s.now then
        let x : StrikeRequest :=
          { source := .tune, port := some r.owner, bell := b, cls := n.cls, onset := r.start + offset + r.slip
            policy := r.policy.getD .slip, allowance := r.maxSlip - r.slip, run := some r.id, index := r.next }
        let o := s.planned x
        let r := { r with next := r.next + 1, slip := r.slip + o.slip, counts := r.counts.handOver o
                          queued := r.queued + o.isQueued.toNat }
        let s := (s.plan x).modPlayers fun y =>
          { y with request := { y.request with state := .playing, run := some r } }
        s.advanceRequest.arbitrate
      else s
    | none => s
  | none => s

/-- The next note or blow of a run is handed over (R103). -/
def handOverNext (k : RunKind) (s : State) : State :=
  match k with
  | .quarter => s.testFourthQuarter.handQuarter
  | .hour => s.handHour
  | .request => s.handTune

/-- The request player stops: in FETCHING a stop is pending, in WAITING and PLAYING it returns to IDLE (R114, R119). A stop
pending already keeps its cause (notes/assumptions/55.md). -/
def stopRequest (cause : EndCause) (s : State) : State :=
  match s.players.request.state with
  | .idle => s
  | .fetching => s.modRequest fun r => { r with stopPending := r.stopPending.orElse fun _ => some cause }
  | .waiting | .playing => s.finishRequest cause

/-- The run with its DEFAULT fields resolved by the tune that its fetch returned at `now` (R112). -/
def resolveRun (r : RequestRun) (t : Tune) (now : Nat) : RequestRun :=
  { r with
    tune := some t
    tempo := some (r.tempo.getD t.tempo)
    policy := some (r.policy.getD t.policy)
    maxSlip := if r.policy.isSome then r.maxSlip else 64
    start := max r.start (now + 256) }

/-- The request player's fetch ends: with a tune the DEFAULT fields are resolved and it waits for its start; a stop that is
pending, or a failure, returns it to IDLE (R112, R114). See notes/assumptions/55.md. -/
def playFetched (result : Except Status Tune) (s : State) : State :=
  match s.players.request.run with
  | some r =>
    match r.stopPending, result with
    | some cause, _ => s.finishRequest cause
    | none, .error _ => s.modPlayers fun y => { y with request := { state := .idle, run := none, last := y.request.last } }
    | none, .ok t =>
      (s.modPlayers fun y =>
        { y with request := { y.request with state := .waiting, run := some (resolveRun r t s.now) } }).advanceRequest
  | none => s

/-! ### Tolls and single strikes -/

/-- A toll run's instant: a blow is handed over and the remaining count falls (R116). -/
def tollStrikes (p : Port) (s : State) : State :=
  match s.players.tolls.get p with
  | some r =>
    if r.next ≤ s.now ∧ r.remaining ≠ some 0 then
      let x : StrikeRequest :=
        { source := .toll, port := some p, bell := r.bell, cls := r.cls, onset := r.next + (s.config r.bell).lead
          policy := .slip, allowance := 64, run := some r.id, index := r.handed }
      let o := s.planned x
      let r := { r with
        next := r.next + r.interval, handed := r.handed + 1, remaining := r.remaining.map fun n => n - 1
        queued := r.queued + o.isQueued.toNat, dropped := r.dropped + (!o.isQueued).toNat }
      (((s.plan x).modToll p fun _ => some r).completeToll p).arbitrate
    else s
  | none => s

/-- The request of a single strike (R79, R118). -/
def singleRequest (s : State) (p : Port) (b : Bell) (cls : Nat) : StrikeRequest :=
  { source := .single, port := some p, bell := b, cls := cls, onset := s.now + (s.config b).lead, policy := .slip
    allowance := 64, run := none, index := 0 }

/-- ALL-STOP at the chime players: the clock player's runs, the request player and the toll runs end (R119). -/
def playersAllStop (s : State) : State :=
  let s := s.endQuarterRun
  let s := s.modPlayers fun y => { y with hourRun := none }
  let s := s.stopRequest .allStop
  [Port.v, .c, .s].foldl (fun s p =>
    if (s.players.tolls.get p).isSome then (s.modToll p fun _ => none).raise .chime p else s) s

end State

end Sys2Proof.Machine
end

