-- ==== Sys2Proof/Machine/Keys.lean ====
section
/-! DEFINITION. Debouncing (R51, R122) and the clavier scanner: the conditions of the keys and the two-key lockout (R124,
R125), bell keys and function keys (R127, R128), ALL-STOP (R130) and a change of mode (R126). -/

namespace Sys2Proof.Machine

/-- A sensor after a scan's reading: the debounced state takes a reading that repeats the one before it, and a change of a
known state sets the latch (R51, R53). -/
def Sensor.sample (x : Sensor) (reading : Bool) : Sensor :=
  if x.last == some reading && x.state != some reading then
    { last := some reading, state := some reading, latch := x.latch || x.state.isSome }
  else { x with last := some reading }

/-- Whether a debounced state changed: a first state is not a change (R51). -/
def debouncedChange (before after : Option Bool) : Bool := before.isSome && after.isSome && before != after

/-- Whether a debounced state changed to true. -/
def becameTrue (before after : Option Bool) : Bool := before == some false && after == some true

/-- Whether a debounced state changed to false. -/
def becameFalse (before after : Option Bool) : Bool := before == some true && after == some false

/-- The keys 1..31, which have conditions and pass through the arbiter. -/
def conditionKeys : List (Fin 32) := (List.finRange 32).filter fun k => k.val < 31

/-- The key 32 of ALL-STOP (R130). -/
def allStopKey : Fin 32 := 31

/-- A key after a scan's reading; a first state gives its condition, and an opening the condition OPEN (R122, R124). -/
def Key.sample (x : Key) (reading : Bool) : Key :=
  let state := if x.last == some reading then some reading else x.state
  { last := some reading
    state := state
    condition := match x.state, state with
      | none, some true => .ignored
      | none, some false | some true, some false => .opened
      | _, _ => x.condition }

namespace State

/-- A change of key `k`. -/
def modKey (k : Fin 32) (f : Key → Key) (s : State) : State :=
  s.modClavier fun c => { c with keys := c.keys.modify k f }

/-- The condition of key `k` replaced. -/
def setCondition (k : Fin 32) (x : KeyCondition) (s : State) : State := s.modKey k fun y => { y with condition := x }

/-- The class of a live blow (R123). -/
def liveClass (s : State) : Nat := s.clavier.cls + (s.clavier.pedal.state == some true).toNat

/-- A bell key registers: its request is planned (R127). -/
def bellKey (b : Bell) (s : State) : State :=
  let x : StrikeRequest :=
    { source := .clavier, port := s.clavier.binding, bell := b, cls := s.liveClass
      onset := s.now + (s.config b).lead, policy := .slip, allowance := 64, run := none, index := 0 }
  let o := s.planned x
  (s.plan x).modClavier fun c =>
    { c with registered := c.registered + 1
             queued := c.queued + o.isQueued.toNat
             dropped := c.dropped + (!o.isQueued).toNat }

/-- A function key registers: its entry is queued, or lost with the overrun flag (R128). -/
def functionKey (key : Nat) (s : State) : State :=
  let t := s.localTime
  let x : KeyEntry :=
    { key := key, pedal := s.clavier.pedal.state == some true, hour := t.hour, minute := t.minute, second := t.second
      tick := t.tick, valid := s.tk.timeValid }
  let s := s.modClavier fun c =>
    if c.queue.length < Config.keyQueue then { c with queue := c.queue ++ [x] }
    else { c with overrun := true, overruns := bump c.overruns }
  match s.clavier.binding with
  | some p => s.raise .keys p
  | none => s

/-- Key `k` registers (R125, R127, R128). -/
def register (s : State) (k : Fin 32) : State :=
  let s := s.setCondition k .registered
  if h : k.val < 24 then s.bellKey ⟨k.val, h⟩ else s.functionKey (k.val + 1)

/-- The two-key lockout is evaluated on the keys that became CLOSED and OPEN in this scan (R125). -/
def lockoutArbiter (closed opened : List (Fin 32)) (s : State) : State :=
  let put (x : Arbiter) (s : State) : State := s.modClavier fun c => { c with arbiter := x }
  let all (x : KeyCondition) (l : List (Fin 32)) (s : State) : State := l.foldl (fun s k => setCondition k x s) s
  match s.clavier.arbiter with
  | .free =>
    match closed with
    | [] => s
    | [k] => (put (.held k) s).register k
    | l => put (.contended l) (all .contending l s)
  | .held k => (if opened.contains k then put .free else id) (all .ignored closed s)
  | .contended l =>
    let s := all .contending closed s
    match conditionKeys.filter fun k => (l.contains k && !opened.contains k) || closed.contains k with
    | [] => put .free s
    | [k] => (put (.held k) s).register k
    | l => put (.contended l) s

/-- ALL-STOP (R130). -/
def allStop (s : State) : State :=
  let s := s.modClavier fun c => { c with allStops := c.allStops + 1, lastAllStop := some s.localTime }
  (s.swingAllStop.playersAllStop).purge (fun _ => true) .stopped

/-- A scan of the clavier: the readings are debounced, keys register, the arbiter of the hammers acts on their requests, and
key 32 acts last (R122 to R130). That order is the model's choice (notes/assumptions/33.md). -/
def scanClavier (keys : BitVec 32) (pedal : Bool) (s : State) : State :=
  let before := s.clavier.keys
  let s := s.modClavier fun c =>
    { c with pedal := c.pedal.sample pedal
             keys := ⟨(List.finRange 32).map fun k => (c.keys.get k).sample (keys.getLsbD k.val), by simp⟩ }
  let was (k : Fin 32) : Option Bool := (before.get k).state
  let is (k : Fin 32) : Option Bool := (s.clavier.keys.get k).state
  let closed := conditionKeys.filter fun k => becameTrue (was k) (is k)
  let opened := conditionKeys.filter fun k => becameFalse (was k) (is k)
  let t := match s.clavier.mode with
    | .rollover => closed.foldl register s
    | .lockout => s.lockoutArbiter closed opened
  let t := if t.clavier.registered = s.clavier.registered then t else t.arbitrate
  if becameTrue (was allStopKey) (is allStopKey) then t.allStop else t

/-- A change of mode frees the arbiter, and every key that is CLOSED becomes IGNORED (R126). -/
def changeMode (m : KeyMode) (s : State) : State :=
  if s.clavier.mode = m then s
  else
    s.modClavier fun c =>
      { c with mode := m, arbiter := .free
               keys := c.keys.map fun k => if k.state == some true then { k with condition := .ignored } else k }

end State

end Sys2Proof.Machine
end

