-- ==== Sys2Proof/Machine/Dials.lean ====
section
/-! DEFINITION. The dial trains: the target and the lag (R35), the states (R36), the impulse (R37, R38) and the evaluations
at a start (R40, R41). -/

namespace Sys2Proof.Machine

/-- The half-minute that the hands ought to show at a local time (R35). -/
def dialTarget (t : LocalTime) : Nat :=
  (t.hour % 12 * 60 + t.minute) * 2 + (if 30 ≤ t.second then 1 else 0)

/-- The effective position: an impulse in flight counts as done (R35). -/
def Dial.effective (d : Dial) : Nat := if d.impulse.isSome then (d.position + 1) % 1440 else d.position

/-- The lag of a train at a local time (R35). -/
def Dial.lagAt (d : Dial) (t : LocalTime) : Nat := (dialTarget t + 1440 - d.effective) % 1440

/-- The opposite polarity. -/
def Polarity.flip : Polarity → Polarity
  | .a => .b
  | .b => .a

/-- The state that a lag decides (R36). -/
def Dial.stateFor (d : Dial) (lag : Nat) : DialState :=
  if lag ≤ 1 then .inStep else if 1440 ≤ lag + d.hold then .holding else .catching

/-- Whether a lag demands an impulse (R36). -/
def Dial.demandsFor (d : Dial) (lag : Nat) : Bool := lag == 1 || (2 ≤ lag && lag + d.hold < 1440)

/-- A demanded impulse begins, where the running count has reached the catch-up instant (R37). -/
def Dial.beginImpulse (d : Dial) (now : Nat) : Dial :=
  if d.demanded && d.catchUp ≤ now && d.impulse.isNone then
    { d with
      demanded := false
      inFlight := true
      impulse := some { polarity := d.lastPolarity.flip, ends := now + d.width }
      lastStart := some now
      catchUp := now + d.period }
  else d

/-- Whether the train is CATCHING and its catch-up instant has been reached, so that an evaluation of that cause is due (R37). -/
def Dial.catchesUp (d : Dial) (now : Nat) : Bool := d.state == .catching && (d.catchUpDue || d.catchUp ≤ now)

/-- A train in RUNNING mode is evaluated at a local time, the time valid or not (R35, R36, R37). The evaluation of a catch-up
instant that has been reached stays due, though the impulse now begun moves the instant on, while the train stays CATCHING
(notes/assumptions/68.md). -/
def Dial.evaluate (d : Dial) (t : LocalTime) (valid : Bool) (now : Nat) : Dial :=
  if d.mode ≠ .running then d
  else if !valid then { d with state := .holding, lag := none, demanded := false, catchUpDue := false }
  else
    let lag := d.lagAt t
    let state := d.stateFor lag
    { d with
      state := state, lag := some lag, demanded := d.demandsFor lag
      catchUpDue := state == DialState.catching && d.catchesUp now }.beginImpulse now

/-- The evaluation at a catch-up instant of a CATCHING train, which is then due no more (R35, R37). -/
def Dial.evaluateCatchUp (d : Dial) (t : LocalTime) (valid : Bool) (now : Nat) : Dial :=
  { d.evaluate t valid now with catchUpDue := false }

namespace State

/-- A train's record changes, with DIAL where its state does (R45). -/
def changeDial (n : Train) (f : Dial → Dial) (s : State) : State :=
  let before := (s.dial n).state
  let s := s.modDial n f
  if (s.dial n).state = before then s else s.raiseAll .dial

/-- A train is evaluated now (R35). -/
def evaluateDial (n : Train) (s : State) : State :=
  s.changeDial n fun d => d.evaluate s.localTime s.tk.timeValid s.now

/-- Every train is evaluated (R35). -/
def evaluateDials (s : State) : State := allTrains.foldl (fun s n => s.evaluateDial n) s

/-- A train's catch-up instant is reached: a CATCHING train is evaluated, and in the other states an impulse that waits for
the instant begins (R37). -/
def dialCatchesUp (n : Train) (s : State) : State :=
  if (s.dial n).catchesUp s.now then s.changeDial n fun d => d.evaluateCatchUp s.localTime s.tk.timeValid s.now
  else if (s.dial n).state ≠ .catching ∧ (s.dial n).catchUp ≤ s.now then s.modDial n fun d => d.beginImpulse s.now
  else s

/-- An impulse ends when it has been driven for its width (R38). -/
def dialImpulseEnds (n : Train) (s : State) : State :=
  s.modDial n fun d =>
    match d.impulse with
    | some i =>
      if i.ends ≤ s.now then
        { d with impulse := none, position := (d.position + 1) % 1440, lastPolarity := i.polarity, inFlight := false }
      else d
    | none => d

/-- The volatile items of the dial trains are lost and their lines released; the marks stay (R34, R39). A RUNNING train has
no state until it is evaluated; it stands IN-STEP until then, so that DIAL is raised when it enters another state and
not when it enters IN-STEP (R41). -/
def dropDials (s : State) : State :=
  s.modDials fun t => t.map fun d =>
    { d with
      state := match d.mode with
        | .unset => .unset
        | .stopped => .stopped
        | .running => .inStep
      lag := none, lastStart := none, catchUp := 0, impulse := none, demanded := false, catchUpDue := false }

/-- Each train found with its in-flight mark set takes the uncertain flag and loses the mark, with DIAL (R40). -/
def markUncertain (s : State) : State :=
  let marked := s.dials.rows.any Dial.inFlight
  let s := s.modDials fun t => t.map fun d => { d with uncertain := d.uncertain || d.inFlight, inFlight := false }
  if marked then s.raiseAll .dial else s

end State

end Sys2Proof.Machine
end

