-- ==== Sys2Proof/Machine/CalendarOps.lean ====
section
/-! DEFINITION. The calendar: matching a date (R22 to R24), the choice (R25), the program hand-over (R26, R27, R30) and the
year references (R20). -/

namespace Sys2Proof.Machine

/-- Whether an entry's kind matches a local date (R22 to R24). -/
def EntryKind.matchesDate (refs : List Date) (d : Date) : EntryKind → Bool
  | .fixed month day => d.month == month && d.day == day
  | .yearRef offset =>
    match refs.find? fun r => r.year == d.year with
    | some r => (d.ordinal : Int) == (r.ordinal : Int) + offset
    | none => false
  | .weekday w => d.weekday == w
  | .nth week w month => d.month == month && d.day == dayOfWeek d.year month week w

/-- The slots that match a date, in ascending order, with their entries. -/
def Calendar.matching (c : Calendar) (d : Date) : List (EntrySlot × Entry) :=
  (List.finRange 48).filterMap fun i =>
    match c.entries.get i with
    | some e => if e.kind.matchesDate c.yearRefs d then some (i, e) else none
    | none => none

/-- The winner among matching slots: the highest rank, and the lowest slot among equals (R25). -/
def winner : List (EntrySlot × Entry) → Option (EntrySlot × Entry)
  | [] => none
  | x :: rest =>
    match winner rest with
    | some y => if x.2.rank < y.2.rank then some y else some x
    | none => some x

/-- The program and the winner that a local date chooses (R25). -/
def Calendar.choose (c : Calendar) (d : Date) : ProgramNo × Option EntrySlot :=
  match winner (c.matching d) with
  | some (i, e) => (e.program, some i)
  | none => (0, none)

/-- Insertion of a year reference, in ascending year (R31). -/
def insertRef (d : Date) : List Date → List Date
  | [] => [d]
  | r :: rest => if r.year < d.year then r :: insertRef d rest else d :: r :: rest

/-- The year-reference table with a date added or replaced; of four other years the lowest goes (R20). -/
def addRef (d : Date) (refs : List Date) : List Date :=
  let others := refs.filter fun r => r.year != d.year
  if others.length < 4 then insertRef d others else insertRef d (others.drop 1)

namespace State

/-- The program hand-over: the program of the day in force goes to the clock player, the swing controller and the lighting
controller; `valid` is the time-valid flag where its cause is DATE (R26, R27, R30). -/
def handOver (valid : Option Bool) (quiet : Bool) (s : State) : State :=
  match s.cal.day with
  | some d =>
    let p := s.cal.programs.get d.program
    ((s.chimeHandOver p valid.isSome).swingHandOver d.date p.slots).lightHandOver d.date p.plan valid quiet
  | none => s

/-- A date change is announced for the local date now (R16, R26); `quiet` at a start (R169). -/
def dateChange (quiet : Bool) (s : State) : State :=
  let d := s.localTime.date
  let (program, winner) := s.cal.choose d
  (s.modCal fun c =>
    { c with day := some { date := d, program := program, winner := winner, valid := s.tk.timeValid } }).handOver
      (some s.tk.timeValid) quiet

/-- Whether the choice for the date of the day in force would differ from the day in force (R27). -/
def choiceDiffers (s : State) : Bool :=
  s.cal.day.any fun d => (d.program, d.winner) != s.cal.choose d.date

/-- The day's choice is run again, with a CHOICE hand-over where it differs (R27). -/
def rerunChoice (s : State) : State :=
  match s.cal.day with
  | some d =>
    if s.choiceDiffers then
      let (program, winner) := s.cal.choose d.date
      (s.modCal fun c => { c with day := some { d with program := program, winner := winner } }).handOver none false
    else s
  | none => s

end State

end Sys2Proof.Machine
end

