-- ==== Sys2Proof/Machine/Time.lean ====
section
/-! DEFINITION. The timekeeper: the tick and the boundaries that counting reaches (R1, R2, R13, R15 to R18), the stages of a
correction (R6, R11, R14), and the stages of a start (R19). -/

namespace Sys2Proof.Machine

/-- The largest Δ, in ticks either way, that is slewed (R4). -/
def slewLimit : Int := 512

/-- A saturating count raised by `k` (R14). -/
def bumpBy (n k : Nat) : Nat := min Config.saturation (n + k)

/-- Whether counting has stopped (R2). -/
def Counters.stopped (c : Counters) : Bool := c == .final

/-- The slew remainder one tick later (R5). -/
def slewStep (r : Int) : Int := if 0 < r then r - 1 else if r < 0 then r + 1 else 0

/-- Whether a tap has a boundary at a local time at tick 0 (R18). -/
def Tap.fires (x : Tap) (t : LocalTime) : Bool :=
  match x with
  | .off => false
  | .s1 => true
  | .s15 => t.second % 15 == 0
  | .s60 => t.second == 0
  | .min15 => t.second == 0 && t.minute % 15 == 0

namespace State

/-- The counting chain advances by one tick, holding at its last instant (R1, R2, R5); while the main supply is there the
running count, of 48 bits, advances too. See notes/assumptions/31.md. -/
def count (s : State) : State :=
  s.modTk fun t =>
    let c := if t.counters.stopped then t.counters else t.counters.advance
    { t with
      counters := c
      slew := if c.stopped then 0 else slewStep t.slew
      runCount := if s.power = .on then (t.runCount + 1) % 2 ^ 48 else t.runCount }

/-- The hour-ahead for the coming hour is given, where local time lies in the minute before it, the time is valid and the
hour is later than the guard (R15). -/
def giveHourAhead (s : State) : State :=
  let t := s.localTime
  let hour := t.nextHour
  if s.tk.timeValid && t.minute == 59 && hour.laterThan s.tk.guard then
    let h : HourAhead :=
      { date := hour.date, hour := hour.index / 4, count := s.now + (Config.minute - (t.second * Config.second + t.tick)) }
    (s.modTk fun k => { k with hourAhead := some h }).chimeAnnounced (.hourAhead h)
  else s

/-- An outstanding hour-ahead is withdrawn (R15). -/
def withdrawHourAhead (s : State) : State :=
  match s.tk.hourAhead with
  | some h => (s.modTk fun k => { k with hourAhead := none }).chimeWithdrawn h
  | none => s

/-- The quarter instants numbered above `after`, up to the latest that is not later than local time now, are recorded
missed, with CHIME where there is one (R14). See notes/assumptions/11.md. -/
def recordMissed (after : Nat) (s : State) : State :=
  let q := s.localTime.quarter
  if after < q.number then
    (s.modTk fun k =>
      { k with missedCount := bumpBy k.missedCount (q.number - after), lastMissed := some q
               guard := some q }).raiseAll .chime
  else s

/-- The number of the guard; EMPTY lies before every quarter instant (R12). See notes/assumptions/11.md. -/
def guardNumber (s : State) : Nat := (s.tk.guard.map QuarterInstant.number).getD 0

/-- The stages of a correction from its withdrawal of an hour-ahead on, local time having moved from `before`: `record` says
that quarters passed over are recorded missed, `setValid` that the flag was set by this step (R6 stages 3 to 8, R11). -/
def correct (before : LocalTime) (record setValid : Bool) (s : State) : State :=
  let s := s.withdrawHourAhead
  let s := if record && s.localTime.later before then s.recordMissed (max s.guardNumber before.quarter.number) else s
  let s := s.giveHourAhead
  let s := s.evaluateDials
  let s := s.lightTimeChange before s.localTime
  let s := if setValid || s.localTime.date != before.date then s.dateChange false else s
  s.raiseAll .time

/-- The in-force flag as the rule gives it now (R10). -/
def setInForce (s : State) : State := s.modTk fun k => { k with dstInForce := k.dstRule.inForceAt k.counters }

/-- The in-force flag is evaluated, and a change of it moves local time (R10, R11). -/
def evaluateDst (s : State) : State :=
  let t := s.setInForce
  if t.tk.dstInForce = s.tk.dstInForce then s else t.correct s.localTime s.tk.timeValid false

/-- The time is stepped to a named instant (R6). See notes/assumptions/25.md. -/
def stepTime (c : Counters) (s : State) : State :=
  let t := s.modTk fun k => { k with counters := c, divider := 0, slew := 0, timeValid := true }
  t.setInForce.correct s.localTime s.tk.timeValid (!s.tk.timeValid)

/-- The correction Δ of an instant named now, in ticks (R4). -/
def correction (s : State) (c : Counters) : Int := (c.ticks : Int) - s.tk.counters.ticks

/-- Whether a SET-TIME of correction Δ is slewed (R4). -/
def slews (s : State) (delta : Int) : Bool :=
  s.tk.timeValid && !s.tk.counters.stopped && -slewLimit ≤ delta && delta ≤ slewLimit

/-- The quarter instant of local time `t` is reached by counting (R13); the hour-ahead of an hour ends at it (R15). -/
def quarterReached (t : LocalTime) (s : State) : State :=
  let s := s.modTk fun k =>
    { k with hourAhead := if k.hourAhead.any fun h => h.date == t.date && h.hour * 4 == t.quarter.index then none
                          else k.hourAhead }
  if s.tk.timeValid && t.quarter.laterThan s.tk.guard then
    (s.modTk fun k => { k with guard := some t.quarter }).chimeAnnounced (.quarter t.quarter s.now)
  else s

/-- A minute boundary is announced to the swing and lighting controllers (R17). -/
def minuteReached (t : LocalTime) (s : State) : State :=
  (s.swingMinute t.date t.minuteOfDay s.tk.timeValid).lightMinute
    { date := t.date, minute := t.minuteOfDay, valid := s.tk.timeValid }

/-- The TICK taps whose boundary is reached (R18). -/
def tapsReached (t : LocalTime) (s : State) : State :=
  [Port.v, .c, .s].foldl (fun s p => if (s.tk.taps.get p).fires t then s.raise .tick p else s) s

/-- The boundaries at tick 0 of a second, in the order of notes/assumptions/12.md (R11, R13, R15 to R18). -/
def boundaries (s : State) : State :=
  let t := s.localTime
  let s := if t.second = 0 ∧ t.minute % 15 = 0 then s.quarterReached t else s
  let s := if t.second = 0 ∧ t.minute = 59 then s.giveHourAhead else s
  let s := if t.second = 0 ∧ t.minuteOfDay = 0 then s.dateChange false else s
  let s := if t.second = 0 then s.minuteReached t else s
  let s := if t.second % 30 = 0 then s.evaluateDials else s
  let s := s.tapsReached t
  if s.tk.counters.second = 0 ∧ s.tk.counters.minute = 0 then s.evaluateDst else s

/-- A tick ends (R1): the chain counts, and while the part works the boundaries that it reaches are announced. -/
def tick (s : State) : State :=
  let t := s.count
  if t.power = .on ∧ t.tk.counters.tick = 0 ∧ ¬s.tk.counters.stopped then t.boundaries else t

/-- The timekeeper's stages of a start, after which the RUNNING dial trains are evaluated (R19, R41). -/
def startStages (s : State) : State :=
  let t := s.setInForce
  let t := if t.tk.dstInForce = s.tk.dstInForce then t else t.raiseAll .time
  let t := if t.tk.timeValid then t.recordMissed t.guardNumber else t
  let t := t.giveHourAhead
  (t.dateChange true).evaluateDials

end State

end Sys2Proof.Machine
end

