-- ==== Sys2Proof/Machine/ClaimOps.lean ====
section
/-! DEFINITION. The claims table: the conditions of CLAIM (R69), the taking of a claim (R70), renewal and release (R72, R74),
lapse (R75) and the end of a releasing claim (R76). -/

namespace Sys2Proof.Machine

/-- The condition codes of R69's table, in its order. -/
inductive ClaimRefusal where
  | owned | moving | lockedOut | notAtRest
  deriving DecidableEq, Repr

namespace State

/-- Whether bell `b` hangs at rest: its debounced REST is true. -/
def atRest (s : State) (b : Bell) : Bool := (s.bell b).rest.state == some true

/-- The first condition of R69 that bell `b` meets. -/
def claimRefusal (s : State) (p : Port) (k : ClaimKind) (b : Bell) : Option ClaimRefusal :=
  let mine := s.claim b |>.filter fun c => c.owner == p
  let heldRope := mine.any fun c => c.kind == .rope
  if (s.claim b).isSome && mine.isNone then some .owned
  else if k == .rope && !heldRope && s.swingState b != .idle then some .moving
  else if k == .rope && !heldRope && s.lockedOut then some .lockedOut
  else if k == .chime && heldRope && !s.atRest b then some .notAtRest
  else none

/-- The expiry of a claim that port `p` takes or renews now (R71). -/
def claimExpiry (s : State) (p : Port) : Nat := s.now + s.claims.hold.get p * Config.minute

/-- The ROPE demand of bell `b` is placed or withdrawn (R54). -/
def ropeDemand (b : Bell) (present : Bool) (s : State) : State := s.changeDemands b fun d => { d with rope := present }

/-- Port `p` takes bell `b` with a kind: the record is written, the ROPE demand follows it, and the queue is purged (R70). -/
def takeClaim (p : Port) (k : ClaimKind) (b : Bell) (s : State) : State :=
  let before := (s.claim b).map Claim.kind
  let c : Claim := { owner := p, kind := k, expiry := some (s.claimExpiry p), releasing := false }
  let s := s.setClaim b (some c)
  match before, k with
  | some .rope, .rope | some .chime, .chime => s
  | _, .rope => (s.ropeDemand b true).purge (fun e => e.bell == b) .claimed
  | none, .chime => s.purge (fun e => e.bell == b && !claimAllows (some c) e.port) .claimed
  | some .rope, .chime => s.ropeDemand b false

/-- A claim on bell `b` ends: the record is free, and a ROPE demand is withdrawn (R74 to R76). -/
def endClaim (b : Bell) (s : State) : State :=
  match s.claim b with
  | some c => if c.kind = .rope then (s.setClaim b none).ropeDemand b false else s.setClaim b none
  | none => s

/-- A claim is given up, by its holder or at its expiry: a ROPE claim on a bell that is not at rest becomes releasing, and one
that is releasing stays; any other ends (R74, R75). -/
def giveUpClaim (b : Bell) (s : State) : State :=
  match s.claim b with
  | some c =>
    if c.kind = .rope ∧ (c.releasing ∨ ¬s.atRest b) then s.setClaim b (some { c with expiry := none, releasing := true })
    else s.endClaim b
  | none => s

/-- A claim lapses when its expiry is reached (R75). -/
def claimLapses (b : Bell) (s : State) : State :=
  match s.claim b with
  | some c => if c.expiry.any (· ≤ s.now) then (s.giveUpClaim b).raise .claim c.owner else s
  | none => s

/-- REST of bell `b` has become true: a releasing claim ends, with CLAIM on its owner's port (R76). -/
def claimAtRest (b : Bell) (s : State) : State :=
  match s.claim b with
  | some c => if c.releasing then (s.endClaim b).raise .claim c.owner else s
  | none => s

end State

end Sys2Proof.Machine
end

