-- ==== Sys2Proof/Machine/Starts.lean ====
section
/-! DEFINITION. The loss of the supply and the starts: what is lost with the main supply (R63, R100, R148, R169, R176, R179),
a cut commit (R179), and the cold and the warm start (R19, R63, R64, R66, R175, R176). -/

namespace Sys2Proof.Machine

/-- The bytes of a slot after a commit that was cut: they read EMPTY or fail the slot's check, and are otherwise open
(R179, notes/assumptions/8.md). -/
def cutSlot (m : List Host.Cell) (t : TuneSlot) (n : Nat) : List Host.Cell :=
  let cut := slotProgram m t ((List.range Config.slotBytes).map (Config.cutByte n))
  match slotContent cut t with
  | .tune _ => slotProgram m t []
  | _ => cut

namespace State

/-- A commit that is executing is cut, and leaves its slot as the erase or the programming left it (R179). -/
def cutCommit (s : State) : State :=
  match s.store.executing with
  | some (.commit _ t, _) => s.modStore fun x => { x with flash := cutSlot x.flash t x.cuts, cuts := x.cuts + 1 }
  | _ => s

/-- Every piece of state on the main supply takes its value of a start, and every drive line is released; the counting chain
and the retained store are kept. -/
def dropVolatile (s : State) : State :=
  let s := s.cutCommit.dropDials
  let bell (r : BellRec) : BellRec := .atStart r.config
  let port (r : PortRec) : PortRec := .atStart r.rights r.mask
  { s with
    tk := { s.tk with runCount := 0, missedCount := 0, lastMissed := none, hourAhead := none
                      taps := { v := .off, c := .off, s := .off } }
    cal := { s.cal with day := none }
    bells := { BellTable.cold with bells := s.bells.bells.map bell }
    claims := { Claims.cold with hold := s.claims.hold }
    engine := .atStart s.engine.priorities
    players := .atStart
    clavier := .atStart s.clavier.mode s.clavier.cls s.clavier.binding
    swing := .atStart
    lights := { Lights.cold with
      circuits := s.lights.circuits.map fun r => .atStart r.config
      plans := s.lights.plans, solar := s.lights.solar
      handDate := none, dateSeen := none, timelineDate := none }
    load := { s.load with queue := [] }
    link := { s.link with ports := s.link.ports.map port }
    store := .atStart s.store.flash s.store.cuts
    signals := [] }

/-- Mains goes absent: every pulse and impulse is cut, and all that is on the main supply is lost (R39, R63). -/
def mainsFails (s : State) : State := { s.dropVolatile with power := .absent }

/-- VDD is lost with no prior change of the mains-present input: the same is lost (R63). -/
def supplyLost (s : State) : State := { s.dropVolatile with power := .off }

/-- A start: CLAIM on all ports (R66), MAINS after a return of mains (R176), the dial marks (R40), the timekeeper's stages
(R19), and the evaluation of the dial trains (R41). -/
def start (mains : Bool) (s : State) : State :=
  let s := { s.dropVolatile with power := .on }
  let s := s.raiseAll .claim
  let s := if mains then s.raiseAll .mains else s
  s.markUncertain.startStages.settle

/-- Everything that a cold start clears: the counting chain and the retained store (the tables "state after each start"). -/
def clearRetained (s : State) : State :=
  { s with
    tk := .cold
    cal := .cold
    dials := .replicate 4 .cold
    bells := .cold
    claims := .cold
    engine := .atStart .cold
    clavier := .atStart .lockout 2 (some .c)
    lights := .cold
    load := .cold
    link := .cold }

/-- A cold start (R19, R63). -/
def coldStarts (s : State) : State := s.clearRetained.start true

/-- A warm start after a return of mains; it finds nothing to start while the part works (R19, R63). -/
def warmStarts (s : State) : State := if s.power = .on then s else s.start true

/-- The RESET input: the section locks are cleared, and a warm start follows that raises no MAINS (R19, R38, R175).
See notes/assumptions/5.md. -/
def resets (s : State) : State :=
  if s.power = .on then (s.modLink fun l => { l with locks := 0 }).start false else s

end State

end Sys2Proof.Machine
end

