-- ==== Sys2Proof/Machine/Sensors.lean ====
section
/-! DEFINITION. The scan of the bell sensors (R50 to R53): the readings are debounced, and each change is delivered to the
blocks that use the sensor; the lock-out (R62), the mains-present input (R63) and the first states of a start (R64, R148). -/

namespace Sys2Proof.Machine

/-- The reading of sensor `i` of bell `b` in a scan: SW, REST, HOME, PARK in the order of the sense lines (R50). -/
def reading (matrix : BitVec 96) (b : Bell) (i : Nat) : Bool := matrix.getLsbD (4 * b.val + i)

/-- A bell record after a scan of its sensors (R51). -/
def BellRec.sample (r : BellRec) (matrix : BitVec 96) (b : Bell) : BellRec :=
  { r with
    sw := r.sw.sample (reading matrix b 0)
    rest := r.rest.sample (reading matrix b 1)
    home := r.home.sample (reading matrix b 2)
    park := r.park.sample (reading matrix b 3) }

/-- Whether none of a bell's sensors is UNKNOWN. -/
def BellRec.known (r : BellRec) : Bool :=
  r.sw.state.isSome && r.rest.state.isSome && r.home.state.isSome && r.park.state.isSome

/-- The bell table after a scan of the sensors; the image is valid once none, the lock-out included, is UNKNOWN (R51).
See notes/assumptions/21.md. -/
def BellTable.sample (t : BellTable) (matrix : BitVec 96) (lockout mains : Bool) : BellTable :=
  let bells : Table 24 BellRec :=
    ⟨(List.finRange 24).map fun b => (t.bells.get b).sample matrix b, by simp⟩
  let lockout := t.lockout.sample lockout
  { bells := bells
    lockout := lockout
    mains := t.mains.sample mains
    imageValid := t.imageValid || (lockout.state.isSome && bells.rows.all BellRec.known) }

namespace State

/-- The changes of bell `b`'s sensors are delivered to the bell table, the claims table and the swing controller; `old` is
its record before the scan (R52). -/
def deliverBell (old : BellRec) (b : Bell) (s : State) : State :=
  let new := s.bell b
  let restChanged := debouncedChange old.rest.state new.rest.state
  let s := s.hammerSensors b restChanged (debouncedChange old.home.state new.home.state)
    (debouncedChange old.park.state new.park.state)
  let s := if becameTrue old.rest.state new.rest.state then s.claimAtRest b else s
  let s := if becameTrue old.sw.state new.sw.state then s.swingEdge b else s
  if restChanged then s.swingRest b else s

/-- The LOCKOUT demand is placed on every bell, or removed from every bell (R54, R62). -/
def lockoutDemands (present : Bool) (s : State) : State :=
  allBells.foldl (fun s b => s.changeDemands b fun d => { d with lockout := present }) s

/-- A change of the lock-out: its demands, BELL, and the swing controller (R62, R144). -/
def deliverLockout (before : Option Bool) (s : State) : State :=
  let after := s.bells.lockout.state
  if becameTrue before after then (s.lockoutDemands true).swingLockOut.raiseAll .bell
  else if becameFalse before after then (s.lockoutDemands false).raiseAll .bell
  else s

/-- A READY or UNPARKING hammer that meets a demand in the scan of its first state is sent to PARKING (R64).
See notes/assumptions/48.md. -/
def meetDemand (b : Bell) (s : State) : State :=
  if s.demanded b && ((s.bell b).hammer == some .ready && !s.pulsing b || (s.bell b).hammer == some .unparking) then
    s.enterParking b
  else s

/-- The first states of a start, at the scan that makes the sensor image valid (R64, R148); a lock-out that went on before
that scan has placed its demands already. -/
def firstStates (s : State) : State :=
  let s := allBells.foldl (fun s b => s.hammerFirstState b) s
  let s := if s.lockedOut then s.lockoutDemands true else s
  let s := allBells.foldl (fun s b => s.meetDemand b) s
  allBells.foldl (fun s b => s.swingFirstState b) s

/-- The debounced changes of a scan are delivered; `old` is the bell table before it (R52, R62, R64).
See notes/assumptions/40.md. -/
def deliverScan (old : BellTable) (s : State) : State :=
  let s := allBells.foldl (fun s b => s.deliverBell (old.bells.get b) b) s
  let s := s.deliverLockout old.lockout.state
  if s.bells.imageValid && !old.imageValid then s.firstStates else s

/-- A scan while the part works: mains-present debounced false stops it, and otherwise the changes are delivered (R50, R63). -/
def scanWorking (matrix : BitVec 96) (lockout mains : Bool) (s : State) : State :=
  let old := s.bells
  let s := s.modBells fun t => t.sample matrix lockout mains
  if s.bells.mains.state == some false && old.mains.state != some false then s.mainsFails
  else (s.deliverScan old).settle

/-- A scan while mains is absent reads the mains-present input only; debounced true, it begins a warm start (R63).
See notes/assumptions/5.md. -/
def scanMains (mains : Bool) (s : State) : State :=
  let s := s.modBells fun t => { t with mains := t.mains.sample mains }
  if s.bells.mains.state == some true then s.warmStarts else s

end State

end Sys2Proof.Machine
end

