-- ==== Sys2Proof/Machine/LinkOps.lean ====
section
/-! DEFINITION. The link controller: the receiver of a port (R170), the taking of a request with its checks (R171, R174,
R175), reads and their snapshot (R172), parts (R172), and delayed requests (R173). -/

namespace Sys2Proof.Machine

/-- The answer of a request's owner: a status and a payload, with the state after it. -/
structure Answer where
  state : State
  status : Status
  payload : List Byte

/-- The bytes of the FIFO that the frame being received holds (R170). -/
def Receiver.bytes : Receiver → Nat
  | .hunt => 0
  | .length => 1
  | .body _ l | .check _ l => 2 + l.length

/-- The bytes that a port's FIFO holds: those of the good frames that wait, and of the one being received (R170). -/
def PortRec.fifo (r : PortRec) : Nat := (r.waiting.map fun l => l.length + 3).sum + r.receiver.bytes

/-- The status code of a response (11, "layouts"). -/
def Status.code (x : Status) : Byte := BitVec.ofNat 8 x.ctorIdx

/-- The check byte of a frame: the sum of the length, the body and the check is 0 modulo 256 (R170, R171). -/
def frameCheck (body : List Byte) : Byte := BitVec.ofNat 8 (256 - (body.length + (body.map BitVec.toNat).sum) % 256)

/-- The bytes of a frame that carries a body: C3h, the length of the body, the body and the check (R170, R171). -/
def frameOf (body : List Byte) : List Byte := [0xC3, BitVec.ofNat 8 body.length] ++ body ++ [frameCheck body]

/-- The response frame of R171: its body is the response code, the status and the payload. -/
def Response.frame (r : Response) : List Byte := frameOf ([r.code, r.status.code] ++ r.payload)

/-- What a port's link is sending: the frame of the response that it answers with; nothing between responses (R171). -/
def PortRec.sends (r : PortRec) : List Byte := (r.response.map Response.frame).getD []

/-- The pages of a read's data; a read without data has one (R172). -/
def pageCount (data : List Byte) : Nat := max 1 ((data.length + (Config.pageBytes - 1)) / Config.pageBytes)

/-- Page `n` of a read's data, preceded by its number and the count (R172). -/
def pageOf (data : List Byte) (n : Nat) : List Byte :=
  le 1 n ++ le 1 (pageCount data) ++ (data.drop (n * Config.pageBytes)).take Config.pageBytes

namespace State

/-- The answer OK with a payload. -/
def ok (payload : List Byte) (s : State) : Answer := ⟨s, .ok, payload⟩

/-- A refusal with a status, which changes nothing. -/
def refuse (x : Status) (s : State) : Answer := ⟨s, x, []⟩

/-! ### Receiving (R170) -/

/-- The receiver of port `p` takes a state. -/
def receive (p : Port) (x : Receiver) (s : State) : State := s.modPort p fun r => { r with receiver := x }

/-- A frame is discarded with its error counted (R170, R177). -/
def discardFrame (p : Port) (x : LinkError) (s : State) : State := (s.receive p .hunt).linkError p x

/-- A byte that entered the FIFO is read by the receiver (R170). -/
def readByte (p : Port) (b : Byte) (s : State) : State :=
  match (s.port p).receiver with
  | .hunt => if b = 0xC3 then s.receive p .length else s
  | .length =>
    if 1 ≤ b.toNat ∧ b.toNat ≤ 60 then s.receive p (.body b.toNat []) else s.discardFrame p .length
  | .body n l => s.receive p (if l.length + 1 = n then .check n (l ++ [b]) else .body n (l ++ [b]))
  | .check n l =>
    if (n + (l.map BitVec.toNat).sum + b.toNat) % 256 = 0 then
      s.modPort p fun r => { r with receiver := .hunt, waiting := r.waiting ++ [l] }
    else s.discardFrame p .check

/-- A byte arrives on port `p`: with its stop bit low, or at a full FIFO, it is lost and the frame with it (R170).
See notes/assumptions/32.md. -/
def byteArrives (p : Port) (b : Byte) (stopBit : Bool) (s : State) : State :=
  if !stopBit then s.discardFrame p .framing
  else if Config.fifo ≤ (s.port p).fifo then s.discardFrame p .overflow
  else s.readByte p b

/-- More than 4 character times pass between two bytes of a frame; in HUNT no frame is being received (R170). -/
def gap (p : Port) (s : State) : State :=
  if (s.port p).receiver = .hunt then s else s.discardFrame p .gap

/-! ### Taking (R171) -/

/-- Whether a request of port `p` with a code and parameters may be taken now: the part works, no response is being sent,
and where good frames wait it is the oldest (R171). See notes/assumptions/3.md and notes/assumptions/45.md. -/
def takes (s : State) (p : Port) (code : Byte) (params : List Byte) : Bool :=
  s.power == .on && (s.port p).response.isNone && ((s.port p).waiting.head?.all fun l => l == code :: params)

/-- The port's record once a request is taken: its frame leaves the FIFO and is counted; the parts and the snapshot stay where
`parts` and `snapshot` say so (R171, R172, R177). -/
def takeFrame (p : Port) (parts snapshot : Bool) (s : State) : State :=
  s.modPort p fun r =>
    { r with
      waiting := r.waiting.tail
      counters := { r.counters with taken := bump r.counters.taken }
      parts := if parts then r.parts else none
      snapshot := if snapshot then r.snapshot else none }

/-- The response to port `p` begins to be sent (R171); its code is taken modulo 256 (notes/assumptions/67.md). -/
def respond (p : Port) (code : Byte) (a : Answer) : State :=
  a.state.modPort p fun r =>
    { r with response := some { code := code + 0x80, status := a.status, payload := a.payload } }

/-- Checks 2 to 5 of R171 on a request: the status with which the first that applies refuses it. -/
def check (s : State) (p : Port) (code : Byte) (params : List Byte) : Option Status :=
  match requestRow? code.toNat with
  | none => some .unknown
  | some row =>
    if !row.fits params then some .badValue
    else if row.right.any fun r => !s.holds p r then some .noRight
    else if row.sect.any fun x => s.locked x then some .locked
    else if row.delayed && (s.port p).outstanding.isSome then some .busy
    else none

/-- A request is taken: checked, handed to its owner, and answered (R171). -/
def request (p : Port) (code : Byte) (params : List Byte) (owner : State → Answer) (s : State) : State :=
  if s.takes p code params then
    let s := s.takeFrame p false false
    match s.check p code params with
    | some x => respond p code (s.refuse x)
    | none => respond p code (owner s)
  else s

/-- A request whose parameters a reader reads; it fails with BAD-VALUE (R171, R182). -/
def parsed (r : Rd α) (params : List Byte) (owner : α → State → Answer) (s : State) : Answer :=
  match readAll r params with
  | some a => owner a s
  | none => s.refuse .badValue

/-! ### Reads (R172) -/

/-- The parameters of a read before its page number. -/
def readArgs (params : List Byte) : List Byte := params.dropLast

/-- The page number of a read. -/
def readPage (params : List Byte) : Nat := (params.getLastD 0).toNat

/-- Whether port `p` holds the snapshot of this read. -/
def holdsSnapshot (s : State) (p : Port) (code : Byte) (args : List Byte) : Bool :=
  (s.port p).snapshot.any fun x => x.code == code && x.args == args

/-- A page above 0 of a read, answered from the snapshot (R172). One at or beyond the count is a page of the same read too, and
leaves the snapshot (notes/assumptions/61.md). -/
def laterPage (p : Port) (code : Byte) (params : List Byte) (s : State) : Answer :=
  match (s.port p).snapshot with
  | some x =>
    if x.code = code ∧ x.args = readArgs params then
      if readPage params < pageCount x.data then s.ok (pageOf x.data (readPage params)) else s.refuse .badValue
    else s.refuse .notSet
  | none => s.refuse .notSet

/-- Page 0 of a read whose data is `data`, which becomes the port's snapshot (R172). -/
def firstPage (p : Port) (code : Byte) (params : List Byte) (data : List Byte) (s : State) : Answer :=
  (s.modPort p fun r => { r with snapshot := some { code := code, args := readArgs params, data := data } }).ok
    (pageOf data 0)

/-- A read: page 0 takes its data at this instant and leaves the state `after`, BAD-VALUE where its parameters name nothing;
a later page comes from the snapshot (R171, R172). -/
def read (p : Port) (code : Byte) (params : List Byte) (data : State → Option (List Byte)) (after : State → State)
    (s : State) : State :=
  if s.takes p code params then
    let later := (requestRow? code.toNat).any (fun row => row.read && row.fits params) && readPage params != 0
    let s := s.takeFrame p false (later && s.holdsSnapshot p code (readArgs params))
    match s.check p code params with
    | some x => respond p code (s.refuse x)
    | none =>
      if later then respond p code (s.laterPage p code params)
      else match data s with
        | some l => respond p code ((after s).firstPage p code params l)
        | none => respond p code (s.refuse .badValue)
  else s

/-! ### Parts (R172) -/

/-- The number of a part, or its count, as its first and second parameters give them. -/
def partNumber (params : List Byte) (i : Nat) : Nat := (params.getD i 0).toNat

/-- The shares held once a part has come in sequence: part 1 where none of its request is held, or the part after those held,
with the same count; `none` for a part out of sequence (R172). See notes/assumptions/4.md. -/
def sharesWith (s : State) (p : Port) (code : Byte) (params : List Byte) : Option (List (List Byte)) :=
  let n := partNumber params 0
  let count := partNumber params 1
  let held := (s.port p).parts.filter fun x => x.code == code
  if n == 0 || count == 0 || 4 < count || count < n then none
  else match held with
    | some x => if x.count == count && n == x.shares.length + 1 then some (x.shares ++ [params.drop 2]) else none
    | none => if n == 1 then some [params.drop 2] else none

/-- A part of a long request: checks 2 to 4, then a part in sequence is gathered, and the last hands the whole request's
parameters to its owner (R172). -/
def part (p : Port) (code : Byte) (params : List Byte) (owner : List Byte → State → Answer) (s : State) : State :=
  if s.takes p code params then
    let s := s.takeFrame p true false
    let drop (s : State) : State := s.modPort p fun r => { r with parts := none }
    match s.check p code params with
    | some x =>
      let mine := (s.port p).parts.any fun y => y.code == code
      respond p code ((if mine && x != .badValue then s else drop s).refuse x)
    | none =>
      match s.sharesWith p code params with
      | none => respond p code ((drop s).refuse .badValue)
      | some shares =>
        if shares.length = partNumber params 1 then respond p code (owner shares.flatten (drop s))
        else
          let held : Parts := { code := code, count := partNumber params 1, shares := shares }
          respond p code ((s.modPort p fun r => { r with parts := some held }).ok (le 1 shares.length))
  else s

/-! ### Delayed requests (R173) -/

/-- The request becomes the port's outstanding one, and is answered TAKEN (R173). -/
def taken (p : Port) (code : Byte) (payload : List Byte) (s : State) : Answer :=
  ⟨s.modPort p fun r => { r with outstanding := some code }, .taken, payload⟩

/-- A delayed request completes: its completion is kept, and DONE raised (R173). -/
def complete (p : Port) (code : Byte) (x : Status) (payload : List Byte) (s : State) : State :=
  (s.modPort p fun r =>
    { r with outstanding := none
             completion := some { code := code, status := x, payload := payload } }).raise .done p

end State

end Sys2Proof.Machine
end

