-- ==== Sys2Proof/Machine/Reads.lean ====
section
/-! DEFINITION. The data of the reads, each in the order in which its rule names what it returns (R182); the codings that
the data book leaves to that order are in notes/assumptions/15.md. -/

namespace Sys2Proof.Machine

/-! ## Tower time and the calendar -/

/-- A part of the daylight rule (R8). -/
def wDstPart (p : DstPart) : List Byte := le 1 p.month ++ wWeek p.week ++ le 1 p.weekday ++ le 1 p.hour

/-- A kind with its fields, in 4 bytes (R21). -/
def wKind : EntryKind → List Byte
  | .fixed month day => le 1 0 ++ le 1 month ++ le 1 day ++ le 2 0
  | .yearRef o => le 1 1 ++ leInt 2 o ++ le 2 0
  | .weekday w => le 1 2 ++ le 1 w ++ le 3 0
  | .nth week w month => le 1 3 ++ wWeek week ++ le 1 w ++ le 1 month

/-- A calendar entry. -/
def wEntry (e : Entry) : List Byte := wKind e.kind ++ le 1 e.rank ++ le 1 e.program.val

/-- A tune slot or NONE. -/
def wTuneOr : Option TuneSlot → List Byte := wOr 1 fun t => le 1 t.val

/-- A plan number or NONE. -/
def wPlanOr : Option PlanNo → List Byte := wOr 1 fun n => le 1 n.val

/-- A ringing slot (R28). -/
def wRingSlot (x : RingSlot) : List Byte := le 2 x.start ++ wBells x.bells ++ le 1 x.duration ++ le 1 x.stagger

/-- A day program record, as SET-PROGRAM carries it (R28). -/
def wProgram (p : Program) : List Byte :=
  p.tunes.rows.flatMap wTuneOr ++ le 1 p.tempo ++ wName p.policy.ctorIdx ++ le 1 p.maxSlip ++ wFlag p.hourOn ++
    wBell p.hourBell ++ le 2 p.hourInterval ++ le 2 p.hourGap ++ le 1 p.hourClass ++ wName p.busy.ctorIdx ++
    le 2 p.silentStart ++ le 2 p.silentEnd ++ wPlanOr p.plan ++ wList wRingSlot p.slots

/-- A winner: a slot or DEFAULT (R25). -/
def wWinner : Option EntrySlot → List Byte := wOr 1 fun i => le 1 i.val

/-- A program and its winner, or NONE for both (R27). -/
def wChoice : Option (ProgramNo × Option EntrySlot) → List Byte
  | some (p, w) => le 1 0 ++ le 1 p.val ++ wWinner w
  | none => le 1 1 ++ le 1 0 ++ le 1 2 ++ le 1 0

/-- A lag: NONE, behind by D, or ahead by 1440 - D (R45). The three choice codes are the model's (notes/assumptions/51.md). -/
def wLag (d : Dial) : List Byte :=
  match d.lag with
  | none => le 1 0 ++ le 2 0
  | some n => if d.state = .holding then le 1 2 ++ le 2 (1440 - n) else le 1 1 ++ le 2 n

/-- One train of GET-DIALS (R45). -/
def wDial (now : Nat) (d : Dial) : List Byte :=
  wFlag d.fitted ++ le 2 d.width ++ le 2 d.period ++ le 2 d.hold ++ wName d.state.ctorIdx ++ le 2 d.position ++
    wName d.lastPolarity.ctorIdx ++ wFlag d.uncertain ++ wFlag d.impulse.isSome ++
    wName ((d.impulse.map fun i => i.polarity.ctorIdx).getD 0) ++ wLag d ++ wTicksTo now d.catchUp

/-- A bell's configuration part, as SET-BELL carries it (R46). -/
def wBellConfig (c : BellConfig) : List Byte :=
  wFlag c.hammer ++ wFlag c.motor ++ le 1 c.lead ++ le 2 c.recovery ++ c.widths.rows.flatMap (le 1) ++
    le 2 c.startLoad ++ le 2 c.runLoad ++ le 1 c.startTime ++ le 1 c.pulseTimeout ++ le 1 c.settleTime ++
    le 2 c.stopTimeout ++ le 1 c.parkTimeout

/-- A hammer state in R49's order, NONE after the six. -/
def wHammer : Option Hammer → List Byte
  | some h => wName h.ctorIdx
  | none => wName 6

/-- A park demand set in R54's order. -/
def wDemands (d : Demands) : List Byte :=
  le 1 (d.lockout.toNat + 2 * d.swing.toNat + 4 * d.rope.toNat + 8 * d.start.toNat)

/-- A sensor in GET-SENSORS (R53). -/
def wSensor (x : Sensor) : List Byte := wReading x.last ++ wReading x.state ++ wFlag x.latch

/-- The four sensors of a bell, in the order of the sense lines. -/
def BellRec.sensors (r : BellRec) : List Sensor := [r.sw, r.rest, r.home, r.park]

/-- The counts of a run (R103, R120). -/
def wCounts (c : RunCounts) : List Byte := le 2 c.handed ++ le 2 c.granted ++ le 2 c.dropped ++ le 2 c.skipped

/-- A drop reason in R97's order, NO-HAMMER after the nine. -/
def wReason (r : DropReason) : List Byte := wName r.ctorIdx

/-- A quarter buffer (R120). -/
def wBuffer (b : Buffer) : List Byte :=
  wName b.state.ctorIdx ++ wTuneOr b.slot ++
    le 1 (match b.state, b.tune with
      | .valid, some t => t.notes.length
      | _, _ => 0) ++
    le 1 (match b.state, b.status with
      | .failed, some x => x.ctorIdx
      | _, _ => 0)

/-- The quarter run (R120). The 2 bytes of an accumulated slip, here and in the other runs, are the model's choice
(notes/assumptions/51.md). -/
def wQuarterRun (r : QuarterRun) : List Byte := le 1 r.quarter.val ++ wCount r.start ++ wCounts r.counts ++ le 2 r.slip

/-- The hour strike run (R120). -/
def wHourRun (now : Nat) (r : HourRun) : List Byte :=
  wCount r.instant ++ le 1 r.count ++ wName r.state.ctorIdx ++ le 1 r.next ++ le 2 r.slip ++
    (if r.state = .deferred then
      wReason (r.reason.getD .interlock) ++ wTicksTo now r.testAt ++ wTicksTo now (r.instant + 153600)
     else le 9 0)

/-- The last hour strike (R120). -/
def wLastHour (l : LastHour) : List Byte :=
  le 1 l.hour ++ le 2 l.granted ++ le 2 l.dropped ++ wFlag l.expired.isSome ++ wReason (l.expired.getD .recovery)

/-- What the request player plays (R120); DEFAULT stands for a field not yet resolved, and S reads 0 once it has passed
(notes/assumptions/51.md). -/
def wRequestRun (now : Nat) (r : RequestRun) : List Byte :=
  wPort r.owner ++ le 1 r.slot.val ++ wOpt 2 r.tempo ++
    wName (match r.policy with
      | some p => p.ctorIdx
      | none => 2) ++
    le 2 r.maxSlip ++ wTicksTo now r.start ++ wCounts r.counts ++ le 2 r.slip

/-- The summary of the last run (R113). -/
def wSummary (x : Summary) : List Byte :=
  le 1 x.slot.val ++ wPort x.owner ++ wCounts x.counts ++ le 2 x.slip ++ wName x.cause.ctorIdx

/-- A toll run (R120). -/
def wToll (now : Nat) (r : TollRun) : List Byte :=
  wBell r.bell ++ le 2 r.interval ++ le 2 r.cls ++ wOpt 2 r.remaining ++ wTicksTo now r.next ++ le 4 r.handed ++
    le 4 r.granted ++ le 4 r.dropped

/-- The arbiter: FREE, HELD or CONTENDED, with the keys it names as a set (R125, notes/assumptions/51.md). -/
def wArbiter : Arbiter → List Byte
  | .free => wName 0 ++ le 4 0
  | .held k => wName 1 ++ le 4 (2 ^ k.val)
  | .contended l => wName 2 ++ le 4 ((l.map fun k => 2 ^ k.val).sum)

/-- An entry of the function-key queue (R128); the pedal is a flag (notes/assumptions/51.md). -/
def wKeyEntry (x : KeyEntry) : List Byte :=
  le 1 x.key ++ wFlag x.pedal ++ le 1 x.hour ++ le 1 x.minute ++ le 1 x.second ++ le 1 x.tick ++ wFlag x.valid

/-- A bell with the code of its refusal (R134). -/
def wSkipped (x : Bell × StartRefusal) : List Byte := wBell x.1 ++ wName x.2.ctorIdx

/-- An origin in R132's order: a port, a slot run, or NONE. -/
def wOrigin : Option Origin → List Byte
  | some (.port p) => wPort p
  | some (.slotRun _) => wName 3
  | none => wName 4

/-- A fault cause, NONE first (R132). -/
def wSwingFault : Option SwingFault → List Byte
  | none => wName 0
  | some f => wName (f.ctorIdx + 1)

/-- A last cause in the order of R149's table, NONE after it. -/
def wSwingCause : Option SwingCause → List Byte
  | none => wName 11
  | some (.fault f) => wName (7 + f.ctorIdx)
  | some c => wName c.ctorIdx

/-- A slot run in progress (R149): the ticks to the next bell's start, or WAITING, which a run that has taken all its bells
returns too (notes/assumptions/64.md). -/
def wSlotRun (now : Nat) (r : SlotRun) : List Byte :=
  wDate r.date ++ le 1 r.number ++ wTicksToOr now r.nextAt ++ wTicksTo now r.ends ++ wBells (bellSetOf r.started) ++
    wList wSkipped r.skipped

/-- A line of the slot history (R149), with the bells of R147 (notes/assumptions/58.md). -/
def wSlotRecord (x : SlotRecord) : List Byte :=
  wDate x.date ++ le 1 x.number ++ wName x.outcome.ctorIdx ++ wBells (bellSetOf x.started) ++ wList wSkipped x.skipped

/-- A swing record (R149). -/
def wSwingRec (now : Nat) (r : SwingRec) : List Byte :=
  wName r.state.ctorIdx ++ wOrigin r.origin ++ wTicksToOr now r.timer ++ wTicksToOr now r.durationEnd ++ le 1 r.edges ++
    wOr 6 (fun p => le 6 (now - p)) r.lastPulse ++ wSwingFault r.fault ++ wSwingCause r.lastCause

/-- A circuit's configuration part (R150). -/
def wCircuitConfig (c : CircuitConfig) : List Byte := le 2 c.weight ++ le 1 c.rank ++ le 1 c.floor ++ le 1 c.fallback

/-- A trigger with its field, in 2 bytes (R158). -/
def wTrigger : Trigger → List Byte
  | .clock m => le 1 0 ++ le 2 m
  | .sunset o => le 1 1 ++ leInt 2 o
  | .sunrise o => le 1 2 ++ leInt 2 o
  | .ringStart => le 1 3 ++ le 2 0
  | .ringEnd => le 1 4 ++ le 2 0

/-- A plan step as SET-PLAN carries it (R158). -/
def wStep (x : PlanStep) : List Byte := wTrigger x.trigger ++ le 1 x.mask.toNat ++ le 2 x.level ++ le 2 x.ramp

/-- An override with its end and its port, or NONE (R168). -/
def wOverride (o : Override) : List Byte := le 2 o.level ++ wOpt 2 o.ends ++ wPort o.port

/-- A circuit's record (R168), `clamped` as computed; the ramp is R150's four fields or NONE (notes/assumptions/59.md). -/
def wCircuit (now : Nat) (clamped : Bool) (r : CircuitRec) : List Byte :=
  wCircuitConfig r.config ++ le 1 r.planLevel ++ wOr 6 wOverride r.override ++ le 1 r.wanted ++ le 1 r.granted ++
    le 1 r.current ++ wFlag r.shed ++ wFlag clamped ++
    wOr 8 (fun p : Ramp => le 1 p.start ++ le 1 p.step ++ le 2 r.rampTime ++ wTicksTo now p.next) r.ramp

/-- A step of today's timeline with its computed minute and done mark (R159, R168). -/
def wTimelineStep (x : TimelineStep) : List Byte := wStep x.step ++ le 2 x.minute ++ wFlag x.done

/-- An entry of the load queue (R168). -/
def wLoadEntry (now : Nat) (e : LoadEntry) : List Byte :=
  wBell e.bell ++ le 2 e.load ++ wPortOr e.requester ++ wTicksTo now e.expiry

/-- A directory entry with its note count (R178). -/
def wDirEntry : DirEntry → List Byte
  | .unknown => wName 0 ++ le 1 0
  | .empty => wName 1 ++ le 1 0
  | .present n => wName 2 ++ le 1 n
  | .faulty => wName 3 ++ le 1 0
  | .underCommit => wName 4 ++ le 1 0

/-- An operation of the store queue: a clock fetch, a player's fetch, a TUNE-INFO read or a commit, and its slot (R178); these
fields and their codes are the model's (notes/assumptions/51.md). -/
def wStoreOp (x : StoreOp) : List Byte := wName x.ctorIdx ++ le 1 x.slot.val

/-- The seven counters of a port (R177). -/
def wLinkCounters (c : LinkCounters) : List Byte :=
  le 2 c.taken ++ le 2 c.sent ++ le 2 c.lengthErrors ++ le 2 c.checkErrors ++ le 2 c.gaps ++ le 2 c.framing ++
    le 2 c.overflows

/-- The bytes of the longest payload of a completion, that of TUNE-PLAY (R112, R181). -/
def completionBytes : Nat := 11

/-- A completion: its request code, its status and its payload in the bytes of the longest (R173, R182). -/
def wCompletion (c : Completion) : List Byte :=
  [c.code, c.status.code] ++ c.payload ++ le (completionBytes - c.payload.length) 0

/-- A hammer slot: FREE, or BUSY with what it drives (R88, R99). -/
def wHammerSlot (now : Nat) : Option BusySlot → List Byte
  | none => wName 0 ++ le 14 0
  | some k =>
    wName 1 ++ wBell k.bell ++ wName k.source.ctorIdx ++ wPortOr k.port ++ le 1 k.cls ++ wCount k.onset ++
      wTicksTo now k.ends

namespace State

/-- GET-TIME (R7). -/
def dataTime (s : State) : List Byte :=
  let t := s.tk
  wTime t.counters ++ le 1 t.counters.date.weekday ++ wLocal s.localTime ++ wFlag t.timeValid ++ wFlag t.dstInForce ++
    leInt 3 t.slew ++ wOr 5 wQuarter t.guard ++ le 2 t.missedCount ++ wOr 5 wQuarter t.lastMissed ++ wCount t.runCount

/-- GET-DST (R8). -/
def dataDst (s : State) : List Byte :=
  let r := s.tk.dstRule
  wFlag r.enabled ++ wDstPart r.begins ++ wDstPart r.ends ++ wFlag s.tk.dstInForce

/-- GET-YEAR-REF (R31). -/
def dataYearRef (s : State) : List Byte := wList wDate s.cal.yearRefs

/-- GET-ENTRY of a slot (R31). -/
def dataEntry (s : State) (i : EntrySlot) : List Byte := wOr 7 wEntry (s.cal.entries.get i)

/-- GET-ENTRY-MAP (R31). -/
def dataEntryMap (s : State) : List Byte :=
  wList (fun i : EntrySlot => le 1 i.val) ((List.finRange 48).filter fun i => (s.cal.entries.get i).isSome)

/-- GET-DAY (R25). -/
def dataDay (s : State) : List Byte :=
  wOr 4 wDate (s.cal.day.map DayInForce.date) ++ wChoice (s.cal.day.map fun d => (d.program, d.winner)) ++
    wFlag (s.cal.day.any DayInForce.valid)

/-- CALENDAR-QUERY of a date (R31). -/
def dataQuery (s : State) (d : Date) : List Byte :=
  let (p, w) := s.cal.choose d
  le 1 p.val ++ wWinner w ++ wList (fun x : EntrySlot × Entry => le 1 x.1.val) (s.cal.matching d)

/-! ## Dial trains, bells and claims -/

/-- GET-DIALS (R45). -/
def dataDials (s : State) : List Byte := s.dials.rows.flatMap (wDial s.now)

/-- GET-BELLS (R49). -/
def dataBells (s : State) : List Byte :=
  (allBells.flatMap fun b =>
    let r := s.bell b
    wHammer r.hammer ++ wName ((r.cause.map fun c => c.ctorIdx + 1).getD 0) ++ wDemands r.demands ++
      wFlag (s.pulsing b) ++ wName (s.swingState b).ctorIdx ++ r.sensors.flatMap (fun x => wReading x.state) ++
      wCountOr r.lastOnset ++ wCountOr r.horizon) ++
    wReading s.bells.lockout.state ++ wFlag s.bells.imageValid

/-- GET-SENSORS (R53). -/
def dataSensors (s : State) : List Byte := s.bells.bells.rows.flatMap fun r => r.sensors.flatMap wSensor

/-- The bells that port `p` holds (R77). -/
def heldBy (s : State) (p : Port) : List Bell := allBells.filter fun b => (s.claim b).any fun c => c.owner == p

/-- GET-CLAIMS, for the port that sends it (R77). -/
def dataClaims (s : State) (p : Port) : List Byte :=
  (allBells.flatMap fun b =>
    let c := s.claim b
    wOwner (c.map Claim.owner) ++ wName ((c.map fun c => c.kind.ctorIdx).getD 0) ++ wFlag (c.any Claim.releasing) ++
      wTicksToOr s.now (c.bind Claim.expiry)) ++
    le 2 s.claims.hold.v ++ le 2 s.claims.hold.c ++ le 2 s.claims.hold.s ++ wBells (bellSetOf (s.heldBy p))

/-! ## Strikes, players and clavier -/

/-- The six priorities in the order of R91's table. -/
def priorityBytes (s : State) : List Byte :=
  let p := s.engine.priorities
  le 1 p.clavier ++ le 1 p.toll ++ le 1 p.hour ++ le 1 p.quarter ++ le 1 p.single ++ le 1 p.tune

/-- An entry of the strike queue, with whether it is due, waiting or not yet due (R99). The run's identifier is the model's
number of it (notes/assumptions/27.md). -/
def wEntryOf (s : State) (e : QueueEntry) : List Byte :=
  wName e.source.ctorIdx ++ wPortOr e.port ++ wBell e.bell ++ le 1 e.cls ++ wOpt 4 e.run ++ wCount e.onset ++ wCount e.fire ++
    wName (if s.due e then (if s.waits e then 1 else 0) else 2)

/-- GET-STRIKES (R99). -/
def dataStrikes (s : State) : List Byte :=
  wList s.wEntryOf s.engine.queue ++
    s.engine.slots.rows.flatMap (wHammerSlot s.now) ++ wBell s.engine.rotation ++ s.priorityBytes ++ wCount s.now

/-- GET-COUNTERS (R97, R98). -/
def dataCounters (s : State) : List Byte :=
  let l := s.engine.losses
  le 2 l.recovery ++ le 2 l.late ++ le 2 l.interlock ++ le 2 l.claimed ++ le 2 l.queueFull ++ le 2 l.hammerFault ++
    le 2 l.silent ++ le 2 l.fetch ++ le 2 l.stopped

/-- GET-PLAYERS (R120); a part that is empty is NONE, the player's fields are absent in IDLE. A fourth-quarter chime prepared
and not yet started is returned as the quarter run (notes/assumptions/54.md). -/
def dataPlayers (s : State) : List Byte :=
  let y := s.players
  y.buffers.rows.flatMap wBuffer ++ wOr 17 wQuarterRun y.quarterRun ++ wOr 20 (wHourRun s.now) y.hourRun ++
    wOr 7 wLastHour y.lastHour ++ wName y.request.state.ctorIdx ++
    ((y.request.run.map (wRequestRun s.now)).getD (le 22 0)) ++ wOr 13 wSummary y.request.last ++
    wOr 24 (wToll s.now) y.tolls.v ++ wOr 24 (wToll s.now) y.tolls.c ++ wOr 24 (wToll s.now) y.tolls.s

/-- GET-CLAVIER (R131): every key's debounced state, then the conditions of keys 1..31; the counts in their low 4 bytes
(notes/assumptions/57.md). -/
def dataClavier (s : State) : List Byte :=
  let c := s.clavier
  wName c.mode.ctorIdx ++ le 1 c.cls ++ wPortOr c.binding ++ wKeyState c.pedal.state ++
    (c.keys.rows.flatMap fun k => wKeyState k.state) ++
    ((c.keys.rows.take 31).flatMap fun k => wName k.condition.ctorIdx) ++ wArbiter c.arbiter ++ le 1 c.queue.length ++
    wFlag c.overrun ++ le 2 c.overruns ++ le 4 c.allStops ++ wOr 8 wLocal c.lastAllStop ++ le 4 c.registered ++
    le 4 c.queued ++ le 4 c.granted ++ le 4 c.dropped

/-! ## Swing, lights and load -/

/-- GET-SWING (R149); the slot runs come in the order in which they started (notes/assumptions/64.md). -/
def dataSwing (s : State) : List Byte :=
  s.swing.recs.rows.flatMap (wSwingRec s.now) ++ wList (wSlotRun s.now) s.swing.runs ++
    wOr 6 (fun g : Date × Nat => wDate g.1 ++ le 2 g.2) s.swing.guard ++ wList wSlotRecord s.swing.history

/-- Sunrise or sunset of today as a local minute, before any offset (R168), kept within the day (notes/assumptions/59.md). -/
def sunToday (s : State) (field : SolarPoint → Nat) : List Byte :=
  le 2 (clampMinute (solarMinute s.lights.solar field s.localTime.date + s.dstMinutes))

/-- GET-LIGHTS (R168). -/
def dataLights (s : State) : List Byte :=
  (allCircuits.flatMap fun c => wCircuit s.now (s.clamped c) (s.circuit c)) ++ wPlanOr s.lights.plan ++
    wFlag s.fallbackApplies ++ s.sunToday SolarPoint.sunrise ++ s.sunToday SolarPoint.sunset ++ le 1 s.ringing ++
    wList wTimelineStep s.lights.timeline

/-- GET-LOAD (R168). -/
def dataLoad (s : State) : List Byte :=
  le 2 s.load.capacity ++ le 2 s.load.reserve ++ le 2 s.load.wait ++ le 2 s.committed ++ le 2 s.free ++
    (allCircuits.flatMap fun c => le 2 (s.reservation c)) ++ (allBells.flatMap fun b => le 2 (s.swingLoad b)) ++
    wList (wLoadEntry s.now) s.load.queue

/-- GET-SOLAR (R156). -/
def dataSolar (s : State) : List Byte := s.lights.solar.rows.flatMap fun p => le 2 p.sunrise ++ le 2 p.sunset

/-- GET-PLAN of a plan (R158). -/
def dataPlan (s : State) (n : PlanNo) : List Byte := wList wStep (s.lights.plans.get n)

/-! ## Links and the store -/

/-- GET-LINK (R177). -/
def dataLink (s : State) : List Byte :=
  [Port.v, .c, .s].flatMap fun p => wLinkCounters (s.port p).counters

/-- GET-DONE, for the port that sends it: the last completion or NONE, and whether a request is outstanding (R173). -/
def dataDone (s : State) (p : Port) : List Byte :=
  wOr 13 wCompletion (s.port p).completion ++ wFlag (s.port p).outstanding.isSome

/-- The three rights sets (R174). -/
def rightsBytes (s : State) : List Byte := [Port.v, .c, .s].flatMap fun p => le 2 (s.port p).rights.toNat

/-- GET-RIGHTS (R174). -/
def dataRights (s : State) : List Byte := s.rightsBytes ++ le 1 s.link.locks.toNat

/-- GET-STORE (R178); the bytes of its operations and of the staging owner are the model's (notes/assumptions/51.md). -/
def dataStore (s : State) : List Byte :=
  s.store.directory.rows.flatMap wDirEntry ++
    wList wStoreOp ((s.store.executing.map Prod.fst).toList ++ s.store.queue) ++
    wOwner (s.store.staging.map Staging.owner) ++
    le 1 ((s.store.staging.map fun x => (x.notes.filter Option.isSome).length).getD 0)

end State

end Sys2Proof.Machine
end

