-- ==== Sys2Proof/Machine/Supply.lean ====
section
/-! DEFINITION. The commands of the supply and of the starts: COLD_START, WARM_START, RESET_INPUT, MAINS_FAIL, LOSS_OF_MAIN_SUPPLY. -/

namespace Sys2Proof.Machine

/-- COLD_START (R19, R63). -/
def execColdStart (s : State) : Host.Outcome State Fault Refusal := .next s.coldStarts

/-- WARM_START (R19, R63): mains-present is true again. -/
def execWarmStart (s : State) : Host.Outcome State Fault Refusal := .next s.warmStarts

/-- RESET_INPUT (R19, R38, R175). -/
def execResetInput (s : State) : Host.Outcome State Fault Refusal := .next s.resets

/-- MAINS_FAIL (R39, R63): it acts while the part works. -/
def execMainsFail (s : State) : Host.Outcome State Fault Refusal := .next (if s.power = .on then s.mainsFails else s)

/-- LOSS_OF_MAIN_SUPPLY (R39, R63): the supply is gone with no prior change of the mains-present input. -/
def execLossOfMainSupply (s : State) : Host.Outcome State Fault Refusal := .next s.supplyLost

end Sys2Proof.Machine
end

