-- ==== Sys2Proof/Machine/Scans.lean ====
section
/-! DEFINITION. The commands of the clock and of the scans: TICK_END, SENSOR_SCAN, CLAVIER_SCAN. -/

namespace Sys2Proof.Machine

/-- TICK_END (R1). -/
def execTickEnd (s : State) : Host.Outcome State Fault Refusal := .next s.tick.settle

/-- SENSOR_SCAN (R50): while mains is absent only the mains-present input is scanned, and without VDD nothing is (R63).
See notes/assumptions/5.md and notes/assumptions/6.md. -/
def execSensorScan (matrix : BitVec 96) (lockout mains : Bool) (s : State) : Host.Outcome State Fault Refusal :=
  .next (match s.power with
    | .on => s.scanWorking matrix lockout mains
    | .absent => s.scanMains mains
    | .off => s)

/-- CLAVIER_SCAN (R122): the scanner runs while mains is present. -/
def execClavierScan (keys : BitVec 32) (pedal : Bool) (s : State) : Host.Outcome State Fault Refusal :=
  .next (if s.power = .on then (s.scanClavier keys pedal).settle else s)

end Sys2Proof.Machine
end

