-- ==== Sys2Proof/Machine/Timers.lean ====
section
/-! DEFINITION. The commands of the timers of the hammers, the dials, the strikes and the claims. -/

namespace Sys2Proof.Machine

namespace State

/-- The pulse of slot `k` ends: the line is released, a park that waited for it begins, and the slot is offered to the queue
(R55, R89, R94). -/
def pulseEnds (k : HammerSlot) (s : State) : State :=
  match s.engine.slots.get k with
  | some x =>
    if x.ends ≤ s.now then
      ((s.modEngine fun g => { g with slots := g.slots.set k none }).pulseEnded x.bell).arbitrate
    else s
  | none => s

/-- The first entry of the queue that has reached F + 9 is dropped LATE (R95). See notes/assumptions/28.md. -/
def lateDrops (s : State) : State :=
  match s.engine.queue.find? fun e => decide (e.fire + 9 ≤ s.now) with
  | some e => s.dropEntry e .late
  | none => s

end State

/-- PARK_TIMER_EXPIRY (R56, R58, R59). -/
def execParkTimerExpiry (bell : Nat) (s : State) : Host.Outcome State Fault Refusal :=
  .next (match bellOf? bell with
    | some b => (s.parkTimerExpires b).settle
    | none => s)

/-- DIAL_CATCH_UP (R37). -/
def execDialCatchUp (train : Nat) (s : State) : Host.Outcome State Fault Refusal :=
  .next (match trainOf? train with
    | some n => s.dialCatchesUp n
    | none => s)

/-- IMPULSE_END (R38). -/
def execImpulseEnd (train : Nat) (s : State) : Host.Outcome State Fault Refusal :=
  .next (match trainOf? train with
    | some n => s.dialImpulseEnds n
    | none => s)

/-- ENTRY_DUE (R89). -/
def execEntryDue (s : State) : Host.Outcome State Fault Refusal := .next s.arbitrate.settle

/-- WAIT_RECOVERY_MET (R89, R92). -/
def execWaitRecoveryMet (s : State) : Host.Outcome State Fault Refusal := .next s.arbitrate.settle

/-- PULSE_END (R94). -/
def execPulseEnd (slot : Nat) (s : State) : Host.Outcome State Fault Refusal :=
  .next (match hammerSlotOf? slot with
    | some k => (s.pulseEnds k).settle
    | none => s)

/-- LATE_DROP (R95). -/
def execLateDrop (s : State) : Host.Outcome State Fault Refusal := .next s.lateDrops

/-- CLAIM_LAPSE (R75). -/
def execClaimLapse (bell : Nat) (s : State) : Host.Outcome State Fault Refusal :=
  .next (match bellOf? bell with
    | some b => (s.claimLapses b).settle
    | none => s)

/-- NOTE_HAND_OVER (R103). -/
def execNoteHandOver (run : RunKind) (s : State) : Host.Outcome State Fault Refusal := .next (s.handOverNext run).settle

/-- DEFER_TEST (R110). -/
def execDeferTest (s : State) : Host.Outcome State Fault Refusal := .next s.deferTests.settle

/-- DEFER_EXPIRED (R110). -/
def execDeferExpired (s : State) : Host.Outcome State Fault Refusal := .next s.deferExpires

/-- TOLL_INSTANT (R116). -/
def execTollInstant (port : Port) (s : State) : Host.Outcome State Fault Refusal := .next (s.tollStrikes port).settle

end Sys2Proof.Machine
end

