-- ==== Sys2Proof/Machine/SwingTimers.lean ====
section
/-! DEFINITION. The commands of the timers of the swing, the slot runs, the ramps and the load queue. -/

namespace Sys2Proof.Machine

namespace State

/-- The timer of bell `b`'s swing record has been reached. -/
def timerReached (s : State) (b : Bell) : Bool := (s.swingRec b).timer.any (· ≤ s.now)

/-- The edges of a STARTING bell carry it into RINGING: two or more, the last within the pulse timeout before the start end
(R137). -/
def swungUp (s : State) (b : Bell) : Bool :=
  let r := s.swingRec b
  2 ≤ r.edges &&
    match r.lastPulse, r.timer with
    | some p, some t => t < p + (s.config b).pulseTimeout * Config.second
    | _, _ => false

/-- The start time of a STARTING bell ends (R137). -/
def startEnds (b : Bell) (s : State) : State :=
  if s.swingState b = .starting ∧ s.timerReached b then
    if s.swungUp b then s.toRinging b else s.swingFaults b .stall
  else s

/-- The pulse deadline of a RINGING bell passes (R138). -/
def pulseMissed (b : Bell) (s : State) : State :=
  if s.swingState b = .ringing ∧ s.timerReached b then s.swingFaults b .stall else s

/-- A RINGING bell reaches its duration end (R138). -/
def durationEnds (b : Bell) (s : State) : State :=
  if s.swingState b = .ringing ∧ (s.swingRec b).durationEnd.any (· ≤ s.now) then s.toStopping b (some .duration) false
  else s

/-- A STOPPING bell reaches its last swing pulse plus 512 ticks (R140). -/
def quietReached (b : Bell) (s : State) : State := s.testRest b

/-- A STOPPING bell reaches its stop deadline (R140). -/
def stopTimesOut (b : Bell) (s : State) : State :=
  if s.swingState b = .stopping ∧ s.timerReached b then s.swingFaults b .stopTimeout else s

/-- A SETTLING bell reaches its settle end (R141). -/
def settleEnds (b : Bell) (s : State) : State :=
  if s.swingState b = .settling ∧ s.timerReached b then s.toIdle b none false else s

/-- The stagger of the first slot run that has reached it ends (R146). See notes/assumptions/28.md. -/
def staggerEnds (s : State) : State :=
  match s.swing.runs.find? fun r => r.nextAt.any fun t => decide (t ≤ s.now) with
  | some r => s.slotNext r.id
  | none => s

/-- The first slot run that has reached its end ends (R147). See notes/assumptions/28.md. -/
def slotEnds (s : State) : State :=
  match s.swing.runs.find? fun r => decide (r.ends ≤ s.now) with
  | some r => s.slotRunEnds r
  | none => s

/-- The next move of a circuit's ramp is reached (R155). -/
def rampMoves (c : Circuit) (s : State) : State :=
  if (s.circuit c).ramp.any fun p => decide (p.next ≤ s.now) then
    s.watchReservation c fun s => s.modCircuit c CircuitRec.move
  else s

/-- The load queue's entry of bell `b` reaches its expiry (R166). -/
def loadWaitExpires (b : Bell) (s : State) : State :=
  match s.load.queue.find? fun e => e.bell == b with
  | some e => if e.expiry ≤ s.now then (s.giveUp b .loadTimeout).raiseFor .load e.requester else s
  | none => s

end State

/-- START_END (R137). -/
def execStartEnd (bell : Nat) (s : State) : Host.Outcome State Fault Refusal :=
  .next (match bellOf? bell with
    | some b => (s.startEnds b).settle
    | none => s)

/-- PULSE_DEADLINE (R138). -/
def execPulseDeadline (bell : Nat) (s : State) : Host.Outcome State Fault Refusal :=
  .next (match bellOf? bell with
    | some b => (s.pulseMissed b).settle
    | none => s)

/-- DURATION_END (R138). -/
def execDurationEnd (bell : Nat) (s : State) : Host.Outcome State Fault Refusal :=
  .next (match bellOf? bell with
    | some b => (s.durationEnds b).settle
    | none => s)

/-- QUIET_REACHED (R140). -/
def execQuietReached (bell : Nat) (s : State) : Host.Outcome State Fault Refusal :=
  .next (match bellOf? bell with
    | some b => (s.quietReached b).settle
    | none => s)

/-- STOP_DEADLINE (R140). -/
def execStopDeadline (bell : Nat) (s : State) : Host.Outcome State Fault Refusal :=
  .next (match bellOf? bell with
    | some b => (s.stopTimesOut b).settle
    | none => s)

/-- SETTLE_END (R141). -/
def execSettleEnd (bell : Nat) (s : State) : Host.Outcome State Fault Refusal :=
  .next (match bellOf? bell with
    | some b => (s.settleEnds b).settle
    | none => s)

/-- STAGGER_END (R146). -/
def execStaggerEnd (s : State) : Host.Outcome State Fault Refusal := .next s.staggerEnds.settle

/-- SLOT_END (R147). -/
def execSlotEnd (s : State) : Host.Outcome State Fault Refusal := .next s.slotEnds.settle

/-- RAMP_MOVE (R155). -/
def execRampMove (circuit : Nat) (s : State) : Host.Outcome State Fault Refusal :=
  .next (match circuitOf? circuit with
    | some c => (s.rampMoves c).settle
    | none => s)

/-- LOAD_WAIT_EXPIRY (R166). -/
def execLoadWaitExpiry (bell : Nat) (s : State) : Host.Outcome State Fault Refusal :=
  .next (match bellOf? bell with
    | some b => (s.loadWaitExpires b).settle
    | none => s)

end Sys2Proof.Machine
end

