-- ==== Sys2Proof/Machine/LinkFamily.lean ====
section
/-! DEFINITION. The commands of the links: receiving, responses, pages, parts, notices, rights, locks and RESTART. -/

namespace Sys2Proof.Machine

namespace State

/-- READ-NOTICES: the whole set is returned and removed (R176). -/
def ownReadNotices (p : Port) (s : State) : Answer :=
  (s.modPort p fun r => { r with notices := 0 }).ok (le 2 (s.port p).notices.toNat)

/-- SET-MASK (R176). -/
def ownSetMask (p : Port) (m : BitVec 14) (s : State) : Answer := (s.modPort p fun r => { r with mask := m }).ok []

/-- SET-RIGHTS (R174). The new rights stand from the taking on, on the other ports too (notes/assumptions/62.md). -/
def ownSetRights (x : PerPort (BitVec 10)) (s : State) : Answer :=
  (((s.modPort .v fun r => { r with rights := x.v }).modPort .c fun r => { r with rights := x.c }).modPort .s
    fun r => { r with rights := x.s }).ok []

/-- LOCK: sections are added, and the set after it is answered (R175). -/
def ownLock (x : BitVec 6) (s : State) : Answer :=
  let s := s.modLink fun l => { l with locks := l.locks ||| x }
  s.ok (le 1 s.link.locks.toNat)

/-- RESTART: the warm start begins when this response has been sent (R177). -/
def ownRestart (p : Port) (s : State) : Answer := (s.modPort p fun r => { r with restart := true }).ok []

/-- The responses being sent in `old` go on being sent over the start that made `s`, one of a RESTART with its restart still to
come: the requests that they answer were taken before it (R177, notes/assumptions/63.md). -/
def keepSending (old s : State) : State :=
  [Port.v, .c, .s].foldl (fun s p => s.modPort p fun r =>
    { r with response := (old.port p).response, restart := (old.port p).restart }) s

/-- The last byte of a response has gone: it is counted, and after RESTART's the warm start begins (R171, R177). -/
def responseGone (p : Port) (s : State) : State :=
  match (s.port p).response with
  | some _ =>
    let restart := (s.port p).restart
    let s := s.modPort p fun r =>
      { r with response := none, restart := false, counters := { r.counters with sent := bump r.counters.sent } }
    if restart then keepSending s (s.start false) else s
  | none => s

end State

/-- BYTE_RECEIVED (R170). -/
def execByteReceived (port : Port) (byte : Byte) (stopBit : Bool) (s : State) : Host.Outcome State Fault Refusal :=
  .next (if s.power = .on then s.byteArrives port byte stopBit else s)

/-- GAP_DISCARD (R170). -/
def execGapDiscard (port : Port) (s : State) : Host.Outcome State Fault Refusal := .next (s.gap port)

/-- RESPONSE_SENT (R171). -/
def execResponseSent (port : Port) (s : State) : Host.Outcome State Fault Refusal := .next (s.responseGone port)

/-- UNKNOWN_REQUEST (R171): a code that is not a request code. -/
def execUnknownRequest (port : Port) (code : Byte) (params : List Byte) (s : State) : Host.Outcome State Fault Refusal :=
  .next (if (requestRow? code.toNat).isNone then s.request port code params (State.ok []) else s)

/-- REQUEST_PART (R172): a part of SET-PLAN or SET-SOLAR other than the last. -/
def execRequestPart (port : Port) (code : Byte) (params : List Byte) (s : State) : Host.Outcome State Fault Refusal :=
  .next (if (code = 0x61 ∨ code = 0x63) ∧ State.partNumber params 0 < State.partNumber params 1 then
      s.part port code params fun _ => State.ok []
    else s)

/-- READ_PAGE (R172): a page above 0 of a read. -/
def execReadPage (port : Port) (code : Byte) (params : List Byte) (s : State) : Host.Outcome State Fault Refusal :=
  .next (if (requestRow? code.toNat).any (fun r => r.read && r.fits params) ∧ State.readPage params ≠ 0 then
      s.read port code params (fun _ => none) id
    else s)

/-- READ_NOTICES (R176). -/
def execReadNotices (port : Port) (params : List Byte) (s : State) : Host.Outcome State Fault Refusal :=
  .next (s.request port 0x01 params (State.ownReadNotices port))

/-- SET_MASK (R176). -/
def execSetMask (port : Port) (params : List Byte) (s : State) : Host.Outcome State Fault Refusal :=
  .next (s.request port 0x02 params (State.parsed rMask params (State.ownSetMask port)))

/-- GET_LINK (R177). -/
def execGetLink (port : Port) (params : List Byte) (s : State) : Host.Outcome State Fault Refusal :=
  .next (s.read port 0x03 params (fun s => some s.dataLink) id)

/-- GET_DONE (R173). -/
def execGetDone (port : Port) (params : List Byte) (s : State) : Host.Outcome State Fault Refusal :=
  .next (s.read port 0x04 params (fun s => some (s.dataDone port)) id)

/-- SET_RIGHTS (R174). -/
def execSetRights (port : Port) (params : List Byte) (s : State) : Host.Outcome State Fault Refusal :=
  .next (s.request port 0x05 params (State.parsed rSetRights params State.ownSetRights))

/-- GET_RIGHTS (R174). -/
def execGetRights (port : Port) (params : List Byte) (s : State) : Host.Outcome State Fault Refusal :=
  .next (s.read port 0x06 params (fun s => some s.dataRights) id)

/-- LOCK (R175). -/
def execLock (port : Port) (params : List Byte) (s : State) : Host.Outcome State Fault Refusal :=
  .next (s.request port 0x07 params (State.parsed rLock params State.ownLock))

/-- RESTART (R177). -/
def execRestart (port : Port) (params : List Byte) (s : State) : Host.Outcome State Fault Refusal :=
  .next (s.request port 0x08 params (State.ownRestart port))

end Sys2Proof.Machine
end

