-- ==== Sys2Proof/Machine/TimeFamily.lean ====
section
/-! DEFINITION. The requests of the timekeeper: SET-TIME, GET-TIME, SET-DST, GET-DST, SET-TICK. -/

namespace Sys2Proof.Machine

namespace State

/-- Δ as SET-TIME answers it, limited to 32 bits less its most negative value (R4). -/
def limitDelta (d : Int) : Int := max (-2147483647) (min 2147483647 d)

/-- SET-TIME: a slew or a step (R4 to R6). -/
def ownSetTime (c : Counters) (s : State) : Answer :=
  let delta := s.correction c
  if s.slews delta then
    (s.modTk fun t => { t with slew := delta * 128 }).ok (wName 0 ++ leInt 4 (limitDelta delta))
  else (s.stepTime c).settle.ok (wName 1 ++ leInt 4 (limitDelta delta))

/-- SET-DST: the rule is written and the flag evaluated (R8, R10). -/
def ownSetDst (r : DstRule) (s : State) : Answer :=
  (s.modTk fun t => { t with dstRule := r }).evaluateDst.settle.ok []

/-- SET-TICK (R18). -/
def ownSetTick (p : Port) (x : Tap) (s : State) : Answer := (s.modTk fun t => { t with taps := t.taps.set p x }).ok []

end State

/-- SET_TIME (R4). -/
def execSetTime (port : Port) (params : List Byte) (s : State) : Host.Outcome State Fault Refusal :=
  .next (s.request port 0x10 params (State.parsed rSetTime params State.ownSetTime))

/-- GET_TIME (R7). -/
def execGetTime (port : Port) (params : List Byte) (s : State) : Host.Outcome State Fault Refusal :=
  .next (s.read port 0x11 params (fun s => some s.dataTime) id)

/-- SET_DST (R8). -/
def execSetDst (port : Port) (params : List Byte) (s : State) : Host.Outcome State Fault Refusal :=
  .next (s.request port 0x12 params (State.parsed rSetDst params State.ownSetDst))

/-- GET_DST (R8). -/
def execGetDst (port : Port) (params : List Byte) (s : State) : Host.Outcome State Fault Refusal :=
  .next (s.read port 0x13 params (fun s => some s.dataDst) id)

/-- SET_TICK (R18). -/
def execSetTick (port : Port) (params : List Byte) (s : State) : Host.Outcome State Fault Refusal :=
  .next (s.request port 0x14 params (State.parsed rSetTick params (State.ownSetTick port)))

end Sys2Proof.Machine
end

