-- ==== Sys2Proof/Machine/CalendarFamily.lean ====
section
/-! DEFINITION. The requests of the calendar. -/

namespace Sys2Proof.Machine

namespace State

/-- The end of an edit of the calendar: the choice is run again and answered, with a flag saying whether it changed
(R27). -/
def edited (s : State) : Answer :=
  let changed := s.choiceDiffers
  let s := s.rerunChoice.settle
  s.ok (wChoice (s.cal.day.map fun d => (d.program, d.winner)) ++ wFlag changed)

/-- SET-YEAR-REF (R20). -/
def ownSetYearRef (d : Date) (s : State) : Answer := (s.modCal fun c => { c with yearRefs := addRef d c.yearRefs }).edited

/-- CLEAR-YEAR-REF (R20). See notes/assumptions/39.md. -/
def ownClearYearRef (y : Nat) (s : State) : Answer :=
  if s.cal.yearRefs.any fun d => d.year == y then
    (s.modCal fun c => { c with yearRefs := c.yearRefs.filter fun d => d.year != y }).edited
  else s.refuse .notSet

/-- SET-ENTRY (R21). -/
def ownSetEntry (x : EntrySlot × Option Entry) (s : State) : Answer :=
  (s.modCal fun c => { c with entries := c.entries.set x.1 x.2 }).edited

/-- SET-PROGRAM: a record in force is handed over at once with the cause RECORD (R28, R30). -/
def ownSetProgram (x : ProgramNo × Program) (s : State) : Answer :=
  let inForce := s.cal.day.any fun d => d.program == x.1
  let s := s.modCal fun c => { c with programs := c.programs.set x.1 x.2 }
  (if inForce then (s.handOver none false).settle else s).ok (wFlag inForce)

end State

/-- SET_YEAR_REF (R20). -/
def execSetYearRef (port : Port) (params : List Byte) (s : State) : Host.Outcome State Fault Refusal :=
  .next (s.request port 0x18 params (State.parsed rDate params State.ownSetYearRef))

/-- CLEAR_YEAR_REF (R20). -/
def execClearYearRef (port : Port) (params : List Byte) (s : State) : Host.Outcome State Fault Refusal :=
  .next (s.request port 0x19 params (State.parsed rYear params State.ownClearYearRef))

/-- SET_ENTRY (R21). -/
def execSetEntry (port : Port) (params : List Byte) (s : State) : Host.Outcome State Fault Refusal :=
  .next (s.request port 0x1A params (State.parsed rSetEntry params State.ownSetEntry))

/-- SET_PROGRAM (R28). -/
def execSetProgram (port : Port) (params : List Byte) (s : State) : Host.Outcome State Fault Refusal :=
  .next (s.request port 0x1B params (State.parsed rSetProgram params State.ownSetProgram))

/-- GET_YEAR_REF (R31). -/
def execGetYearRef (port : Port) (params : List Byte) (s : State) : Host.Outcome State Fault Refusal :=
  .next (s.read port 0x1C params (fun s => some s.dataYearRef) id)

/-- GET_ENTRY (R31). -/
def execGetEntry (port : Port) (params : List Byte) (s : State) : Host.Outcome State Fault Refusal :=
  .next (s.read port 0x1D params (fun s => (readAll (rFin 1 48) (State.readArgs params)).map s.dataEntry) id)

/-- GET_ENTRY_MAP (R31). -/
def execGetEntryMap (port : Port) (params : List Byte) (s : State) : Host.Outcome State Fault Refusal :=
  .next (s.read port 0x1E params (fun s => some s.dataEntryMap) id)

/-- GET_PROGRAM (R31). -/
def execGetProgram (port : Port) (params : List Byte) (s : State) : Host.Outcome State Fault Refusal :=
  .next (s.read port 0x1F params (fun s => (readAll (rFin 1 16) (State.readArgs params)).map fun n => wProgram (s.cal.programs.get n)) id)

/-- GET_DAY (R25). -/
def execGetDay (port : Port) (params : List Byte) (s : State) : Host.Outcome State Fault Refusal :=
  .next (s.read port 0x20 params (fun s => some s.dataDay) id)

/-- CALENDAR_QUERY (R31). -/
def execCalendarQuery (port : Port) (params : List Byte) (s : State) : Host.Outcome State Fault Refusal :=
  .next (s.read port 0x21 params (fun s => (readAll rDate (State.readArgs params)).map s.dataQuery) id)

end Sys2Proof.Machine
end

