-- ==== Sys2Proof/Machine/DialFamily.lean ====
section
/-! DEFINITION. The requests of the dial driver. -/

namespace Sys2Proof.Machine

namespace State

/-- SET-DIAL-CONFIG: a change of the fitted flag puts the train in UNSET; otherwise a running train is evaluated (R33). -/
def ownSetDialConfig (x : Train × DialConfig) (s : State) : Answer :=
  let d := s.dial x.1
  let configure (d : Dial) : Dial :=
    { d with fitted := x.2.fitted, width := x.2.width, period := x.2.period, hold := x.2.hold }
  if x.2.fitted ≠ d.fitted then
    if d.impulse.isSome then s.refuse .busy
    else
      (s.changeDial x.1 fun d =>
        { configure d with
          mode := .unset, state := .unset, uncertain := false, lag := none, demanded := false
          catchUpDue := false }).ok []
  else ((s.modDial x.1 configure).evaluateDial x.1).ok []

/-- SET-DIAL: the hands of an UNSET or STOPPED train have been set (R42). -/
def ownSetDial (x : Train × Nat × Option Polarity) (s : State) : Answer :=
  let (n, position, polarity) := x
  let d := s.dial n
  if !d.fitted then s.refuse .unavailable
  else if d.mode = .running ∨ d.impulse.isSome then s.refuse .busy
  else
    let s := s.modDial n fun d =>
      { d with position := position, lastPolarity := polarity.getD d.lastPolarity, uncertain := false }
    let s := if d.mode = .unset then
        ((s.modDial n fun d => { d with mode := .running }).evaluateDial n).raiseAll .dial
      else s
    s.ok (wName (s.dial n).state.ctorIdx)

/-- DIAL-STOP (R43). -/
def ownDialStop (n : Train) (s : State) : Answer :=
  if !(s.dial n).fitted then s.refuse .unavailable
  else
    let s := if (s.dial n).mode = .running then
        s.changeDial n fun d =>
          { d with mode := .stopped, state := .stopped, lag := none, demanded := false, catchUpDue := false }
      else s
    s.ok (wName (s.dial n).state.ctorIdx ++ le 2 (s.dial n).position)

/-- DIAL-RELEASE (R44). -/
def ownDialRelease (n : Train) (s : State) : Answer :=
  if !(s.dial n).fitted then s.refuse .unavailable
  else if (s.dial n).mode = .unset then s.refuse .notSet
  else
    let s := if (s.dial n).mode = .stopped then
        ((s.modDial n fun d => { d with mode := .running }).evaluateDial n).raiseAll .dial
      else s.evaluateDial n
    s.ok (wName (s.dial n).state.ctorIdx ++ wLag (s.dial n))

end State

/-- SET_DIAL_CONFIG (R33). -/
def execSetDialConfig (port : Port) (params : List Byte) (s : State) : Host.Outcome State Fault Refusal :=
  .next (s.request port 0x28 params (State.parsed rSetDialConfig params State.ownSetDialConfig))

/-- SET_DIAL (R42). -/
def execSetDial (port : Port) (params : List Byte) (s : State) : Host.Outcome State Fault Refusal :=
  .next (s.request port 0x29 params (State.parsed rSetDial params State.ownSetDial))

/-- DIAL_STOP (R43). -/
def execDialStop (port : Port) (params : List Byte) (s : State) : Host.Outcome State Fault Refusal :=
  .next (s.request port 0x2A params (State.parsed (rFin1 4) params State.ownDialStop))

/-- DIAL_RELEASE (R44). -/
def execDialRelease (port : Port) (params : List Byte) (s : State) : Host.Outcome State Fault Refusal :=
  .next (s.request port 0x2B params (State.parsed (rFin1 4) params State.ownDialRelease))

/-- GET_DIALS (R45). -/
def execGetDials (port : Port) (params : List Byte) (s : State) : Host.Outcome State Fault Refusal :=
  .next (s.read port 0x2C params (fun s => some s.dataDials) id)

end Sys2Proof.Machine
end

