-- ==== Sys2Proof/Machine/BellFamily.lean ====
section
/-! DEFINITION. The requests of the bell table, and the part SWING of CLEAR-FAULT. -/

namespace Sys2Proof.Machine

namespace State

/-- Whether a SET-BELL is refused BUSY (R47). -/
def bellBusy (s : State) (b : Bell) (c : BellConfig) : Bool :=
  let r := s.bell b
  let old := r.config
  let moving := r.hammer == some .parking || r.hammer == some .unparking
  s.swingState b != .idle ||
    (c.hammer != old.hammer && (moving || s.pulsing b)) ||
    ((c.lead != old.lead || c.recovery != old.recovery || c.widths != old.widths) &&
      (s.pulsing b || s.engine.queue.any fun e => e.bell == b))

/-- The hammer is unfitted: ABSENT, its cause cleared, its entries purged (R48). -/
def unfitHammer (b : Bell) (s : State) : State :=
  ((s.setHammer b .absent none false).modBell b fun r => { r with cause := none }).purge (fun e => e.bell == b) .interlock

/-- The hammer is fitted: it enters the park machinery as if it had just been found (R48). -/
def fitHammer (b : Bell) (s : State) : State := if s.demanded b then s.enterParking b else s.enterUnparking b false

/-- SET-BELL (R46 to R48). -/
def ownSetBell (x : Bell × BellConfig) (s : State) : Answer :=
  let (b, c) := x
  if s.bellBusy b c then s.refuse .busy
  else
    let was := (s.config b).hammer
    let s := s.modBell b fun r => { r with config := c }
    let s := if was && !c.hammer then s.unfitHammer b else if !was && c.hammer then s.fitHammer b else s
    let s := s.settle
    s.ok (wHammer (s.bell b).hammer)

/-- The change latches are cleared, as a GET-SENSORS with TAKE does (R53). -/
def takeLatches (s : State) : State :=
  let clear (x : Sensor) : Sensor := { x with latch := false }
  s.modBells fun t => { t with bells := t.bells.map fun r =>
    { r with sw := clear r.sw, rest := clear r.rest, home := clear r.home, park := clear r.park } }

/-- CLEAR-FAULT of bell `b`'s hammer, according to its demands and sensors (R60); the answer gives the state after the event
(notes/assumptions/52.md). -/
def clearHammer (b : Bell) (s : State) : Answer :=
  let r := s.bell b
  let park := r.park.state == some true
  let home := r.home.state == some true
  let answer (t : State) : Answer :=
    let t := t.settle
    t.ok (wHammer (t.bell b).hammer)
  let cleared := s.modBell b fun r => { r with cause := none }
  if r.hammer ≠ some .fault then s.refuse .notSet
  else if park && home then s.refuse .unavailable
  else if park then answer (cleared.enterParked b false)
  else if s.demanded b then answer (cleared.enterParking b)
  else if home then answer (cleared.setHammer b .ready none false)
  else s.refuse .unavailable

/-- CLEAR-FAULT of bell `b`'s swing (R143). -/
def clearSwing (b : Bell) (s : State) : Answer :=
  if s.swingState b ≠ .fault then s.refuse .notSet
  else if !s.atRest b then s.refuse .unavailable
  else ((s.modSwingRec b fun r => { r with fault := none }).toSettling b false).settle.ok []

/-- The owner's checks of CLEAR-FAULT: the right that its part needs, then the bell number (R60, R143, R171). -/
def ownClearFault (p : Port) (part : Nat) (right : Right) (params : List Byte) (clear : Bell → State → Answer)
    (s : State) : Answer :=
  if (params.getD 1 0).toNat ≠ part then s.refuse .badValue
  else if !s.holds p right then s.refuse .noRight
  else match bellOf? (params.getD 0 0).toNat with
    | some b => clear b s
    | none => s.refuse .badValue

end State

/-- SET_BELL (R46). -/
def execSetBell (port : Port) (params : List Byte) (s : State) : Host.Outcome State Fault Refusal :=
  .next (s.request port 0x30 params (State.parsed rSetBell params State.ownSetBell))

/-- GET_BELL_CONFIG (R49). -/
def execGetBellConfig (port : Port) (params : List Byte) (s : State) : Host.Outcome State Fault Refusal :=
  .next (s.read port 0x31 params (fun s => (readAll rBell (State.readArgs params)).map fun b => wBellConfig (s.config b)) id)

/-- GET_BELLS (R49). -/
def execGetBells (port : Port) (params : List Byte) (s : State) : Host.Outcome State Fault Refusal :=
  .next (s.read port 0x32 params (fun s => some s.dataBells) id)

/-- GET_SENSORS (R53). -/
def execGetSensors (port : Port) (params : List Byte) (s : State) : Host.Outcome State Fault Refusal :=
  .next (s.read port 0x33 params (fun s => (readAll rFlag (State.readArgs params)).map fun _ => s.dataSensors) (if params.getD 0 0 = 1 then State.takeLatches else id))

/-- CLEAR_FAULT_HAMMER (R60): CLEAR-FAULT with any part but SWING. See notes/assumptions/29.md. -/
def execClearFaultHammer (port : Port) (params : List Byte) (s : State) : Host.Outcome State Fault Refusal :=
  .next (if params.getD 1 0 = 1 then s
    else s.request port 0x34 params (State.ownClearFault port 0 .bells params State.clearHammer))

/-- CLEAR_FAULT_SWING (R143): CLEAR-FAULT with the part SWING. -/
def execClearFaultSwing (port : Port) (params : List Byte) (s : State) : Host.Outcome State Fault Refusal :=
  .next (if params.getD 1 0 = 1 then
      s.request port 0x34 params (State.ownClearFault port 1 .swing params State.clearSwing)
    else s)

end Sys2Proof.Machine
end

