-- ==== Sys2Proof/Machine/ClaimFamily.lean ====
section
/-! DEFINITION. The requests of the claims table. -/

namespace Sys2Proof.Machine

namespace State

/-- The bells of a set that port `p` holds. -/
def heldOf (s : State) (p : Port) (m : BellSet) : List Bell :=
  (bellsOf m).filter fun b => (s.claim b).any fun c => c.owner == p

/-- CLAIM: all or nothing (R69, R70). A set whose bells carry a code each is sent as a list of pairs
(notes/assumptions/51.md). -/
def ownClaim (p : Port) (x : BellSet × ClaimKind) (s : State) : Answer :=
  let bells := bellsOf x.1
  let refused := bells.filterMap fun b => (s.claimRefusal p x.2 b).map fun c => (b, c)
  if refused.isEmpty then
    let s := (bells.foldl (fun s b => s.takeClaim p x.2 b) s).settle
    s.ok (wList (fun b => wBell b ++ wName (((s.claim b).map fun c => c.kind.ctorIdx).getD 0)) (s.heldBy p))
  else ⟨s, .unavailable, wList (fun y : Bell × ClaimRefusal => wBell y.1 ++ wName y.2.ctorIdx) refused⟩

/-- A claim of port `p` on bell `b` can be renewed: it holds the bell, not releasing (R72). -/
def renewable (s : State) (p : Port) (b : Bell) : Bool := (s.claim b).any fun c => c.owner == p && !c.releasing

/-- RENEW (R72). -/
def ownRenew (p : Port) (m : BellSet) (s : State) : Answer :=
  let yes := (bellsOf m).filter fun b => s.renewable p b
  let no := (bellsOf m).filter fun b => !s.renewable p b
  let expiry := s.claimExpiry p
  let t := yes.foldl (fun s b => s.setClaim b ((s.claim b).map fun c => { c with expiry := some expiry })) s
  ⟨t, if yes.isEmpty then .notSet else .ok, wBells (bellSetOf yes) ++ wBells (bellSetOf no)⟩

/-- RELEASE (R74). -/
def ownRelease (p : Port) (m : BellSet) (s : State) : Answer :=
  let held := s.heldOf p m
  let t := (held.foldl (fun s b => s.giveUpClaim b) s).settle
  let ended := held.filter fun b => (t.claim b).isNone
  let releasing := held.filter fun b => (t.claim b).isSome
  let notHeld := (bellsOf m).filter fun b => !held.contains b
  ⟨t, if held.isEmpty then .notSet else .ok,
    wBells (bellSetOf ended) ++ wBells (bellSetOf releasing) ++ wBells (bellSetOf notHeld)⟩

/-- SET-CLAIM-HOLD, its minutes clamped (R71). -/
def ownSetClaimHold (p : Port) (n : Nat) (s : State) : Answer :=
  (s.modClaims fun t => { t with hold := t.hold.set p n }).ok (le 2 n)

end State

/-- CLAIM (R69). -/
def execClaim (port : Port) (params : List Byte) (s : State) : Host.Outcome State Fault Refusal :=
  .next (s.request port 0x38 params (State.parsed rClaim params (State.ownClaim port)))

/-- RENEW (R72). -/
def execRenew (port : Port) (params : List Byte) (s : State) : Host.Outcome State Fault Refusal :=
  .next (s.request port 0x39 params (State.parsed rBells params (State.ownRenew port)))

/-- RELEASE (R74). -/
def execRelease (port : Port) (params : List Byte) (s : State) : Host.Outcome State Fault Refusal :=
  .next (s.request port 0x3A params (State.parsed rBells params (State.ownRelease port)))

/-- SET_CLAIM_HOLD (R71). -/
def execSetClaimHold (port : Port) (params : List Byte) (s : State) : Host.Outcome State Fault Refusal :=
  .next (s.request port 0x3B params (State.parsed (rClamp 1 60) params (State.ownSetClaimHold port)))

/-- GET_CLAIMS (R77). -/
def execGetClaims (port : Port) (params : List Byte) (s : State) : Host.Outcome State Fault Refusal :=
  .next (s.read port 0x3C params (fun s => some (s.dataClaims port)) id)

end Sys2Proof.Machine
end

