-- ==== Sys2Proof/Machine/StrikeFamily.lean ====
section
/-! DEFINITION. The requests of the strike engine and of the chime players. -/

namespace Sys2Proof.Machine

namespace State

/-- SET-STRIKE-PRIORITY (R91). -/
def ownSetPriority (x : Priorities) (s : State) : Answer := (s.modEngine fun e => { e with priorities := x }).ok []

/-- The ticks in a day. -/
def dayTicks : Nat := 24 * 60 * Config.minute

/-- The ticks until a requested start: none for NOW, and for a time of day those until local time next reaches it (R111). -/
def ticksToStart (s : State) : Option Nat → Nat
  | none => 0
  | some t => (t * Config.second + dayTicks - s.localTime.tickOfDay) % dayTicks

/-- TUNE-PLAY (R111). -/
def ownTunePlay (p : Port) (x : PlayRequest) (s : State) : Answer :=
  if x.start.isSome && !s.tk.timeValid then s.refuse .notSet
  else if s.players.request.state ≠ .idle then s.refuse .busy
  else
    let wait := s.ticksToStart x.start
    let r : RequestRun :=
      { id := s.players.nextRun, owner := p, slot := x.slot, tempo := x.tempo, policy := x.policy, maxSlip := x.maxSlip
        start := s.now + wait, tune := none, slip := 0, next := 0, counts := .zero, queued := 0, stopPending := none, handAt := 0 }
    ((s.modPlayers fun y =>
      { y with request := { state := .fetching, run := some r, last := none }, nextRun := r.id + 1 }).enqueueStoreOp
        (.playFetch x.slot)).taken p 0x48 (le 4 wait ++ wOpt 2 x.tempo ++ le 2 x.maxSlip)

/-- TUNE-STOP (R114). -/
def ownTuneStop (s : State) : Answer :=
  match s.players.request.state with
  | .idle => s.refuse .notSet
  | .fetching => (s.stopRequest .stopped).ok []
  | .waiting | .playing => ((s.stopRequest .stopped).purge (fun e => e.source == .tune) .stopped).ok []

/-- TOLL-START (R115). -/
def ownTollStart (p : Port) (x : TollRequest) (s : State) : Answer :=
  let replaced := (s.players.tolls.get p).isSome
  let r : TollRun :=
    { id := s.players.nextRun, bell := x.bell, interval := x.interval * Config.second, cls := x.cls
      remaining := if x.count = 0 then none else some x.count, next := s.now, handed := 0, granted := 0, dropped := 0
      queued := 0 }
  ((s.modToll p fun _ => some r).modPlayers fun y => { y with nextRun := r.id + 1 }).ok (wFlag replaced)

/-- TOLL-STOP: the counts include the blows that the purge drops (R117). -/
def ownTollStop (p : Port) (s : State) : Answer :=
  match s.players.tolls.get p with
  | some r =>
    ((s.modToll p fun _ => none).purge (fun e => e.source == .toll && e.port == some p) .stopped).ok
      (le 4 r.handed ++ le 4 r.granted ++ le 4 (r.dropped + r.queued))
  | none => s.refuse .notSet

/-- The payload of STRIKE's answer, from its planning outcome (R118). -/
def strikeAnswer (now : Nat) : Planned → Status × List Byte
  | .queued onset fire slip _ => (.ok, wName 0 ++ le 4 (onset - now) ++ le 4 (fire - now) ++ le 1 slip)
  | .dropped r => (.unavailable, wReason r)

/-- STRIKE (R118). -/
def ownStrike (p : Port) (x : Bell × Nat) (s : State) : Answer :=
  let r := s.singleRequest p x.1 x.2
  let a := strikeAnswer s.now (s.planned r)
  ⟨(s.plan r).arbitrate.settle, a.1, a.2⟩

end State

/-- SET_STRIKE_PRIORITY (R91). -/
def execSetStrikePriority (port : Port) (params : List Byte) (s : State) : Host.Outcome State Fault Refusal :=
  .next (s.request port 0x40 params (State.parsed rPriorities params State.ownSetPriority))

/-- GET_STRIKES (R99). -/
def execGetStrikes (port : Port) (params : List Byte) (s : State) : Host.Outcome State Fault Refusal :=
  .next (s.read port 0x41 params (fun s => some s.dataStrikes) id)

/-- GET_COUNTERS (R98). -/
def execGetCounters (port : Port) (params : List Byte) (s : State) : Host.Outcome State Fault Refusal :=
  .next (s.read port 0x42 params (fun s => some s.dataCounters) id)

/-- TUNE_PLAY (R111). -/
def execTunePlay (port : Port) (params : List Byte) (s : State) : Host.Outcome State Fault Refusal :=
  .next (s.request port 0x48 params (State.parsed rTunePlay params (State.ownTunePlay port)))

/-- TUNE_STOP (R114). -/
def execTuneStop (port : Port) (params : List Byte) (s : State) : Host.Outcome State Fault Refusal :=
  .next (s.request port 0x49 params State.ownTuneStop)

/-- TOLL_START (R115). -/
def execTollStart (port : Port) (params : List Byte) (s : State) : Host.Outcome State Fault Refusal :=
  .next (s.request port 0x4A params (State.parsed rTollStart params (State.ownTollStart port)))

/-- TOLL_STOP (R117). -/
def execTollStop (port : Port) (params : List Byte) (s : State) : Host.Outcome State Fault Refusal :=
  .next (s.request port 0x4B params (State.ownTollStop port))

/-- STRIKE (R118). -/
def execStrike (port : Port) (params : List Byte) (s : State) : Host.Outcome State Fault Refusal :=
  .next (s.request port 0x4C params (State.parsed rStrike params (State.ownStrike port)))

/-- GET_PLAYERS (R120). -/
def execGetPlayers (port : Port) (params : List Byte) (s : State) : Host.Outcome State Fault Refusal :=
  .next (s.read port 0x4D params (fun s => some s.dataPlayers) id)

end Sys2Proof.Machine
end

