-- ==== Sys2Proof/Machine/ClavierFamily.lean ====
section
/-! DEFINITION. The requests of the clavier scanner. -/

namespace Sys2Proof.Machine

namespace State

/-- The code of a binding, as SET-CLAVIER carries it (R126, R182). -/
def bindingCode : Option Port → Nat
  | some p => p.ctorIdx
  | none => 3

/-- SET-CLAVIER is taken: all three settings at once, with KEYS on a newly bound port where the queue holds an entry
(R126). -/
def bindClavier (x : KeyMode × Nat × Option Port) (s : State) : Answer :=
  let (mode, cls, binding) := x
  let newly := binding != s.clavier.binding
  let s := (s.changeMode mode).modClavier fun c => { c with cls := cls, binding := binding }
  let s := match binding with
    | some p => if newly && !s.clavier.queue.isEmpty then s.raise .keys p else s
    | none => s
  s.ok (wName mode.ctorIdx ++ le 1 cls ++ wPortOr binding)

/-- SET-CLAVIER: the owner's checks of its right and of the ADMIN section, in the order of R171, and then its values
(R126, notes/assumptions/38.md). -/
def ownSetClavier (p : Port) (params : List Byte) (s : State) : Answer :=
  let rebinds := (params.getD 2 0).toNat ≠ bindingCode s.clavier.binding
  if !s.holds p .admin && (rebinds || !(s.clavier.binding == some p && s.holds p .strike)) then s.refuse .noRight
  else if rebinds && s.locked .admin then s.refuse .locked
  else parsed rSetClavier params bindClavier s

/-- READ-KEYS: the queue is returned and emptied, the overrun flag returned and cleared (R129). -/
def ownReadKeys (s : State) : Answer :=
  let c := s.clavier
  (s.modClavier fun c => { c with queue := [], overrun := false }).ok
    (wList wKeyEntry c.queue ++ wFlag c.overrun ++ wFlag c.queue.isEmpty)

end State

/-- SET_CLAVIER (R126). -/
def execSetClavier (port : Port) (params : List Byte) (s : State) : Host.Outcome State Fault Refusal :=
  .next (s.request port 0x50 params (State.ownSetClavier port params))

/-- READ_KEYS (R129). -/
def execReadKeys (port : Port) (params : List Byte) (s : State) : Host.Outcome State Fault Refusal :=
  .next (s.request port 0x51 params State.ownReadKeys)

/-- GET_CLAVIER (R131). -/
def execGetClavier (port : Port) (params : List Byte) (s : State) : Host.Outcome State Fault Refusal :=
  .next (s.read port 0x52 params (fun s => some s.dataClavier) id)

end Sys2Proof.Machine
end

