-- ==== Sys2Proof/Machine/SwingFamily.lean ====
section
/-! DEFINITION. The requests of the swing controller. -/

namespace Sys2Proof.Machine

namespace State

/-- Each bell of a list is started by port `p`, or refused with its code; the two lists are gathered (R134). -/
def startBells (p : Port) (minutes : Option Nat) :
    List Bell → State × List Bell × List (Bell × StartRefusal) → State × List Bell × List (Bell × StartRefusal)
  | [], x => x
  | b :: rest, (s, yes, no) =>
    match s.startRefusal b (some p) with
    | some code => startBells p minutes rest (s, yes, no ++ [(b, code)])
    | none => startBells p minutes rest (s.toParking b (.port p) minutes, yes ++ [b], no)

/-- SWING-START (R134). -/
def ownSwingStart (p : Port) (x : BellSet × Option Nat) (s : State) : Answer :=
  let (t, yes, no) := startBells p x.2 (bellsOf x.1) (s, [], [])
  ⟨t.settle, if yes.isEmpty && !no.isEmpty then .unavailable else .ok, wBells (bellSetOf yes) ++ wList wSkipped no⟩

/-- SWING-STOP (R139). -/
def ownSwingStop (m : BellSet) (s : State) : Answer :=
  let bells := bellsOf m
  let stopped := bells.filter fun b => s.swingState b == .starting || s.swingState b == .ringing
  let givenUp := bells.filter fun b => s.swingState b == .parking || s.swingState b == .waitLoad
  let left := bells.filter fun b => !stopped.contains b && !givenUp.contains b
  ⟨(bells.foldl (fun s b => s.bringDown b .stop) s).settle,
    if stopped.isEmpty && givenUp.isEmpty then .notSet else .ok,
    wBells (bellSetOf stopped) ++ wBells (bellSetOf givenUp) ++ wBells (bellSetOf left)⟩

end State

/-- SWING_START (R134). -/
def execSwingStart (port : Port) (params : List Byte) (s : State) : Host.Outcome State Fault Refusal :=
  .next (s.request port 0x58 params (State.parsed rSwingStart params (State.ownSwingStart port)))

/-- SWING_STOP (R139). -/
def execSwingStop (port : Port) (params : List Byte) (s : State) : Host.Outcome State Fault Refusal :=
  .next (s.request port 0x59 params (State.parsed rBells params State.ownSwingStop))

/-- GET_SWING (R149). -/
def execGetSwing (port : Port) (params : List Byte) (s : State) : Host.Outcome State Fault Refusal :=
  .next (s.read port 0x5A params (fun s => some s.dataSwing) id)

end Sys2Proof.Machine
end

