-- ==== Sys2Proof/Machine/LightFamily.lean ====
section
/-! DEFINITION. The requests of the lighting and load controllers. -/

namespace Sys2Proof.Machine

namespace State

/-- The committed load if circuit `c` had the weight `w` (R150). -/
def committedWith (s : State) (c : Circuit) (w : Nat) : Nat :=
  s.committed - s.reservation c + consumption w (max (s.circuit c).current (s.circuit c).granted)

/-- SET-CIRCUIT: the configuration part is replaced, unless its weight would not fit the budget (R150). -/
def ownSetCircuit (x : Circuit × CircuitConfig) (s : State) : Answer :=
  let (c, k) := x
  if s.load.capacity < s.committedWith c k.weight then s.refuse .badValue
  else
    ((s.watchReservation c fun s => s.modCircuit c fun r => { r with config := k }).rewant c 0 false).settle.ok []

/-- SET-PLAN, whole: the plan is replaced, and today's timeline built again if it is the plan in force (R158). -/
def ownSetPlan (x : PlanNo × List PlanStep) (s : State) : Answer :=
  let (n, steps) := x
  let s := s.modLights fun l => { l with plans := l.plans.set n steps }
  (if s.lights.plan = some n then (s.buildTimeline false).settle else s).ok (wList wStep steps)

/-- The granted level of each circuit of a mask (R163). -/
def grantedOf (s : State) (m : CircuitMask) : List Byte := wList (fun c => le 1 (s.circuit c).granted) (circuitsOf m)

/-- SET-LEVEL: the circuits of the mask take an override, or lose theirs, and are granted with the request's ramp (R163), in
ascending number (notes/assumptions/59.md). The answer has the levels after the re-evaluation that the grants start
(notes/assumptions/66.md). -/
def ownSetLevel (p : Port) (x : LevelRequest) (s : State) : Answer :=
  let override := x.level.map fun l => { level := l, ends := x.ends, ramp := x.ramp, port := p : Override }
  let s := (circuitsOf x.mask).foldl (fun s c =>
    (s.modCircuit c fun r => { r with override := override }).rewant c x.ramp false) s
  let s := s.settle
  s.ok (s.grantedOf x.mask)

/-- SET-SOLAR, whole: the table is replaced and today's timeline built again (R156, R159). -/
def ownSetSolar (x : Table 24 SolarPoint) (s : State) : Answer :=
  ((s.modLights fun l => { l with solar := x }).buildTimeline false).settle.ok []

/-- SET-LOAD, unless the load committed would not fit (R152). A re-evaluation starts where it raises C or lowers K (R167), and the
answer has the loads after it (notes/assumptions/66.md). -/
def ownSetLoad (x : Nat × Nat × Nat) (s : State) : Answer :=
  let (capacity, reserve, wait) := x
  if capacity < reserve + s.reservations + s.swingLoads then s.refuse .badValue
  else
    let t := s.modLoad fun l => { l with capacity := capacity, reserve := reserve, wait := wait }
    let t := if s.load.capacity < capacity ∨ reserve < s.load.reserve then t.signal .loadFell else t
    let t := t.settle
    t.ok (le 2 t.committed ++ le 2 t.free)

end State

/-- SET_CIRCUIT (R150). -/
def execSetCircuit (port : Port) (params : List Byte) (s : State) : Host.Outcome State Fault Refusal :=
  .next (s.request port 0x60 params (State.parsed rSetCircuit params State.ownSetCircuit))

/-- SET_PLAN (R158): the last part of the request, which makes it whole (R172). -/
def execSetPlan (port : Port) (params : List Byte) (s : State) : Host.Outcome State Fault Refusal :=
  .next (if State.partNumber params 0 < State.partNumber params 1 then s
    else s.part port 0x61 params fun l => State.parsed rSetPlan l State.ownSetPlan)

/-- SET_LEVEL (R163): SET-LEVEL with a level. See notes/assumptions/29.md. -/
def execSetLevel (port : Port) (params : List Byte) (s : State) : Host.Outcome State Fault Refusal :=
  .next (if params.getD 1 0 = 1 then s
    else s.request port 0x62 params (State.parsed rSetLevel params (State.ownSetLevel port)))

/-- SET_LEVEL_RELEASE (R163): SET-LEVEL with RELEASE in place of a level. -/
def execSetLevelRelease (port : Port) (params : List Byte) (s : State) : Host.Outcome State Fault Refusal :=
  .next (if params.getD 1 0 = 1 then
      s.request port 0x62 params (State.parsed rSetLevel params (State.ownSetLevel port))
    else s)

/-- SET_SOLAR (R156): the last part of the request, which makes it whole (R172). -/
def execSetSolar (port : Port) (params : List Byte) (s : State) : Host.Outcome State Fault Refusal :=
  .next (if State.partNumber params 0 < State.partNumber params 1 then s
    else s.part port 0x63 params fun l => State.parsed rSetSolar l State.ownSetSolar)

/-- SET_LOAD (R152). -/
def execSetLoad (port : Port) (params : List Byte) (s : State) : Host.Outcome State Fault Refusal :=
  .next (s.request port 0x64 params (State.parsed rSetLoad params State.ownSetLoad))

/-- GET_LIGHTS (R168). -/
def execGetLights (port : Port) (params : List Byte) (s : State) : Host.Outcome State Fault Refusal :=
  .next (s.read port 0x65 params (fun s => some s.dataLights) id)

/-- GET_LOAD (R168). -/
def execGetLoad (port : Port) (params : List Byte) (s : State) : Host.Outcome State Fault Refusal :=
  .next (s.read port 0x66 params (fun s => some s.dataLoad) id)

/-- GET_SOLAR (R156). -/
def execGetSolar (port : Port) (params : List Byte) (s : State) : Host.Outcome State Fault Refusal :=
  .next (s.read port 0x67 params (fun s => some s.dataSolar) id)

/-- GET_PLAN (R158). -/
def execGetPlan (port : Port) (params : List Byte) (s : State) : Host.Outcome State Fault Refusal :=
  .next (s.read port 0x68 params (fun s => (readAll (rFin 1 8) (State.readArgs params)).map s.dataPlan) id)

end Sys2Proof.Machine
end

