-- ==== Sys2Proof/Machine/StoreFamily.lean ====
section
/-! DEFINITION. The commands of the store controller: the ends of its operations, staging, and its requests. -/

namespace Sys2Proof.Machine

namespace State

/-- The directory entry of slot `t` takes a fetch's outcome; the mark of a commit that waits stays (R178, R179).
See notes/assumptions/10.md. -/
def setDirectory (t : TuneSlot) (e : DirEntry) (s : State) : State :=
  s.modStore fun x =>
    { x with directory := if x.directory.get t = .underCommit then x.directory else x.directory.set t e }

/-- How the read of a slot ends: `marked` for a slot that was UNDER-COMMIT, `failed` for the number of its first reads
that failed their check; the third failure ends the read, whatever the slot holds (R179, notes/assumptions/9.md). -/
def slotOutcome (s : State) (t : TuneSlot) (marked : Bool) (failed : Nat) : Except Status Tune × DirEntry :=
  if marked then (.error .storeFault, .underCommit)
  else if 3 ≤ failed then (.error .storeFault, .faulty)
  else match slotContent s.store.flash t with
    | .empty => (.error .notSet, .empty)
    | .bad => (.error .storeFault, .faulty)
    | .tune x => (.ok x, .present x.notes.length)

/-- The completion of TUNE-INFO (R181). -/
def infoPayload : Except Status Tune → Status × List Byte
  | .ok t => (.ok, le 1 t.notes.length ++ le 1 t.tempo ++ wName t.policy.ctorIdx ++ le 3 (tuneDuration t.notes t.tempo))
  | .error x => (x, [])

/-- The completion of TUNE-PLAY: note count, tempo and policy in use, duration, and playing start in ticks from now (R112). -/
def playPayload (r : RequestRun) (now : Nat) : Except Status Tune → Status × List Byte
  | .ok t =>
    let x := resolveRun r t now
    let tempo := x.tempo.getD t.tempo
    (.ok, le 1 t.notes.length ++ le 2 tempo ++ wName ((x.policy.getD t.policy).ctorIdx) ++
      le 3 (tuneDuration t.notes tempo) ++ wTicksTo now x.start)
  | .error x => (x, [])

/-- A read of the store ends, and its outcome goes to the block that asked (R102, R112, R181). -/
def readEnds (op : StoreOp) (result : Except Status Tune) (s : State) : State :=
  match op with
  | .clockFetch _ _ => s.clockFetchEnds result
  | .playFetch _ =>
    match s.players.request.run with
    | some r =>
      let a := playPayload r s.now result
      (s.complete r.owner 0x48 a.1 a.2).playFetched result
    | none => s
  | .info p _ =>
    let a := infoPayload result
    s.complete p 0x73 a.1 a.2
  | .commit _ _ => s

/-- A fetch or a TUNE-INFO read ends, and the next operation begins (R179). See notes/assumptions/9.md. -/
def storeOpEnds (failed : Nat) (s : State) : State :=
  match s.store.executing with
  | some (op, marked) =>
    if op.isCommit then s
    else
      let x := s.slotOutcome op.slot marked failed
      ((s.setDirectory op.slot x.2).readEnds op x.1).nextStoreOp
  | none => s

/-- The tune that the staging buffer holds. -/
def stagedTune (x : Staging) : Tune := ⟨x.tempo, x.policy, x.notes.filterMap id⟩

/-- A commit ends: the slot holds `left`, or the whole tune where that is `none`; read back, it matches or does not (R181).
See notes/assumptions/9.md and notes/assumptions/42.md. -/
def commitEnds (left : Option (List Byte)) (s : State) : State :=
  match s.store.executing, s.store.staging with
  | some (.commit p t, _), some x =>
    let image := tuneImage (stagedTune x)
    let held := left.getD image
    let good := padSlot held == padSlot image
    let s := s.modStore fun y =>
      { y with
        flash := slotProgram y.flash t held
        directory := y.directory.set t (if good then .present (stagedTune x).notes.length else .faulty)
        staging := none }
    let s := s.complete p 0x72 (if good then .ok else .storeFault) (if good then le 2 (tuneCrc (stagedTune x)).toNat else [])
    (s.slotWritten t).nextStoreOp
  | _, _ => s

/-- The abandon instant of the staging buffer is reached (R180). -/
def abandons (s : State) : State :=
  if s.store.staging.any fun x => x.abandon.any fun t => decide (t ≤ s.now) then
    s.modStore fun y => { y with staging := none }
  else s

/-- TUNE-BEGIN (R180). -/
def ownTuneBegin (p : Port) (x : Nat × Nat × Policy) (s : State) : Answer :=
  if s.store.staging.any fun y => y.owner != p || y.abandon.isNone then s.refuse .busy
  else
    let y : Staging :=
      { owner := p, tempo := x.2.1, policy := x.2.2, notes := List.replicate x.1 none
        abandon := some (s.now + Config.minute) }
    (s.modStore fun z => { z with staging := some y }).ok []

/-- The staging buffer of port `p`, while no commit holds it (R180, R181). See notes/assumptions/42.md. -/
def stagingOf (s : State) (p : Port) : Option Staging := s.store.staging.filter fun y => y.owner == p && y.abandon.isSome

/-- Notes written at an offset. -/
def writeNotes (l : List (Option Note)) (offset : Nat) (notes : List Note) : List (Option Note) :=
  l.take offset ++ notes.map some ++ l.drop (offset + notes.length)

/-- TUNE-WRITE (R180). -/
def ownTuneWrite (p : Port) (params : List Byte) (s : State) : Answer :=
  match s.stagingOf p with
  | none => s.refuse .notSet
  | some y =>
    match readAll rTuneWrite params with
    | none => s.refuse .badValue
    | some (offset, notes) =>
      if y.notes.length < offset + notes.length then s.refuse .badValue
      else
        let y := { y with notes := writeNotes y.notes offset notes, abandon := some (s.now + Config.minute) }
        (s.modStore fun z => { z with staging := some y }).ok (le 1 (y.notes.filter Option.isSome).length)

/-- TUNE-COMMIT (R181). -/
def ownTuneCommit (p : Port) (t : TuneSlot) (s : State) : Answer :=
  match s.stagingOf p with
  | none => s.refuse .notSet
  | some y =>
    if y.notes.all Option.isSome then
      ((s.modStore fun z =>
        { z with staging := some { y with abandon := none }, directory := z.directory.set t .underCommit }).enqueueStoreOp
          (.commit p t)).taken p 0x72 []
    else s.refuse .notSet

/-- TUNE-INFO (R181). -/
def ownTuneInfo (p : Port) (t : TuneSlot) (s : State) : Answer := (s.enqueueStoreOp (.info p t)).taken p 0x73 []

end State

/-- STORE_OP_END (R179). -/
def execStoreOpEnd (failedReads : Nat) (s : State) : Host.Outcome State Fault Refusal := .next (s.storeOpEnds failedReads)

/-- COMMIT_END (R181). -/
def execCommitEnd (left : Option (List Byte)) (s : State) : Host.Outcome State Fault Refusal := .next (s.commitEnds left)

/-- STAGING_ABANDON (R180). -/
def execStagingAbandon (s : State) : Host.Outcome State Fault Refusal := .next s.abandons

/-- TUNE_BEGIN (R180). -/
def execTuneBegin (port : Port) (params : List Byte) (s : State) : Host.Outcome State Fault Refusal :=
  .next (s.request port 0x70 params (State.parsed rTuneBegin params (State.ownTuneBegin port)))

/-- TUNE_WRITE (R180). -/
def execTuneWrite (port : Port) (params : List Byte) (s : State) : Host.Outcome State Fault Refusal :=
  .next (s.request port 0x71 params (State.ownTuneWrite port params))

/-- TUNE_COMMIT (R181). -/
def execTuneCommit (port : Port) (params : List Byte) (s : State) : Host.Outcome State Fault Refusal :=
  .next (s.request port 0x72 params (State.parsed (rFin 1 64) params (State.ownTuneCommit port)))

/-- TUNE_INFO (R181). -/
def execTuneInfo (port : Port) (params : List Byte) (s : State) : Host.Outcome State Fault Refusal :=
  .next (s.request port 0x73 params (State.parsed (rFin 1 64) params (State.ownTuneInfo port)))

/-- GET_STORE (R178). -/
def execGetStore (port : Port) (params : List Byte) (s : State) : Host.Outcome State Fault Refusal :=
  .next (s.read port 0x74 params (fun s => some s.dataStore) id)

end Sys2Proof.Machine
end

