-- ==== Sys2Proof/Machine/Dispatch.lean ====
section
/-! DEFINITION. The one place where a command meets its meaning: an arm for each row of the opcode table. -/

namespace Sys2Proof.Machine

def exec (i : Instr) (s : State) : Host.Outcome State Fault Refusal :=
  match i with
  | .coldStart => Sys2Proof.Machine.execColdStart s
  | .warmStart => Sys2Proof.Machine.execWarmStart s
  | .resetInput => Sys2Proof.Machine.execResetInput s
  | .mainsFail => Sys2Proof.Machine.execMainsFail s
  | .tickEnd => Sys2Proof.Machine.execTickEnd s
  | .sensorScan matrix lockout mains => Sys2Proof.Machine.execSensorScan matrix lockout mains s
  | .parkTimerExpiry bell => Sys2Proof.Machine.execParkTimerExpiry bell s
  | .dialCatchUp train => Sys2Proof.Machine.execDialCatchUp train s
  | .impulseEnd train => Sys2Proof.Machine.execImpulseEnd train s
  | .entryDue => Sys2Proof.Machine.execEntryDue s
  | .waitRecoveryMet => Sys2Proof.Machine.execWaitRecoveryMet s
  | .pulseEnd slot => Sys2Proof.Machine.execPulseEnd slot s
  | .lateDrop => Sys2Proof.Machine.execLateDrop s
  | .claimLapse bell => Sys2Proof.Machine.execClaimLapse bell s
  | .noteHandOver run => Sys2Proof.Machine.execNoteHandOver run s
  | .deferTest => Sys2Proof.Machine.execDeferTest s
  | .deferExpired => Sys2Proof.Machine.execDeferExpired s
  | .tollInstant port => Sys2Proof.Machine.execTollInstant port s
  | .clavierScan keys pedal => Sys2Proof.Machine.execClavierScan keys pedal s
  | .startEnd bell => Sys2Proof.Machine.execStartEnd bell s
  | .pulseDeadline bell => Sys2Proof.Machine.execPulseDeadline bell s
  | .durationEnd bell => Sys2Proof.Machine.execDurationEnd bell s
  | .quietReached bell => Sys2Proof.Machine.execQuietReached bell s
  | .stopDeadline bell => Sys2Proof.Machine.execStopDeadline bell s
  | .settleEnd bell => Sys2Proof.Machine.execSettleEnd bell s
  | .staggerEnd => Sys2Proof.Machine.execStaggerEnd s
  | .slotEnd => Sys2Proof.Machine.execSlotEnd s
  | .rampMove circuit => Sys2Proof.Machine.execRampMove circuit s
  | .loadWaitExpiry bell => Sys2Proof.Machine.execLoadWaitExpiry bell s
  | .storeOpEnd failedReads => Sys2Proof.Machine.execStoreOpEnd failedReads s
  | .commitEnd left => Sys2Proof.Machine.execCommitEnd left s
  | .stagingAbandon => Sys2Proof.Machine.execStagingAbandon s
  | .byteReceived port byte stopBit => Sys2Proof.Machine.execByteReceived port byte stopBit s
  | .gapDiscard port => Sys2Proof.Machine.execGapDiscard port s
  | .responseSent port => Sys2Proof.Machine.execResponseSent port s
  | .unknownRequest port code params => Sys2Proof.Machine.execUnknownRequest port code params s
  | .requestPart port code params => Sys2Proof.Machine.execRequestPart port code params s
  | .readPage port code params => Sys2Proof.Machine.execReadPage port code params s
  | .readNotices port params => Sys2Proof.Machine.execReadNotices port params s
  | .setMask port params => Sys2Proof.Machine.execSetMask port params s
  | .getLink port params => Sys2Proof.Machine.execGetLink port params s
  | .getDone port params => Sys2Proof.Machine.execGetDone port params s
  | .setRights port params => Sys2Proof.Machine.execSetRights port params s
  | .getRights port params => Sys2Proof.Machine.execGetRights port params s
  | .lock port params => Sys2Proof.Machine.execLock port params s
  | .restart port params => Sys2Proof.Machine.execRestart port params s
  | .setTime port params => Sys2Proof.Machine.execSetTime port params s
  | .getTime port params => Sys2Proof.Machine.execGetTime port params s
  | .setDst port params => Sys2Proof.Machine.execSetDst port params s
  | .getDst port params => Sys2Proof.Machine.execGetDst port params s
  | .setTick port params => Sys2Proof.Machine.execSetTick port params s
  | .setYearRef port params => Sys2Proof.Machine.execSetYearRef port params s
  | .clearYearRef port params => Sys2Proof.Machine.execClearYearRef port params s
  | .setEntry port params => Sys2Proof.Machine.execSetEntry port params s
  | .setProgram port params => Sys2Proof.Machine.execSetProgram port params s
  | .getYearRef port params => Sys2Proof.Machine.execGetYearRef port params s
  | .getEntry port params => Sys2Proof.Machine.execGetEntry port params s
  | .getEntryMap port params => Sys2Proof.Machine.execGetEntryMap port params s
  | .getProgram port params => Sys2Proof.Machine.execGetProgram port params s
  | .getDay port params => Sys2Proof.Machine.execGetDay port params s
  | .calendarQuery port params => Sys2Proof.Machine.execCalendarQuery port params s
  | .setDialConfig port params => Sys2Proof.Machine.execSetDialConfig port params s
  | .setDial port params => Sys2Proof.Machine.execSetDial port params s
  | .dialStop port params => Sys2Proof.Machine.execDialStop port params s
  | .dialRelease port params => Sys2Proof.Machine.execDialRelease port params s
  | .getDials port params => Sys2Proof.Machine.execGetDials port params s
  | .setBell port params => Sys2Proof.Machine.execSetBell port params s
  | .getBellConfig port params => Sys2Proof.Machine.execGetBellConfig port params s
  | .getBells port params => Sys2Proof.Machine.execGetBells port params s
  | .getSensors port params => Sys2Proof.Machine.execGetSensors port params s
  | .clearFaultHammer port params => Sys2Proof.Machine.execClearFaultHammer port params s
  | .clearFaultSwing port params => Sys2Proof.Machine.execClearFaultSwing port params s
  | .claim port params => Sys2Proof.Machine.execClaim port params s
  | .renew port params => Sys2Proof.Machine.execRenew port params s
  | .release port params => Sys2Proof.Machine.execRelease port params s
  | .setClaimHold port params => Sys2Proof.Machine.execSetClaimHold port params s
  | .getClaims port params => Sys2Proof.Machine.execGetClaims port params s
  | .setStrikePriority port params => Sys2Proof.Machine.execSetStrikePriority port params s
  | .getStrikes port params => Sys2Proof.Machine.execGetStrikes port params s
  | .getCounters port params => Sys2Proof.Machine.execGetCounters port params s
  | .tunePlay port params => Sys2Proof.Machine.execTunePlay port params s
  | .tuneStop port params => Sys2Proof.Machine.execTuneStop port params s
  | .tollStart port params => Sys2Proof.Machine.execTollStart port params s
  | .tollStop port params => Sys2Proof.Machine.execTollStop port params s
  | .strike port params => Sys2Proof.Machine.execStrike port params s
  | .getPlayers port params => Sys2Proof.Machine.execGetPlayers port params s
  | .setClavier port params => Sys2Proof.Machine.execSetClavier port params s
  | .readKeys port params => Sys2Proof.Machine.execReadKeys port params s
  | .getClavier port params => Sys2Proof.Machine.execGetClavier port params s
  | .swingStart port params => Sys2Proof.Machine.execSwingStart port params s
  | .swingStop port params => Sys2Proof.Machine.execSwingStop port params s
  | .getSwing port params => Sys2Proof.Machine.execGetSwing port params s
  | .setCircuit port params => Sys2Proof.Machine.execSetCircuit port params s
  | .setPlan port params => Sys2Proof.Machine.execSetPlan port params s
  | .setLevel port params => Sys2Proof.Machine.execSetLevel port params s
  | .setLevelRelease port params => Sys2Proof.Machine.execSetLevelRelease port params s
  | .setSolar port params => Sys2Proof.Machine.execSetSolar port params s
  | .setLoad port params => Sys2Proof.Machine.execSetLoad port params s
  | .getLights port params => Sys2Proof.Machine.execGetLights port params s
  | .getLoad port params => Sys2Proof.Machine.execGetLoad port params s
  | .getSolar port params => Sys2Proof.Machine.execGetSolar port params s
  | .getPlan port params => Sys2Proof.Machine.execGetPlan port params s
  | .tuneBegin port params => Sys2Proof.Machine.execTuneBegin port params s
  | .tuneWrite port params => Sys2Proof.Machine.execTuneWrite port params s
  | .tuneCommit port params => Sys2Proof.Machine.execTuneCommit port params s
  | .tuneInfo port params => Sys2Proof.Machine.execTuneInfo port params s
  | .getStore port params => Sys2Proof.Machine.execGetStore port params s
  | .lossOfMainSupply => Sys2Proof.Machine.execLossOfMainSupply s

end Sys2Proof.Machine
end

