-- ==== Sys2Proof/WellFormed.lean ====
section
/-! DEFINITION. The well-formed commands: numbers that the data book's tables hold, requests that fit a frame, and each
request under the row of the opcode table that its parameters choose. A command that is not well formed still has a
meaning: it finds no record to act on, or belongs to another row, and changes nothing. -/

namespace Sys2Proof

/-- A bell number 1..24. -/
def isBell (n : Nat) : Bool := 1 ≤ n && n ≤ 24

/-- A dial train number 1..4. -/
def isTrain (n : Nat) : Bool := 1 ≤ n && n ≤ 4

/-- A hammer slot number 1..4. -/
def isHammerSlot (n : Nat) : Bool := 1 ≤ n && n ≤ 4

/-- A circuit number 1..8. -/
def isCircuit (n : Nat) : Bool := 1 ≤ n && n ≤ 8

/-- A body of a frame holds a code and its parameters, 60 bytes at most (R170). -/
def fitsFrame (params : List Byte) : Bool := params.length + 1 ≤ 60

/-- The request codes of 11's table (R171). -/
def requestCodes : List Nat :=
  [0x01, 0x02, 0x03, 0x04, 0x05, 0x06, 0x07, 0x08, 0x10, 0x11, 0x12, 0x13, 0x14, 0x18, 0x19, 0x1A,
   0x1B, 0x1C, 0x1D, 0x1E, 0x1F, 0x20, 0x21, 0x28, 0x29, 0x2A, 0x2B, 0x2C, 0x30, 0x31, 0x32, 0x33,
   0x34, 0x38, 0x39, 0x3A, 0x3B, 0x3C, 0x40, 0x41, 0x42, 0x48, 0x49, 0x4A, 0x4B, 0x4C, 0x4D, 0x50,
   0x51, 0x52, 0x58, 0x59, 0x5A, 0x60, 0x61, 0x62, 0x63, 0x64, 0x65, 0x66, 0x67, 0x68, 0x70, 0x71,
   0x72, 0x73, 0x74]

/-- The codes of the reads that carry a page number (R172). -/
def readCodes : List Nat :=
  [0x03, 0x04, 0x06, 0x11, 0x13, 0x1C, 0x1D, 0x1E, 0x1F, 0x20, 0x21, 0x2C, 0x31, 0x32, 0x33, 0x3C,
   0x41, 0x42, 0x4D, 0x52, 0x5A, 0x65, 0x66, 0x67, 0x68, 0x74]

/-- SET-PLAN and SET-SOLAR, which are sent in parts (R172). -/
def sentInParts (code : Byte) : Bool := code == 0x61 || code == 0x63

/-- The parameters are those of a part that is not the last: its number is below the count (R172). -/
def earlierPart (params : List Byte) : Bool := (params.getD 0 0).toNat < (params.getD 1 0).toNat

/-- Whether a command is well formed. -/
def Instr.wf : Instr → Bool
  | .coldStart => true
  | .warmStart => true
  | .resetInput => true
  | .mainsFail => true
  | .tickEnd => true
  | .sensorScan _ _ _ => true
  | .parkTimerExpiry bell => isBell bell
  | .dialCatchUp train => isTrain train
  | .impulseEnd train => isTrain train
  | .entryDue => true
  | .waitRecoveryMet => true
  | .pulseEnd slot => isHammerSlot slot
  | .lateDrop => true
  | .claimLapse bell => isBell bell
  | .noteHandOver _ => true
  | .deferTest => true
  | .deferExpired => true
  | .tollInstant _ => true
  | .clavierScan _ _ => true
  | .startEnd bell => isBell bell
  | .pulseDeadline bell => isBell bell
  | .durationEnd bell => isBell bell
  | .quietReached bell => isBell bell
  | .stopDeadline bell => isBell bell
  | .settleEnd bell => isBell bell
  | .staggerEnd => true
  | .slotEnd => true
  | .rampMove circuit => isCircuit circuit
  | .loadWaitExpiry bell => isBell bell
  | .storeOpEnd _ => true
  | .commitEnd left => left.all fun l => decide (l.length ≤ Config.slotBytes)
  | .stagingAbandon => true
  | .byteReceived _ _ _ => true
  | .gapDiscard _ => true
  | .responseSent _ => true
  | .unknownRequest _ code params => fitsFrame params && !requestCodes.contains code.toNat
  | .requestPart _ code params => fitsFrame params && sentInParts code && earlierPart params
  | .readPage _ code params => fitsFrame params && readCodes.contains code.toNat && params.getLastD 0 != 0
  | .readNotices _ params => fitsFrame params
  | .setMask _ params => fitsFrame params
  | .getLink _ params => fitsFrame params
  | .getDone _ params => fitsFrame params
  | .setRights _ params => fitsFrame params
  | .getRights _ params => fitsFrame params
  | .lock _ params => fitsFrame params
  | .restart _ params => fitsFrame params
  | .setTime _ params => fitsFrame params
  | .getTime _ params => fitsFrame params
  | .setDst _ params => fitsFrame params
  | .getDst _ params => fitsFrame params
  | .setTick _ params => fitsFrame params
  | .setYearRef _ params => fitsFrame params
  | .clearYearRef _ params => fitsFrame params
  | .setEntry _ params => fitsFrame params
  | .setProgram _ params => fitsFrame params
  | .getYearRef _ params => fitsFrame params
  | .getEntry _ params => fitsFrame params
  | .getEntryMap _ params => fitsFrame params
  | .getProgram _ params => fitsFrame params
  | .getDay _ params => fitsFrame params
  | .calendarQuery _ params => fitsFrame params
  | .setDialConfig _ params => fitsFrame params
  | .setDial _ params => fitsFrame params
  | .dialStop _ params => fitsFrame params
  | .dialRelease _ params => fitsFrame params
  | .getDials _ params => fitsFrame params
  | .setBell _ params => fitsFrame params
  | .getBellConfig _ params => fitsFrame params
  | .getBells _ params => fitsFrame params
  | .getSensors _ params => fitsFrame params
  | .clearFaultHammer _ params => fitsFrame params && params.getD 1 0 != 1
  | .clearFaultSwing _ params => fitsFrame params && params.getD 1 0 == 1
  | .claim _ params => fitsFrame params
  | .renew _ params => fitsFrame params
  | .release _ params => fitsFrame params
  | .setClaimHold _ params => fitsFrame params
  | .getClaims _ params => fitsFrame params
  | .setStrikePriority _ params => fitsFrame params
  | .getStrikes _ params => fitsFrame params
  | .getCounters _ params => fitsFrame params
  | .tunePlay _ params => fitsFrame params
  | .tuneStop _ params => fitsFrame params
  | .tollStart _ params => fitsFrame params
  | .tollStop _ params => fitsFrame params
  | .strike _ params => fitsFrame params
  | .getPlayers _ params => fitsFrame params
  | .setClavier _ params => fitsFrame params
  | .readKeys _ params => fitsFrame params
  | .getClavier _ params => fitsFrame params
  | .swingStart _ params => fitsFrame params
  | .swingStop _ params => fitsFrame params
  | .getSwing _ params => fitsFrame params
  | .setCircuit _ params => fitsFrame params
  | .setPlan _ params => fitsFrame params && !earlierPart params
  | .setLevel _ params => fitsFrame params && params.getD 1 0 != 1
  | .setLevelRelease _ params => fitsFrame params && params.getD 1 0 == 1
  | .setSolar _ params => fitsFrame params && !earlierPart params
  | .setLoad _ params => fitsFrame params
  | .getLights _ params => fitsFrame params
  | .getLoad _ params => fitsFrame params
  | .getSolar _ params => fitsFrame params
  | .getPlan _ params => fitsFrame params
  | .tuneBegin _ params => fitsFrame params
  | .tuneWrite _ params => fitsFrame params
  | .tuneCommit _ params => fitsFrame params
  | .tuneInfo _ params => fitsFrame params
  | .getStore _ params => fitsFrame params
  | .lossOfMainSupply => true

end Sys2Proof
end

