-- ==== Sys2Proof/Safety.lean ====
section
/-! DEFINITION. The terms in which statements about the part are made: the blocks and what a command leaves of them, what
taking and answering a request does to a port, the next note of a run, what debounced changes and corrections of the time do, and
the laws of the data book as properties of a state. -/

namespace Sys2Proof.Machine

/-! ## Frames -/

/-- The blocks of the part, and the two lists of the model's own beside them. -/
inductive Block where
  | pending | power | timekeeper | calendar | dials | bells | claims | engine | players | clavier | swing | lights | load
  | link | store | signals
  deriving DecidableEq, Repr

namespace State

/-- Block `x` is in `t` as it is in `s`. -/
def sameBlock (s t : State) : Block → Prop
  | .pending => t.pending = s.pending
  | .power => t.power = s.power
  | .timekeeper => t.tk = s.tk
  | .calendar => t.cal = s.cal
  | .dials => t.dials = s.dials
  | .bells => t.bells = s.bells
  | .claims => t.claims = s.claims
  | .engine => t.engine = s.engine
  | .players => t.players = s.players
  | .clavier => t.clavier = s.clavier
  | .swing => t.swing = s.swing
  | .lights => t.lights = s.lights
  | .load => t.load = s.load
  | .link => t.link = s.link
  | .store => t.store = s.store
  | .signals => t.signals = s.signals

/-- Only blocks of `l` may differ in `t` from what they are in `s`. -/
def changesOnly (l : List Block) (s t : State) : Prop := ∀ x, x ∉ l → s.sameBlock t x

/-- The commands of a list run one after the other, each whole; `none` where one of them stops the part. -/
def runs : List Instr → State → Option State
  | [], s => some s
  | c :: rest, s =>
    match exec c s with
    | .next t => runs rest t
    | _ => none

end State

/-! ## Taking and answering a request (R171) -/

/-- The record of a port on which a request has been taken and answered. -/
def PortRec.answered (r : PortRec) (code : Byte) (x : Status) (payload : List Byte) : PortRec :=
  { r with
    waiting := r.waiting.tail
    counters := { r.counters with taken := bump r.counters.taken }
    parts := none
    snapshot := none
    response := some { code := code + 0x80, status := x, payload := payload } }

namespace State

/-- The part takes this request of port `p`, and none of the link controller's checks refuses it. -/
def accepts (s : State) (p : Port) (code : Byte) (params : List Byte) : Prop :=
  s.takes p code params = true ∧ s.check p code params = none

/-- The state `s` once the request has been taken on port `p` and answered, everything else as in `s`. -/
def answers (s : State) (p : Port) (code : Byte) (x : Status) (payload : List Byte) : State :=
  s.modPort p fun r => r.answered code x payload

/-- The response that stands on port `p`. -/
def responds (s : State) (p : Port) (code : Byte) (x : Status) (payload : List Byte) : Prop :=
  (s.port p).response = some { code := code + 0x80, status := x, payload := payload }

/-- The state `s` once page 0 of a read whose data is `data` has been taken on port `p` and answered (R172). -/
def answersRead (s : State) (p : Port) (code : Byte) (params data : List Byte) : State :=
  s.modPort p fun r =>
    { r.answered code .ok (pageOf data 0) with
      snapshot := some { code := code, args := readArgs params, data := data } }

/-- A notice of a kind stands pending on port `p`. -/
def noticed (s : State) (k : NoticeKind) (p : Port) : Prop := (s.port p).notices &&& k.bit ≠ 0

/-- A notice of a kind stands pending on all three ports. -/
def noticedAll (s : State) (k : NoticeKind) : Prop := ∀ p, s.noticed k p

end State

/-- A port's record once the frame being received has been discarded with an error: the receiver hunts again, and the error is
counted with LINK unless its counter has saturated (R170, R177). -/
def PortRec.discarded (r : PortRec) (x : LinkError) : PortRec :=
  if r.counters.read x < 65535 then
    { r with receiver := .hunt, counters := r.counters.count x, notices := r.notices ||| NoticeKind.link.bit }
  else { r with receiver := .hunt }

end Sys2Proof.Machine

namespace Sys2Proof

open Machine

/-- The requests, each with its port, its code and its parameters; those that are sent in parts or split by a parameter
byte are left out, and so are the reads, which have a page. -/
def Instr.plainRequest? : Instr → Option (Port × Byte × List Byte)
  | .readNotices p l => some (p, 0x01, l)
  | .setMask p l => some (p, 0x02, l)
  | .setRights p l => some (p, 0x05, l)
  | .lock p l => some (p, 0x07, l)
  | .restart p l => some (p, 0x08, l)
  | .setTime p l => some (p, 0x10, l)
  | .setDst p l => some (p, 0x12, l)
  | .setTick p l => some (p, 0x14, l)
  | .setYearRef p l => some (p, 0x18, l)
  | .clearYearRef p l => some (p, 0x19, l)
  | .setEntry p l => some (p, 0x1A, l)
  | .setProgram p l => some (p, 0x1B, l)
  | .setDialConfig p l => some (p, 0x28, l)
  | .setDial p l => some (p, 0x29, l)
  | .dialStop p l => some (p, 0x2A, l)
  | .dialRelease p l => some (p, 0x2B, l)
  | .setBell p l => some (p, 0x30, l)
  | .claim p l => some (p, 0x38, l)
  | .renew p l => some (p, 0x39, l)
  | .release p l => some (p, 0x3A, l)
  | .setClaimHold p l => some (p, 0x3B, l)
  | .setStrikePriority p l => some (p, 0x40, l)
  | .tunePlay p l => some (p, 0x48, l)
  | .tuneStop p l => some (p, 0x49, l)
  | .tollStart p l => some (p, 0x4A, l)
  | .tollStop p l => some (p, 0x4B, l)
  | .strike p l => some (p, 0x4C, l)
  | .setClavier p l => some (p, 0x50, l)
  | .readKeys p l => some (p, 0x51, l)
  | .swingStart p l => some (p, 0x58, l)
  | .swingStop p l => some (p, 0x59, l)
  | .setCircuit p l => some (p, 0x60, l)
  | .setLoad p l => some (p, 0x64, l)
  | .tuneBegin p l => some (p, 0x70, l)
  | .tuneWrite p l => some (p, 0x71, l)
  | .tuneCommit p l => some (p, 0x72, l)
  | .tuneInfo p l => some (p, 0x73, l)
  | _ => none

/-- The reads without parameters but their page, each with its port, its code, its parameters and its data. -/
def Instr.plainRead? : Instr → Option (Port × Byte × List Byte × (State → List Byte))
  | .getLink p l => some (p, 0x03, l, State.dataLink)
  | .getDone p l => some (p, 0x04, l, fun s => s.dataDone p)
  | .getRights p l => some (p, 0x06, l, State.dataRights)
  | .getTime p l => some (p, 0x11, l, State.dataTime)
  | .getDst p l => some (p, 0x13, l, State.dataDst)
  | .getYearRef p l => some (p, 0x1C, l, State.dataYearRef)
  | .getEntryMap p l => some (p, 0x1E, l, State.dataEntryMap)
  | .getDay p l => some (p, 0x20, l, State.dataDay)
  | .getDials p l => some (p, 0x2C, l, State.dataDials)
  | .getBells p l => some (p, 0x32, l, State.dataBells)
  | .getClaims p l => some (p, 0x3C, l, fun s => s.dataClaims p)
  | .getStrikes p l => some (p, 0x41, l, State.dataStrikes)
  | .getCounters p l => some (p, 0x42, l, State.dataCounters)
  | .getPlayers p l => some (p, 0x4D, l, State.dataPlayers)
  | .getClavier p l => some (p, 0x52, l, State.dataClavier)
  | .getSwing p l => some (p, 0x5A, l, State.dataSwing)
  | .getLights p l => some (p, 0x65, l, State.dataLights)
  | .getLoad p l => some (p, 0x66, l, State.dataLoad)
  | .getSolar p l => some (p, 0x67, l, State.dataSolar)
  | .getStore p l => some (p, 0x74, l, State.dataStore)
  | _ => none

end Sys2Proof

namespace Sys2Proof.Machine

/-! ## What of a state is legal -/

/-- A date and time that the counters may hold (R2). -/
def Counters.legal (c : Counters) : Bool :=
  c.date.inCalendar && 1900 ≤ c.date.year && c.date.year ≤ 2999 && c.year ≤ 99 && c.hour ≤ 23 && c.minute ≤ 59 &&
    c.second ≤ 59 && c.tick ≤ 255

/-- A tune that a slot can hold (R178). -/
def Tune.legal (t : Tune) : Bool :=
  1 ≤ t.notes.length && t.notes.length ≤ 128 && 16 ≤ t.tempo && t.tempo ≤ 255 &&
    t.notes.all fun n => n.bell ≤ 255 && n.gap ≤ 1023 && 1 ≤ n.cls && n.cls ≤ 4

/-- A bell's configuration within R46's ranges. -/
def BellConfig.legal (c : BellConfig) : Bool :=
  c.lead ≤ 255 && 16 ≤ c.recovery && c.recovery ≤ 1023 && (c.widths.rows.all fun w => 2 ≤ w && w ≤ 64) &&
    c.startLoad ≤ 1000 && c.runLoad ≤ 1000 && 2 ≤ c.startTime && c.startTime ≤ 60 && 1 ≤ c.pulseTimeout &&
    c.pulseTimeout ≤ 10 && 5 ≤ c.settleTime && c.settleTime ≤ 120 && 30 ≤ c.stopTimeout && c.stopTimeout ≤ 600 &&
    1 ≤ c.parkTimeout && c.parkTimeout ≤ 10

/-- The frame that a receiver holds is within the length that R170 allows it. -/
def Receiver.legal : Receiver → Bool
  | .hunt | .length => true
  | .body n l => n ≤ 60 && l.length < n
  | .check n l => 1 ≤ n && n ≤ 60 && l.length == n

/-- The link counters are 16 bits wide (R177). -/
def LinkCounters.legal (c : LinkCounters) : Bool :=
  c.taken ≤ 65535 && c.sent ≤ 65535 && c.lengthErrors ≤ 65535 && c.checkErrors ≤ 65535 && c.gaps ≤ 65535 &&
    c.framing ≤ 65535 && c.overflows ≤ 65535

/-- A port's FIFO is not overfull, its frames and counters are within their ranges (R170, R177). -/
def PortRec.legal (r : PortRec) : Bool :=
  r.fifo ≤ Config.fifo && r.receiver.legal && (r.waiting.all fun l => 1 ≤ l.length && l.length ≤ 60) && r.counters.legal

/-- A train as the law of the dial trains keeps it (R33 to R37): a demanded impulse has its lag in the range that may be
caught up, an impulse in flight has its mark, and mode and state agree. -/
def Dial.legal (d : Dial) (timeValid : Bool) : Bool :=
  d.position < 1440 && d.hold ≤ 720 && (d.fitted || d.mode == .unset) && (d.mode == .unset) == (d.state == .unset) &&
    (d.mode == .stopped) == (d.state == .stopped) && (!d.impulse.isSome || d.inFlight) &&
    (!d.demanded || (d.mode == .running && timeValid && d.lag.any fun n => 1 ≤ n && n + d.hold < 1440)) &&
    (!d.catchUpDue || d.state == .catching)

/-- Note `k` of a tune, on bell `b`, is the first from note `i` on whose bell lies in 1..24 (R103). -/
def nextNoteAt (notes : List Note) (i k : Nat) (b : Bell) : Prop :=
  i ≤ k ∧ (notes[k]?.bind fun n => bellOf? n.bell) = some b ∧
    ∀ j n, i ≤ j → j < k → notes[j]? = some n → bellOf? n.bell = none

/-- No note of a tune from note `i` on has a bell in 1..24: a run has finished handing over there (R103). -/
def noNoteFrom (notes : List Note) (i : Nat) : Prop := ∀ j n, i ≤ j → notes[j]? = some n → bellOf? n.bell = none

/-- The swing states that a lock-out, an ALL-STOP or the end of a slot brings down (R144, R147). -/
def SwingState.bringsDown : SwingState → Bool
  | .parking | .waitLoad | .starting | .ringing => true
  | .unreported | .idle | .stopping | .settling | .fault => false

namespace State

/-! ## Starts and stops -/

/-- The retained store and the counting chain of `s` stand in `t` (R19, R39, R100, R169, R174). A commit that is executing is
cut, and its slot is the one thing of the flash that may differ. -/
def keepsRetained (s t : State) : Prop :=
  t.tk.divider = s.tk.divider ∧ t.tk.counters = s.tk.counters ∧ t.tk.slew = s.tk.slew ∧ t.tk.timeValid = s.tk.timeValid ∧
    t.tk.dstRule = s.tk.dstRule ∧ t.cal.yearRefs = s.cal.yearRefs ∧ t.cal.entries = s.cal.entries ∧
    t.cal.programs = s.cal.programs ∧ (∀ b, t.config b = s.config b) ∧ t.claims.hold = s.claims.hold ∧
    t.engine.priorities = s.engine.priorities ∧ t.clavier.mode = s.clavier.mode ∧ t.clavier.cls = s.clavier.cls ∧
    t.clavier.binding = s.clavier.binding ∧ (∀ c, (t.circuit c).config = (s.circuit c).config) ∧
    t.lights.plans = s.lights.plans ∧ t.lights.solar = s.lights.solar ∧ t.load.capacity = s.load.capacity ∧
    t.load.reserve = s.load.reserve ∧ t.load.wait = s.load.wait ∧
    (∀ n, (t.dial n).fitted = (s.dial n).fitted ∧ (t.dial n).width = (s.dial n).width ∧
      (t.dial n).period = (s.dial n).period ∧ (t.dial n).hold = (s.dial n).hold) ∧
    (∀ p, (t.port p).rights = (s.port p).rights ∧ (t.port p).mask = (s.port p).mask) ∧
    ((s.store.executing.all fun x => !x.1.isCommit) = true → t.store.flash = s.store.flash)

/-- What is on the main supply is gone in `t`: no strike is queued, no pulse is in flight, no bell is claimed, swings or has
a motor line, and nothing waits for load (R63, R100, R148, R169). -/
def clearsVolatile (t : State) : Prop :=
  t.tk.runCount = 0 ∧ t.engine.queue = [] ∧ (∀ k, t.engine.slots.get k = none) ∧ (∀ b, t.claim b = none) ∧
    (∀ b, t.swingState b = .unreported) ∧ (∀ b, t.motorLine b = false) ∧ t.load.queue = [] ∧ t.swing.runs = [] ∧
    t.store.staging = none ∧ t.bells.imageValid = false

/-! ## What debounced changes do -/

/-- The state of a scan once every reading has been debounced, and before any change is delivered (R51, R52). -/
def debounced (matrix : BitVec 96) (lockout mains : Bool) (s : State) : State :=
  s.modBells fun t => t.sample matrix lockout mains

/-- Bell `b`'s sensors have in `u` the debounced states that they have in `s`. -/
def sameSensors (s u : State) (b : Bell) : Prop :=
  (u.bell b).sensors.map Sensor.state = (s.bell b).sensors.map Sensor.state

/-- On a valid image, with all of bell `b`'s sensors known, no debounced input but theirs changes from `s` to `u`. -/
def onlySensorsOf (s u : State) (b : Bell) : Prop :=
  s.signals = [] ∧ s.bells.imageValid = true ∧ u.bells.lockout.state = s.bells.lockout.state ∧
    (∀ k, k ≠ b → s.sameSensors u k) ∧ ∀ y ∈ (s.bell b).sensors, y.state.isSome = true

/-- The hammer of bell `b` stands in `t` in state `x`, entered at the count of `s`: its park timer runs in PARKING and UNPARKING
only, and BELL has been raised (R55, R57, R58). -/
def hammerEnters (s t : State) (b : Bell) (x : Hammer) : Prop :=
  (t.bell b).hammer = some x ∧ t.noticedAll .bell ∧
    (t.bell b).timer =
      if x = .parking ∨ x = .unparking then some (s.now + (s.config b).parkTimeout * 256) else none

/-- The hammer of bell `b` has entered FAULT with a cause (R59). -/
def hammerFaulted (s t : State) (b : Bell) (x : HammerCause) : Prop :=
  s.hammerEnters t b .fault ∧ (t.bell b).cause = some x ∧ t.noticedAll .fault ∧ t.motorLine b = false

/-- The moves of a hammer on the debounced changes from `s` to `u` of its bell's sensors, as `t` shows them (R56 to R59). -/
def hammerFollows (s u t : State) (b : Bell) : Prop :=
  let old := s.bell b
  let new := u.bell b
  let changed := new.home.state ≠ old.home.state ∨ new.park.state ≠ old.park.state
  let home := new.home.state = some true
  let park := new.park.state = some true
  let rises := new.rest.state = some true ∧ old.rest.state = some false
  let falls := new.rest.state = some false ∧ old.rest.state = some true
  (old.hammer = some .ready →
    ((park ∧ new.park.state ≠ old.park.state) ∨ (home ∧ park ∧ changed) → s.hammerFaulted t b .sensorConflict) ∧
    (¬((park ∧ new.park.state ≠ old.park.state) ∨ (home ∧ park ∧ changed)) → t.bell b = new)) ∧
  (old.hammer = some .parking ∨ old.hammer = some .parked ∨ old.hammer = some .unparking →
    home ∧ park ∧ changed → s.hammerFaulted t b .sensorConflict) ∧
  (old.hammer = some .parking → ¬(home ∧ park) →
    (park ∧ new.park.state ≠ old.park.state →
      s.hammerEnters t b (if s.demanded b = false ∧ new.rest.state = some true then .unparking else .parked)) ∧
    (¬(park ∧ new.park.state ≠ old.park.state) → t.bell b = new)) ∧
  (old.hammer = some .parked → ¬(home ∧ park) →
    (¬park ∧ new.park.state ≠ old.park.state → s.hammerFaulted t b .parkLost) ∧
    (park → rises → s.demanded b = false → s.hammerEnters t b .unparking) ∧
    (park → ¬(rises ∧ s.demanded b = false) → t.bell b = new)) ∧
  (old.hammer = some .unparking → ¬(home ∧ park) →
    (falls → ¬park → s.hammerEnters t b .parking) ∧
    (¬falls → changed → home → s.hammerEnters t b .ready) ∧
    (¬falls → ¬(changed ∧ home ∧ ¬park) → t.bell b = new))

/-- What a swing takes of the debounced changes from `s` to `u` of its bell's SW and REST, as `t` shows it (R137, R138, R140,
R141). -/
def swingFollows (s u t : State) (b : Bell) : Prop :=
  let w := s.swingRec b
  let old := s.bell b
  let new := u.bell b
  let edge := new.sw.state = some true ∧ old.sw.state = some false
  let rest := new.rest.state = some true
  let changed := new.rest.state ≠ old.rest.state
  let held := old.hammer = some .parked ∧ new.home.state = old.home.state ∧ new.park.state = old.park.state
  let pulsed : SwingRec := if edge then { w with lastPulse := some s.now } else w
  (∀ k, k ≠ b → (w.state ≠ .parking → w.state ≠ .waitLoad → (w.state = .starting ∨ w.state = .ringing → held) →
    t.swingRec k = s.swingRec k)) ∧
  (w.state = .idle ∨ w.state = .fault → t.swingRec b = pulsed) ∧
  (w.state = .starting → held →
    t.swingRec b = if edge then { pulsed with edges := min 255 (w.edges + 1) } else w) ∧
  (w.state = .ringing → held →
    t.swingRec b = if edge then { pulsed with timer := some (s.now + (s.config b).pulseTimeout * 256) } else w) ∧
  (w.state = .stopping →
    t.swingRec b =
      if ¬edge ∧ changed ∧ rest ∧ s.quiet b = true then
        { w with state := .settling, timer := some (s.now + (s.config b).settleTime * 256) }
      else pulsed) ∧
  (w.state = .settling →
    t.swingRec b =
      if changed ∧ ¬rest then { pulsed with state := .stopping, timer := some (s.now + (s.config b).stopTimeout * 256) }
      else if edge ∧ rest then { pulsed with timer := some (s.now + (s.config b).settleTime * 256) }
      else pulsed)

/-- What the lock-out going on does, as `t` shows it, where nothing else changes and every entry of the load queue waits for
load (R62, R144). -/
def lockOutFollows (s t : State) : Prop :=
  t.noticedAll .bell ∧ ∀ b,
    (t.bell b).demands.lockout = true ∧
    ((s.bell b).hammer = some .ready ∨ (s.bell b).hammer = some .unparking → s.demanded b = false →
      (s.bell b).park.state ≠ some true →
      (s.pulsing b = false → s.hammerEnters t b .parking) ∧
      (s.pulsing b = true → (s.bell b).hammer = some .ready → (t.bell b).hammer = some .ready)) ∧
    (s.swingState b = .starting ∨ s.swingState b = .ringing →
      (t.swingRec b).lastCause = some .lockOut ∧ t.motorLine b = false ∧
        t.swingState b = if (s.bell b).rest.state = some true ∧ s.quiet b = true then .settling else .stopping) ∧
    (s.swingState b = .parking ∨ s.swingState b = .waitLoad →
      (t.swingRec b).lastCause = some .lockOut ∧ t.swingState b = .idle ∧ (t.swingRec b).origin = none ∧
        ∀ e ∈ t.load.queue, e.bell ≠ b) ∧
    ((s.swingRec b).state.bringsDown = false → t.swingRec b = s.swingRec b)

/-- What the lock-out going off does, as `t` shows it, where nothing else changes (R57, R62). -/
def lockOutEnds (s t : State) : Prop :=
  t.noticedAll .bell ∧ t.swing = s.swing ∧ ∀ b,
    (t.bell b).demands = { (s.bell b).demands with lockout := false } ∧
    ((s.bell b).hammer = some .parked → (s.bell b).park.state = some true → (s.bell b).home.state ≠ some true →
      ((s.bell b).demands = { Demands.empty with lockout := true } → (s.bell b).rest.state = some true →
        s.hammerEnters t b .unparking) ∧
      ((s.bell b).demands ≠ { Demands.empty with lockout := true } ∨ (s.bell b).rest.state ≠ some true →
        (t.bell b).hammer = some .parked))

/-- The first states of bell `b` at the scan that makes the image valid, as `t` shows them; `u` holds the debounced sensors.
A swing at rest settles and one that moves stops, so that the hammer of either is parked or sent to be (R64, R148). -/
def firstStatesOf (s u t : State) (b : Bell) : Prop :=
  let c := s.config b
  let x := u.bell b
  (c.hammer = false ∧ c.motor = false → t.swingState b = .idle) ∧
  (c.hammer = true ∨ c.motor = true →
    (x.rest.state = some true →
      t.swingState b = .settling ∧ (t.swingRec b).timer = some (s.now + c.settleTime * 256)) ∧
    (x.rest.state = some false →
      t.swingState b = .stopping ∧ (t.swingRec b).timer = some (s.now + c.stopTimeout * 256))) ∧
  (c.hammer = true → (s.bell b).hammer = none → s.pulsing b = false →
    (t.bell b).demands.swing = true ∧
    (x.park.state = some true → x.home.state = some true →
      (t.bell b).hammer = some .fault ∧ (t.bell b).cause = some .sensorConflict ∧ t.noticedAll .fault) ∧
    (x.park.state = some true → x.home.state = some false →
      (t.bell b).hammer = some .parked ∧ (t.bell b).demands.start = true) ∧
    (x.park.state = some false → (t.bell b).hammer = some .parking ∧
      (t.bell b).timer = some (s.now + c.parkTimeout * 256)))

/-- The swing of bell `b` has entered FAULT with a cause, its record otherwise `r`: the motor line is released, the load queue
left, and FAULT and BELL raised (R142, R166). -/
def swingFaulted (t : State) (b : Bell) (r : SwingRec) (x : SwingFault) : Prop :=
  t.swingRec b = { r with state := .fault, fault := some x, lastCause := some (.fault x), timer := none } ∧
    t.motorLine b = false ∧ t.noticedAll .fault ∧ t.noticedAll .bell ∧ ∀ e ∈ t.load.queue, e.bell ≠ b

/-- What a swing that waits for its hammer or needs it PARKED takes of a hammer fault of the debounced changes from `s` to `u`,
as `t` shows it: PARK-FAULT in PARKING, and HAMMER-LOST from WAIT-LOAD on (R142). -/
def swingFollowsHammer (s u t : State) (b : Bell) : Prop :=
  let w := s.swingRec b
  let edge := (u.bell b).sw.state = some true ∧ (s.bell b).sw.state = some false
  let pulsed : SwingRec := if edge then { w with lastPulse := some s.now } else w
  (s.bell b).hammer ≠ some .fault → (t.bell b).hammer = some .fault →
    (w.state = .parking → t.swingFaulted b pulsed .parkFault) ∧
    (w.state = .waitLoad ∨ w.state = .ringing → t.swingFaulted b pulsed .hammerLost) ∧
    (w.state = .starting →
      t.swingFaulted b (if edge then { pulsed with edges := min 255 (w.edges + 1) } else w) .hammerLost)

/-! ## What a correction of the time does -/

/-- Local time has moved from `before` to what it is in `t`, the guard having been `guard`: on a time that was valid the quarter
instants passed over, those later than the guard and than `before`, are recorded missed, with CHIME, and the guard moves to
the last of them; where there is none the record and the guard stay (R11, R14). -/
def recordsPassed (s t : State) (guard : Option QuarterInstant) (before : LocalTime) : Prop :=
  let after := max ((guard.map QuarterInstant.number).getD 0) before.quarter.number
  let passes := s.tk.timeValid = true ∧ t.localTime.later before = true ∧ after < t.localTime.quarter.number
  (passes → t.tk.guard = some t.localTime.quarter ∧ t.tk.lastMissed = some t.localTime.quarter ∧
    t.tk.missedCount = min 65535 (s.tk.missedCount + (t.localTime.quarter.number - after)) ∧ t.noticedAll .chime) ∧
  (¬passes → t.tk.guard = guard ∧ t.tk.missedCount = s.tk.missedCount ∧ t.tk.lastMissed = s.tk.lastMissed)

/-- A correction that takes `s` to `t` withdraws an hour-ahead that was outstanding, and gives a new one where the new local time
lies in the minute before an hour that is later than the guard. Where it gives none, the clock player's runs from the one
withdrawn have ended, and its other runs go on (R6, R11, R15, R107). -/
def correctsHourAhead (s t : State) : Prop :=
  let l := t.localTime
  let hour := l.nextHour
  let given := t.tk.timeValid = true ∧ l.minute = 59 ∧ hour.laterThan t.tk.guard = true
  (given → t.tk.hourAhead = some
    { date := hour.date, hour := hour.index / 4, count := s.now + (15360 - (l.second * 256 + l.tick)) }) ∧
  (¬given → t.tk.hourAhead = none ∧ ∀ h, s.tk.hourAhead = some h → s.players.held = [] →
    (∀ r, s.players.quarterRun = some r →
      (r.ahead = some h.count → t.players.quarterRun = none) ∧
      (r.ahead ≠ some h.count → ∃ r', t.players.quarterRun = some r' ∧ r'.id = r.id ∧ r'.next = r.next)) ∧
    (∀ r, s.players.hourRun = some r →
      (r.instant = h.count → t.players.hourRun = none) ∧
      (r.instant ≠ h.count → (∀ e ∈ s.engine.queue, e.source ≠ .hour) → t.players.hourRun = some r)))

/-! ## The laws of the data book -/

/-- Every bounded list and counter is within its bound (R14, R20, R85, R97, R128, R146, R149, R166). -/
def boundsLaw (s : State) : Prop :=
  s.engine.queue.length ≤ 48 ∧ s.load.queue.length ≤ 8 ∧ s.clavier.queue.length ≤ 8 ∧ s.swing.runs.length ≤ 8 ∧
    s.swing.history.length ≤ 4 ∧ s.cal.yearRefs.length ≤ 4 ∧ s.tk.missedCount ≤ 65535 ∧ s.clavier.overruns ≤ 65535 ∧
    ∀ r, s.engine.losses.read r ≤ 65535

/-- The flash is in its canonical form. -/
def flashLaw (s : State) : Prop := flashWf s.store.flash = true

/-- The counters hold a date and time of the calendar, the running count 48 bits and the slew 512 ticks (R1, R2, R5). -/
def timeLaw (s : State) : Prop :=
  s.tk.counters.legal = true ∧ s.tk.runCount < 2 ^ 48 ∧ -65536 ≤ s.tk.slew ∧ s.tk.slew ≤ 65536

/-- The law of the strike queue (R85): every entry names a bell whose hammer is fitted, whose swing state is IDLE and which
is not rope-claimed; the queue holds at most 48 entries, in ascending order of their fire times. -/
def strikeQueueLaw (s : State) : Prop :=
  s.engine.queue.length ≤ 48 ∧ s.engine.queue.Pairwise (fun x y => x.fire ≤ y.fire) ∧
    ∀ e ∈ s.engine.queue, (s.config e.bell).hammer = true ∧ s.swingState e.bell = .idle ∧
      (s.claim e.bell).all (fun c => c.kind != .rope) = true

/-- A bell's hammer state is ABSENT exactly where no hammer is fitted (R46, R48, R64). -/
def hammerLaw (s : State) : Prop := ∀ b, (s.bell b).hammer = some .absent ↔ (s.config b).hammer = false

/-- The law of the hammer driver (R88): no bell has two pulses in progress. -/
def driverLaw (s : State) : Prop :=
  ∀ j k x y, s.engine.slots.get j = some x → s.engine.slots.get k = some y → x.bell = y.bell → j = k

/-- The law of the swing motor (R61, R133): a motor line is asserted only in STARTING or RINGING, and only while the hammer
is PARKED. -/
def motorLaw (s : State) : Prop :=
  ∀ b, s.motorLine b = true → (s.swingState b = .starting ∨ s.swingState b = .ringing) ∧ (s.bell b).hammer = some .parked

/-- The park demands follow the swing states and the ROPE claims (R54). -/
def demandLaw (s : State) : Prop :=
  ∀ b, (s.bell b).demands.swing = (s.swingState b).demandsPark ∧
    (s.bell b).demands.rope = (s.claim b).any fun c => c.kind == .rope

/-- The law of the load queue (R166): at most 8 entries, no bell twice, every bell in WAIT-LOAD; each entry holds its bell's
needed load. -/
def loadQueueLaw (s : State) : Prop :=
  s.load.queue.length ≤ 8 ∧ (s.load.queue.map LoadEntry.bell).Nodup ∧
    ∀ e ∈ s.load.queue, s.swingState e.bell = .waitLoad ∧ e.load = s.neededLoad e.bell

/-- The law of the tower load (R151): the committed load never exceeds the capacity. -/
def loadLaw (s : State) : Prop := s.committed ≤ s.load.capacity

/-- Every circuit's shed rank is one of the nine (R150). -/
def ranksLaw (s : State) : Prop := ∀ c, (s.circuit c).config.rank ≤ 8

/-- The law of the dial trains as far as a state shows it (R33 to R38). -/
def dialLaw (s : State) : Prop := ∀ n, (s.dial n).legal s.tk.timeValid = true

/-- Every port's record is within its bounds (R170, R177), and some port holds ADMIN (R174). -/
def linkLaw (s : State) : Prop := (∀ p, (s.port p).legal = true) ∧ ∃ p, s.holds p .admin = true

/-- Every bell's configuration is within R46's ranges. -/
def configLaw (s : State) : Prop := ∀ b, (s.config b).legal = true

end State

end Sys2Proof.Machine
end

