-- ==== Sys2Proof/Certificates/Slice0/Obligations.lean ====
section
/-! DEFINITION. The statements about the part, family by family. -/

section

open Sys2Proof Sys2Proof.Machine

/-! ### The queue, the start state and the links -/

/-- A step runs the command at the front of the queue on the state with the queue's rest. On an empty queue the part idles,
which is the model's own choice (notes/assumptions/2.md). -/
def Obligations.StepTakesTheFrontCommand : Prop :=
  (∀ (c : Instr) (rest : List Instr) (s : State),
    step { s with pending := c :: rest } = exec c { s with pending := rest }) ∧
  ∀ s : State, s.pending = [] → step s = .next s

/-- Every command completes in every state, and takes no command from the queue behind it. -/
def Obligations.EveryCommandCompletes : Prop :=
  ∀ (c : Instr) (s : State), ∃ t, exec c s = .next t ∧ t.pending = s.pending

/-- The laws of the data book hold right after the first cold start. -/
def Obligations.ResetMeetsEveryLaw : Prop :=
  State.reset.boundsLaw ∧ State.reset.flashLaw ∧ State.reset.timeLaw ∧ State.reset.strikeQueueLaw ∧ State.reset.hammerLaw ∧
    State.reset.driverLaw ∧ State.reset.motorLaw ∧ State.reset.demandLaw ∧ State.reset.loadQueueLaw ∧ State.reset.loadLaw ∧
    State.reset.ranksLaw ∧ State.reset.dialLaw ∧ State.reset.linkLaw ∧ State.reset.configLaw

/-- A request that cannot be taken now changes nothing; one that a check of R171 refuses is answered with that check's status
and changes nothing else. The checks come in R171's order; a section that is locked refuses its writes from every port
(R175), and a request whose right the port does not hold is refused (R174).
When a request can be taken is the model's reading (notes/assumptions/3.md). -/
def Obligations.RefusedRequestsChangeNothing : Prop :=
  (∀ (c : Instr) (p : Port) (code : Byte) (l : List Byte) (s : State),
    (c.plainRequest? = some (p, code, l) ∨ ∃ data, c.plainRead? = some (p, code, l, data)) →
      (s.takes p code l = false → exec c s = .next s) ∧
      ∀ x, s.takes p code l = true → s.check p code l = some x → exec c s = .next (s.answers p code x [])) ∧
  (∀ (p : Port) (code : Byte) (l : List Byte) (s : State) (row : RequestRow), requestRow? code.toNat = some row →
    (row.fits l = false → s.check p code l = some .badValue) ∧
    (∀ r, row.fits l = true → row.right = some r → s.holds p r = false → s.check p code l = some .noRight) ∧
    (∀ x, row.fits l = true → (∀ r, row.right = some r → s.holds p r = true) → row.sect = some x → s.locked x = true →
      s.check p code l = some .locked)) ∧
  [0x30, 0x40].all (fun k => (requestRow? k).any fun r => r.sect == some .bells) ∧
  [0x12, 0x63, 0x28, 0x29].all (fun k => (requestRow? k).any fun r => r.sect == some .clock) ∧
  [0x60, 0x61].all (fun k => (requestRow? k).any fun r => r.sect == some .lights) ∧
  [0x18, 0x19, 0x1A, 0x1B].all (fun k => (requestRow? k).any fun r => r.sect == some .calendar) ∧
  [0x70, 0x71, 0x72].all (fun k => (requestRow? k).any fun r => r.sect == some .store) ∧
  [0x05, 0x64].all (fun k => (requestRow? k).any fun r => r.sect == some .admin)

/-- Page 0 of a read without further parameters answers the first page of its data, taken at that instant, and keeps all of it
as the port's snapshot; nothing else changes.
The bytes of the data are the model's coding (notes/assumptions/15.md, 51.md), and so is the order of the slot runs in
GET-SWING's (notes/assumptions/64.md). -/
def Obligations.PlainReadsReturnTheirData : Prop :=
  ∀ (c : Instr) (p : Port) (code : Byte) (l : List Byte) (data : State → List Byte) (s : State),
    c.plainRead? = some (p, code, l, data) → s.accepts p code l → State.readPage l = 0 →
      exec c s = .next (s.answersRead p code l (data (s.takeFrame p false false)))

/-- Page 0 of the reads that name a record returns that record; GET-SENSORS with TAKE clears the change latches too, and
CALENDAR-QUERY answers for any date of the calendar. A page above 0 comes from the snapshot of the same read, which stays;
without such a snapshot it is answered NOT-SET, and at or beyond the count BAD-VALUE.
The bytes of the records are the model's coding (notes/assumptions/15.md, 16.md, 51.md), and that a page at or beyond the count
leaves the snapshot is its choice (notes/assumptions/61.md). -/
def Obligations.ReadsOfARecordAndLaterPages : Prop :=
  (∀ (p : Port) (s : State),
    (∀ i : EntrySlot, s.accepts p 0x1D [BitVec.ofNat 8 i.val, 0] →
      exec (.getEntry p [BitVec.ofNat 8 i.val, 0]) s =
        .next (s.answersRead p 0x1D [BitVec.ofNat 8 i.val, 0] (s.dataEntry i))) ∧
    (∀ n : ProgramNo, s.accepts p 0x1F [BitVec.ofNat 8 n.val, 0] →
      exec (.getProgram p [BitVec.ofNat 8 n.val, 0]) s =
        .next (s.answersRead p 0x1F [BitVec.ofNat 8 n.val, 0] (wProgram (s.cal.programs.get n)))) ∧
    (∀ b : Bell, s.accepts p 0x31 [BitVec.ofNat 8 (b.val + 1), 0] →
      exec (.getBellConfig p [BitVec.ofNat 8 (b.val + 1), 0]) s =
        .next (s.answersRead p 0x31 [BitVec.ofNat 8 (b.val + 1), 0] (wBellConfig (s.config b)))) ∧
    (∀ n : PlanNo, s.accepts p 0x68 [BitVec.ofNat 8 n.val, 0] →
      exec (.getPlan p [BitVec.ofNat 8 n.val, 0]) s =
        .next (s.answersRead p 0x68 [BitVec.ofNat 8 n.val, 0] (wList wStep (s.lights.plans.get n)))) ∧
    (∀ d : Date, d.inCalendar = true → 1900 ≤ d.year → d.year ≤ 2999 → s.accepts p 0x21 (wDate d ++ [0]) →
      exec (.calendarQuery p (wDate d ++ [0])) s = .next (s.answersRead p 0x21 (wDate d ++ [0]) (s.dataQuery d))) ∧
    (s.accepts p 0x33 [0, 0] →
      exec (.getSensors p [0, 0]) s = .next (s.answersRead p 0x33 [0, 0] s.dataSensors)) ∧
    (s.accepts p 0x33 [1, 0] →
      exec (.getSensors p [1, 0]) s = .next (s.takeLatches.answersRead p 0x33 [1, 0] s.dataSensors))) ∧
  ∀ (p : Port) (code : Byte) (l : List Byte) (s : State) (row : RequestRow),
    requestRow? code.toNat = some row → row.read = true → row.fits l = true → State.readPage l ≠ 0 →
    s.takes p code l = true →
      (∀ x, (s.port p).snapshot = some x → x.code = code → x.args = State.readArgs l →
        exec (.readPage p code l) s = .next ((s.answers p code
          (if State.readPage l < pageCount x.data then .ok else .badValue)
          (if State.readPage l < pageCount x.data then pageOf x.data (State.readPage l) else [])).modPort p
            fun r => { r with snapshot := some x })) ∧
      (s.holdsSnapshot p code (State.readArgs l) = false →
        exec (.readPage p code l) s = .next (s.answers p code .notSet []))

/-- The bytes of a frame whose body is a code and parameters, received in HUNT with room in the FIFO, leave that body waiting
to be taken and the receiver in HUNT. A byte with its stop bit low, a byte at a full FIFO, a length of 0 or above 60, a check
byte with a bad sum and a gap discard the frame being received, and are counted with LINK; in HUNT a byte that is not C3h is
discarded and a gap discards nothing.
The order of the tests on a byte is the model's (notes/assumptions/32.md). -/
def Obligations.FramesAreReceivedOrDiscarded : Prop :=
  (∀ (p : Port) (body : List Byte) (s : State), s.power = .on → (s.port p).receiver = .hunt → 1 ≤ body.length →
    body.length ≤ 60 → (s.port p).fifo + body.length + 3 ≤ Config.fifo →
      s.runs ((frameOf body).map fun b => .byteReceived p b true) =
        some (s.modPort p fun r => { r with waiting := r.waiting ++ [body] })) ∧
  ∀ (p : Port) (b : Byte) (s : State),
    (s.power = .on → exec (.byteReceived p b false) s = .next (s.modPort p fun r => r.discarded .framing)) ∧
    (s.power = .on → Config.fifo ≤ (s.port p).fifo →
      exec (.byteReceived p b true) s = .next (s.modPort p fun r => r.discarded .overflow)) ∧
    (s.power = .on → (s.port p).fifo < Config.fifo → (s.port p).receiver = .length → (b = 0 ∨ 60 < b.toNat) →
      exec (.byteReceived p b true) s = .next (s.modPort p fun r => r.discarded .length)) ∧
    (∀ n l, s.power = .on → (s.port p).fifo < Config.fifo → (s.port p).receiver = .check n l →
      (n + (l.map BitVec.toNat).sum + b.toNat) % 256 ≠ 0 →
      exec (.byteReceived p b true) s = .next (s.modPort p fun r => r.discarded .check)) ∧
    (s.power = .on → (s.port p).fifo < Config.fifo → (s.port p).receiver = .hunt → b ≠ 0xC3 →
      exec (.byteReceived p b true) s = .next s) ∧
    ((s.port p).receiver ≠ .hunt → exec (.gapDiscard p) s = .next (s.modPort p fun r => r.discarded .gap)) ∧
    ((s.port p).receiver = .hunt → exec (.gapDiscard p) s = .next s)

/-- The first part of a long request, and each part that follows those held, is gathered and answered OK with the number held;
a part out of sequence is answered BAD-VALUE and the parts are discarded. A code that is no request code is answered
UNKNOWN.
The numbering of the parts is the model's (notes/assumptions/4.md), and so is the response code of a code of 80h or more
(notes/assumptions/67.md). -/
def Obligations.PartsAreGatheredInSequence : Prop :=
  ∀ (p : Port) (code : Byte) (n k : Byte) (share : List Byte) (s : State),
    ((code = 0x61 ∨ code = 0x63) → s.accepts p code (n :: k :: share) → n.toNat < k.toNat →
      (k.toNat ≤ 4 → n = 1 → (s.port p).parts.any (fun x => x.code == code) = false →
        exec (.requestPart p code (n :: k :: share)) s =
          .next ((s.answers p code .ok [1]).modPort p fun r =>
            { r with parts := some { code := code, count := k.toNat, shares := [share] } })) ∧
      (∀ held, k.toNat ≤ 4 → (s.port p).parts = some held → held.code = code → held.count = k.toNat →
        n.toNat = held.shares.length + 1 →
        exec (.requestPart p code (n :: k :: share)) s =
          .next ((s.answers p code .ok [n]).modPort p fun r =>
            { r with parts := some { code := code, count := k.toNat, shares := held.shares ++ [share] } })) ∧
      (∀ held, (s.port p).parts = some held → held.code = code → 1 ≤ held.shares.length →
        (held.count ≠ k.toNat ∨ n.toNat ≠ held.shares.length + 1) →
        exec (.requestPart p code (n :: k :: share)) s = .next (s.answers p code .badValue []))) ∧
    (requestRow? code.toNat = none → s.takes p code share = true →
      exec (.unknownRequest p code share) s = .next (s.answers p code .unknown []))

/-- The requests of the link controller: READ-NOTICES returns and removes the set, SET-MASK, SET-RIGHTS and LOCK write what
they carry, RESTART waits for its response, and a response that has gone is counted and frees the port. While a response
stands, the link sends its frame: C3h, the length of what follows up to the check, the response code, the status, the
payload, and a check that makes the sum from the length on 0 modulo 256; without a response it sends nothing.
That SET-RIGHTS writes the rights when it is taken, before its response has gone, is the model's choice
(notes/assumptions/62.md). -/
def Obligations.LinkRequestsWriteTheirFields : Prop :=
  ∀ (p : Port) (l : List Byte) (s : State),
    (s.accepts p 0x01 l → exec (.readNotices p l) s =
      .next ((s.modPort p fun r => { r with notices := 0 }).answers p 0x01 .ok (le 2 (s.port p).notices.toNat))) ∧
    (∀ m, s.accepts p 0x02 l → readAll rMask l = some m → exec (.setMask p l) s =
      .next ((s.modPort p fun r => { r with mask := m }).answers p 0x02 .ok [])) ∧
    (∀ x, s.accepts p 0x05 l → readAll rSetRights l = some x → exec (.setRights p l) s =
      .next ((s.modLink fun k => { k with ports :=
        { v := { k.ports.v with rights := x.v }, c := { k.ports.c with rights := x.c },
          s := { k.ports.s with rights := x.s } } }).answers p 0x05 .ok [])) ∧
    (∀ x, s.accepts p 0x07 l → readAll rLock l = some x → exec (.lock p l) s =
      .next ((s.modLink fun k => { k with locks := k.locks ||| x }).answers p 0x07 .ok
        (le 1 (s.link.locks ||| x).toNat))) ∧
    (s.accepts p 0x08 l → exec (.restart p l) s =
      .next ((s.modPort p fun r => { r with restart := true }).answers p 0x08 .ok [])) ∧
    (∀ x, (s.port p).response = some x → (s.port p).restart = false → exec (.responseSent p) s =
      .next (s.modPort p fun r =>
        { r with response := none, counters := { r.counters with sent := bump r.counters.sent } })) ∧
    ((s.port p).response = none → (s.port p).sends = []) ∧
    (∀ x, (s.port p).response = some x → ∃ k : Byte,
      (s.port p).sends =
        [0xC3, BitVec.ofNat 8 (x.payload.length + 2), x.code, x.status.code] ++ x.payload ++ [k] ∧
      (x.payload.length + 2 + x.code.toNat + x.status.code.toNat + (x.payload.map BitVec.toNat).sum + k.toNat) % 256 = 0)

/-! ### The supply, the starts and tower time -/

/-- A cold start puts every piece of state at its cold-start value, whatever stood there; only the flash keeps its contents, a
commit that was executing being cut, and the commands that wait stay waiting.
That the cold-start state has its start stages taken already, with CLAIM and MAINS pending, is the model's choice
(notes/assumptions/30.md), and so are the bytes of a slot whose commit is cut (notes/assumptions/8.md). -/
def Obligations.ColdStartClearsEverything : Prop :=
  ∀ s : State, exec .coldStart s =
    .next { State.reset with pending := s.pending, store := .atStart s.cutCommit.store.flash s.cutCommit.store.cuts }

/-- A warm start after a return of mains, by the RESET input or after RESTART's response keeps the retained store and the
counting chain and clears what is on the main supply; it takes a cut impulse to the uncertain flag, raises CLAIM on every
port, and MAINS only after a return of mains. The RESET input clears the section locks, and the other two keep them. A
WARM_START finds nothing to do while the part works. After RESTART's response the responses being sent on other ports go on,
and the other two leave none.
That a WARM_START then does nothing is the model's choice (notes/assumptions/6.md), and so is what RESTART's start makes of a
response on another port (notes/assumptions/63.md); that RESET and RESTART drop all else that a return of mains drops is its
inference (notes/assumptions/46.md). -/
def Obligations.WarmStartKeepsTheRetainedStore : Prop :=
  (∀ s : State, s.power = .on → exec .warmStart s = .next s) ∧
  ∀ (c : Instr) (s : State),
    ((c = .warmStart ∧ s.power ≠ .on) ∨ (c = .resetInput ∧ s.power = .on) ∨
      ∃ p, c = .responseSent p ∧ (s.port p).response.isSome = true ∧ (s.port p).restart = true) →
    ∃ t, exec c s = .next t ∧ t.power = .on ∧ s.keepsRetained t ∧ t.clearsVolatile ∧
      (∀ n, (t.dial n).mode = (s.dial n).mode ∧ (t.dial n).position = (s.dial n).position ∧
        (t.dial n).lastPolarity = (s.dial n).lastPolarity ∧
        (t.dial n).uncertain = ((s.dial n).uncertain || (s.dial n).inFlight)) ∧
      t.tk.dstInForce = s.tk.dstRule.inForceAt s.tk.counters ∧
      t.link.locks = (if c = .resetInput then 0 else s.link.locks) ∧ t.noticedAll .claim ∧
      (∀ p, t.noticed .mains p ↔ c = .warmStart) ∧
      ∀ q, let goesOn := ∃ p, c = .responseSent p ∧ q ≠ p
        (goesOn → (t.port q).response = (s.port q).response ∧ (t.port q).restart = (s.port q).restart) ∧
        (¬goesOn → (t.port q).response = none ∧ (t.port q).restart = false)

/-- When mains goes absent, and when VDD is lost, every drive line and attention line is released and what is on the main
supply is lost; the retained store, the dial marks and the counting chain stay, and the daylight flag and the quarter guard
too. -/
def Obligations.LossOfSupplyReleasesEveryLine : Prop :=
  ∀ (c : Instr) (s : State), (c = .mainsFail ∧ s.power = .on) ∨ c = .lossOfMainSupply →
    ∃ t, exec c s = .next t ∧ t.power = (if c = .mainsFail then .absent else .off) ∧ s.keepsRetained t ∧ t.clearsVolatile ∧
      (∀ b, t.hammerLine b = false ∧ t.parkLine b = false ∧ t.motorLine b = false) ∧
      (∀ n p, t.dialLine n p = false) ∧ (∀ k, t.lightLine k = 0) ∧ (∀ p, t.attention p = false) ∧
      (∀ n, (t.dial n).position = (s.dial n).position ∧ (t.dial n).lastPolarity = (s.dial n).lastPolarity ∧
        (t.dial n).inFlight = (s.dial n).inFlight ∧ (t.dial n).mode = (s.dial n).mode ∧
        (t.dial n).uncertain = (s.dial n).uncertain) ∧
      t.tk.dstInForce = s.tk.dstInForce ∧ t.tk.guard = s.tk.guard ∧ t.link.locks = s.link.locks

/-- A tick end that reaches no boundary, and every tick end while mains is absent, counts and does nothing else: the counters
advance, the slew remainder goes one cycle towards zero, and the running count advances while the part has its supply. At
the last instant that the counters can hold, counting stops and the remainder is zeroed.
That the running count wraps at 2^48 is the model's choice (notes/assumptions/31.md), and that a tick takes a whole step of the
slew (notes/assumptions/25.md). -/
def Obligations.TickBetweenBoundariesOnlyCounts : Prop :=
  ∀ s : State, s.signals = [] →
    (s.tk.counters ≠ .final → (s.tk.counters.tick < 255 ∨ s.power ≠ .on) →
      exec .tickEnd s = .next (s.modTk fun k =>
        { k with
          counters := k.counters.advance
          slew := if k.counters.advance = .final then 0
                  else if 0 < k.slew then k.slew - 1 else if k.slew < 0 then k.slew + 1 else 0
          runCount := if s.power = .on then (k.runCount + 1) % 2 ^ 48 else k.runCount })) ∧
    (s.tk.counters = .final →
      exec .tickEnd s = .next (s.modTk fun k =>
        { k with slew := 0, runCount := if s.power = .on then (k.runCount + 1) % 2 ^ 48 else k.runCount }))

/-- From every date and time that the counters may hold, other than the last, one advance is one tick later, and gives a date
and time that they may hold; the date after a date of the calendar is the next day. -/
def Obligations.CountersAdvanceByOneTick : Prop :=
  (∀ c : Counters, c.legal = true → c ≠ .final → c.advance.legal = true ∧ c.advance.ticks = c.ticks + 1) ∧
  ∀ d : Date, d.inCalendar = true → 1 ≤ d.year →
    d.next.inCalendar = true ∧ d.next.number = d.number + 1 ∧ d.next.weekday = (d.weekday + 1) % 7

/-- The tick end that brings local time to a quarter instant, that of an hour among them, moves the guard to it if the time is
valid and the instant is later than the guard, and leaves the guard otherwise; nothing is recorded missed. A chime of Q1 to
Q3 so announced starts its run, or is lost SILENT or FETCH. A tick end also raises TICK where a tap has its boundary; gives
the hour-ahead at local minute 59, from which the fourth quarter is prepared and the hour strike planned, or both lost SILENT;
announces the date change at local midnight, which chooses the day's program and hands it over; announces the minute, at
which plan steps fall due, overrides end and ringing slots start; and has every dial train evaluated at each half minute.
Where the daylight flag changes at the hour, it follows the rule, with TIME; the quarters that local time passes over are then
recorded missed, with CHIME, the guard moves to the last of them, and no hour-ahead is outstanding.
What an EMPTY guard admits, and the order at one boundary, the flag's change being its last, are the model's reading
(notes/assumptions/11.md, 12.md); that a prepared fourth quarter is the quarter run, with its test fixed then, in place of the
run that stood (notes/assumptions/54.md, 56.md), and that slots are numbered from 1 (notes/assumptions/58.md) are its choice. -/
def Obligations.QuarterInstantsMoveTheGuard : Prop :=
  (∀ s : State, s.power = .on → s.tk.counters.tick = 255 → s.tk.counters.second = 59 →
    (s.tk.counters.minute = 14 ∨ s.tk.counters.minute = 29 ∨ s.tk.counters.minute = 44) →
      ∃ t, exec .tickEnd s = .next t ∧ t.tk.counters = s.tk.counters.advance ∧
        t.tk.guard = (if s.tk.timeValid && t.localTime.quarter.laterThan s.tk.guard then some t.localTime.quarter
                      else s.tk.guard) ∧
        t.localTime.minute % 15 = 0 ∧ t.tk.missedCount = s.tk.missedCount ∧ t.tk.lastMissed = s.tk.lastMissed) ∧
  ∀ s : State, s.power = .on → s.tk.counters.tick = 255 → s.tk.counters ≠ .final →
    let u := s.tk.counters.advance
    let l := u.toLocal s.tk.dstInForce
    let hour := l.nextHour
    let sameFlag := u.second ≠ 0 ∨ u.minute ≠ 0 ∨ s.tk.dstRule.inForceAt u = s.tk.dstInForce
    ∃ t, exec .tickEnd s = .next t ∧ t.tk.counters = u ∧
      (¬sameFlag → t.tk.dstInForce = s.tk.dstRule.inForceAt u ∧ t.noticedAll .time ∧ t.tk.hourAhead = none ∧
        s.recordsPassed t (if s.tk.timeValid && l.quarter.laterThan s.tk.guard then some l.quarter else s.tk.guard) l) ∧
      (∀ p, (match s.tk.taps.get p with
          | .off => False
          | .s1 => True
          | .s15 => l.second % 15 = 0
          | .s60 => l.second = 0
          | .min15 => l.second = 0 ∧ l.minute % 15 = 0) → t.noticed .tick p) ∧
      (sameFlag → u.second = 0 → u.minute % 15 = 0 →
        t.tk.guard = (if s.tk.timeValid && l.quarter.laterThan s.tk.guard then some l.quarter else s.tk.guard) ∧
        t.tk.missedCount = s.tk.missedCount ∧ t.tk.lastMissed = s.tk.lastMissed) ∧
      (∀ (q : Quarter) (pr : Program), q.val < 3 → u.second = 0 → u.minute = 15 * (q.val + 1) → s.tk.timeValid = true →
        l.quarter.laterThan s.tk.guard = true → s.players.program = some pr → (pr.tunes.get q).isSome = true →
        (pr.silentAt l.minuteOfDay = true → s.engine.losses.silent < 65535 →
          t.engine.losses.silent = s.engine.losses.silent + 1) ∧
        (pr.silentAt l.minuteOfDay = false → s.bufferNotes q = none → s.engine.losses.fetch < 65535 →
          t.engine.losses.fetch = s.engine.losses.fetch + 1) ∧
        (∀ notes k b, pr.silentAt l.minuteOfDay = false → s.bufferNotes q = some notes → firstNote? notes = some (k, b) →
          ∃ r, t.players.quarterRun = some r ∧ r.quarter = q ∧ r.start = t.now ∧ r.tempo = pr.tempo ∧
            r.policy = pr.policy ∧ r.maxSlip = pr.maxSlip ∧ r.slip = 0 ∧ r.next = k ∧ r.started = true ∧
            r.handAt = t.now + noteOffset notes pr.tempo k - (s.config b).lead - 512)) ∧
      (u.second = 0 → u.minute = 59 →
        (s.tk.timeValid = true → hour.laterThan s.tk.guard = true →
          t.tk.hourAhead = some { date := hour.date, hour := hour.index / 4, count := t.now + 15360 } ∧
          ∀ pr, s.players.program = some pr →
            (pr.silentAt (hour.index / 4 * 60) = true → s.engine.losses.silent + 2 ≤ 65535 →
              t.engine.losses.silent =
                s.engine.losses.silent + (pr.tunes.get 3).isSome.toNat + pr.hourOn.toNat) ∧
            (∀ notes k b, pr.silentAt (hour.index / 4 * 60) = false → (pr.tunes.get 3).isSome = true →
              s.bufferNotes 3 = some notes → firstNote? notes = some (k, b) → (s.config b).lead ≤ 255 →
              ∃ r, t.players.quarterRun = some r ∧ r.quarter = 3 ∧ r.started = false ∧
                r.start = max (t.now + 15360 - tuneDuration notes pr.tempo - pr.hourGap) (t.now + 768) ∧
                r.testAt = r.start + noteOffset notes pr.tempo k - (s.config b).lead - 512 ∧ r.tempo = pr.tempo) ∧
            (pr.silentAt (hour.index / 4 * 60) = false → pr.hourOn = true → (∀ e ∈ s.engine.queue, e.source ≠ .hour) →
              ∃ r, t.players.hourRun = some r ∧ r.instant = t.now + 15360 ∧ r.start = t.now + 15360 ∧
                r.count = (if hour.index / 4 % 12 = 0 then 12 else hour.index / 4 % 12) ∧ r.bell = pr.hourBell ∧
                r.interval = pr.hourInterval ∧ r.cls = pr.hourClass ∧ r.policy = pr.policy ∧ r.maxSlip = pr.maxSlip ∧
                r.busy = pr.busy ∧ r.slip = 0 ∧ r.next = 0 ∧ r.state = .planned ∧
                r.handAt = t.now + 15360 - (s.config pr.hourBell).lead - 512)) ∧
        (s.tk.timeValid = false ∨ hour.laterThan s.tk.guard = false → t.tk.hourAhead = s.tk.hourAhead)) ∧
      (sameFlag → u.second = 0 → l.minuteOfDay = 0 →
        let choice := s.cal.choose l.date
        let pr := s.cal.programs.get choice.1
        t.cal.day = some { date := l.date, program := choice.1, winner := choice.2, valid := s.tk.timeValid } ∧
        t.players.program = some pr ∧ t.swing.day = some (l.date, pr.slots) ∧ t.lights.plan = pr.plan ∧
        t.lights.handDate = some l.date ∧ t.lights.dateSeen = some l.date ∧ t.lights.valid = s.tk.timeValid) ∧
      (sameFlag → u.second = 0 → t.lights.handDate = some l.date →
        (s.tk.timeValid = true → t.lights.timelineDate = some l.date →
          ∀ x ∈ t.lights.timeline, x.minute ≤ l.minuteOfDay → x.done = true) ∧
        ∀ c o, (t.circuit c).override = some o → o.ends ≠ some l.minuteOfDay) ∧
      (∀ slots, sameFlag → u.second = 0 → s.tk.timeValid = true → t.swing.day = some (l.date, slots) → s.swing.held = [] →
        (∀ g, s.swing.guard = some g → laterMinute (l.date, l.minuteOfDay) g = true) →
        t.swing.guard = some (l.date, l.minuteOfDay) ∧
        ∀ i x, slots[i]? = some x → x.start = l.minuteOfDay →
          (∀ j y, slots[j]? = some y → y.start = l.minuteOfDay → j = i) → s.swing.runs.length < 8 →
          ∃ r ∈ t.swing.runs, r.date = l.date ∧ r.number = i + 1 ∧ r.bells = x.bells ∧ r.start = t.now ∧
            r.ends = t.now + x.duration * 15360) ∧
      (sameFlag → u.second % 30 = 0 → ∀ n, t.dial n = (s.dial n).evaluate l s.tk.timeValid t.now ∧
        ((t.dial n).state ≠ (s.dial n).state → t.noticedAll .dial))

/-- The law of the guard: no command but a cold start takes the quarter guard to an earlier quarter instant. -/
def Obligations.LawOfTheGuard : Prop :=
  ∀ (c : Instr) (s t : State), c ≠ .coldStart → exec c s = .next t →
    t.tk.guard = s.tk.guard ∨
      ∃ q, t.tk.guard = some q ∧ ∀ g, s.tk.guard = some g → g.number < q.number

/-- SET-TIME slews a correction of at most 512 ticks of a valid time that runs, with a remainder of 128 cycles for each tick.
Any other correction steps: the counters take the named instant, the flag is set, the daylight flag follows the rule, TIME
is raised, and on a time that was valid the quarters passed over are recorded missed, with CHIME. An hour-ahead that was
outstanding is withdrawn, which ends the clock player's runs from it and no others, and a new one is given where the new time
lies in the minute before an hour.
What an EMPTY guard counts as missed is the model's reading (notes/assumptions/11.md). -/
def Obligations.SetTimeSlewsOrSteps : Prop :=
  ∀ (p : Port) (l : List Byte) (c : Counters) (s : State), s.accepts p 0x10 l → readAll rSetTime l = some c →
    let delta : Int := (c.ticks : Int) - s.tk.counters.ticks
    (s.tk.timeValid = true → s.tk.counters ≠ .final → -512 ≤ delta → delta ≤ 512 →
      exec (.setTime p l) s =
        .next ((s.modTk fun k => { k with slew := delta * 128 }).answers p 0x10 .ok (le 1 0 ++ leInt 4 delta))) ∧
    ((s.tk.timeValid = false ∨ s.tk.counters = .final ∨ delta < -512 ∨ 512 < delta) →
      ∃ t, exec (.setTime p l) s = .next t ∧
        t.responds p 0x10 .ok (le 1 1 ++ leInt 4 (max (-2147483647) (min 2147483647 delta))) ∧
        t.tk.counters = c ∧ t.tk.divider = 0 ∧ t.tk.slew = 0 ∧ t.tk.timeValid = true ∧
        t.tk.dstInForce = s.tk.dstRule.inForceAt c ∧ t.tk.runCount = s.tk.runCount ∧ t.noticedAll .time ∧
        s.correctsHourAhead t ∧
        s.recordsPassed t s.tk.guard s.localTime)

/-- SET-DST writes the rule and evaluates the in-force flag, and moves local time with TIME where the flag changes, an hour-ahead
that was outstanding being withdrawn and given anew as at a step, and the quarters passed over recorded missed, with CHIME;
where the flag stays, so do the guard and the record. Standard time stays. SET-TICK sets the tap of the port that sends it.
What an EMPTY guard counts as missed is the model's reading (notes/assumptions/11.md). -/
def Obligations.DaylightRuleAndTaps : Prop :=
  ∀ (p : Port) (l : List Byte) (s : State),
    (∀ r, s.accepts p 0x12 l → readAll rSetDst l = some r →
      (∃ t, exec (.setDst p l) s = .next t ∧ t.responds p 0x12 .ok [] ∧ t.tk.dstRule = r ∧
        t.tk.dstInForce = r.inForceAt s.tk.counters ∧ t.tk.counters = s.tk.counters ∧ t.tk.divider = s.tk.divider ∧
        t.tk.slew = s.tk.slew ∧ t.tk.timeValid = s.tk.timeValid ∧ t.tk.runCount = s.tk.runCount ∧
        s.recordsPassed t s.tk.guard s.localTime ∧
        (r.inForceAt s.tk.counters ≠ s.tk.dstInForce → t.noticedAll .time ∧ s.correctsHourAhead t)) ∧
      (r.inForceAt s.tk.counters = s.tk.dstInForce → s.signals = [] →
        exec (.setDst p l) s = .next ((s.modTk fun k => { k with dstRule := r }).answers p 0x12 .ok []))) ∧
    (∀ x, s.accepts p 0x14 l → readAll rSetTick l = some x →
      exec (.setTick p l) s =
        .next ((s.modTk fun k => { k with taps := k.taps.set p x }).answers p 0x14 .ok []))

/-- GET-TIME needs no right: it answers the standard date and time with its tick, the weekday, the local date and time with
its tick, the two flags, the slew remainder, the guard, the missed quarters and the running count, all of one instant.
The bytes of these are the model's coding (notes/assumptions/15.md). -/
def Obligations.GetTimeAnswersTheTowerTime : Prop :=
  ∀ (p : Port) (s : State), s.takes p 0x11 [0] = true →
    exec (.getTime p [0]) s = .next (s.answersRead p 0x11 [0]
      (wTime s.tk.counters ++ le 1 s.tk.counters.date.weekday ++ wLocal (s.tk.counters.toLocal s.tk.dstInForce) ++
        wFlag s.tk.timeValid ++ wFlag s.tk.dstInForce ++ leInt 3 s.tk.slew ++ wOr 5 wQuarter s.tk.guard ++
        le 2 s.tk.missedCount ++ wOr 5 wQuarter s.tk.lastMissed ++ wCount s.tk.runCount))

/-! ### The calendar -/

/-- A FIXED entry matches the dates of its month and day, so one for 29 February matches in leap years and in no other year;
a WEEKDAY entry matches the dates of its weekday, one in each week. -/
def Obligations.FixedAndWeekdayEntriesMatch : Prop :=
  (∀ (refs : List Date) (d : Date) (month day : Nat),
    (EntryKind.fixed month day).matchesDate refs d = true ↔ d.month = month ∧ d.day = day) ∧
  (∀ (refs : List Date) (d : Date), d.inCalendar = true → (EntryKind.fixed 2 29).matchesDate refs d = true →
    isLeap d.year = true) ∧
  (∀ (refs : List Date) (y : Nat), isLeap y = true →
    ∃ d : Date, d.inCalendar = true ∧ d.year = y ∧ (EntryKind.fixed 2 29).matchesDate refs d = true) ∧
  (∀ (refs : List Date) (d : Date) (w : Nat), (EntryKind.weekday w).matchesDate refs d = true ↔ d.weekday = w) ∧
  ∀ (refs : List Date) (d : Date) (w : Nat), d.inCalendar = true → 1 ≤ d.year → w < 7 →
    ∃! k, k < 7 ∧ (EntryKind.weekday w).matchesDate refs (Date.next^[k] d) = true

/-- An NTH entry matches one date in each year: for week n the named weekday at or after day 7(n - 1) + 1 of its month, for
LAST the named weekday at or before the month's last day. -/
def Obligations.NthEntriesMatchOneDateInEachYear : Prop :=
  ∀ (refs : List Date) (y month weekday : Nat), 1900 ≤ y → 1 ≤ month → month ≤ 12 → weekday < 7 →
    (∀ n, 1 ≤ n → n ≤ 4 →
      (∀ d : Date, d.inCalendar = true → d.year = y →
        ((EntryKind.nth (.nth n) weekday month).matchesDate refs d = true ↔
          d.month = month ∧ d.weekday = weekday ∧ 7 * (n - 1) + 1 ≤ d.day ∧ d.day ≤ 7 * (n - 1) + 7)) ∧
      ∃! d : Date, d.inCalendar = true ∧ d.year = y ∧
        (EntryKind.nth (.nth n) weekday month).matchesDate refs d = true) ∧
    (∀ d : Date, d.inCalendar = true → d.year = y →
      ((EntryKind.nth .last weekday month).matchesDate refs d = true ↔
        d.month = month ∧ d.weekday = weekday ∧ daysInMonth y month < d.day + 7)) ∧
    ∃! d : Date, d.inCalendar = true ∧ d.year = y ∧ (EntryKind.nth .last weekday month).matchesDate refs d = true

/-- The choice for a date: the program of the matching entry of highest rank, the lowest slot among equals; program 0 and
DEFAULT where none matches. A YEARREF entry matches the date that lies its offset in days from the reference of the date's own
year, across month ends: one date where that lies within the year, and none where it does not or the year has no reference. -/
def Obligations.ChoiceTakesTheHighestRank : Prop :=
  ∀ (c : Calendar) (d : Date),
    (∀ i e, (i, e) ∈ c.matching d ↔ c.entries.get i = some e ∧ e.kind.matchesDate c.yearRefs d = true) ∧
    (c.matching d = [] → c.choose d = (0, none)) ∧
    (c.matching d ≠ [] → ∃ i e, (i, e) ∈ c.matching d ∧ c.choose d = (e.program, some i) ∧
      ∀ j x, (j, x) ∈ c.matching d → x.rank < e.rank ∨ (x.rank = e.rank ∧ i ≤ j)) ∧
    ∀ (refs : List Date) (o : Int), refs.Pairwise (fun x y => x.year < y.year) →
      ((EntryKind.yearRef o).matchesDate refs d = true ↔
        ∃ r ∈ refs, r.year = d.year ∧ (d.number : Int) = r.number + o) ∧
      ∀ r ∈ refs, ((1 : Int) ≤ r.ordinal + o ∧ (r.ordinal : Int) + o ≤ 365 + (isLeap r.year).toNat) ↔
        ∃! x : Date, x.inCalendar = true ∧ x.year = r.year ∧ (EntryKind.yearRef o).matchesDate refs x = true

/-- SET-YEAR-REF, CLEAR-YEAR-REF and SET-ENTRY write their table, run the choice again for the date of the day in force and
answer the program and winner after it with whether they changed; CLEAR-YEAR-REF of a year that the table does not hold is
answered NOT-SET. Where the program or the winner changes, the new program is handed over to the players, the swing controller and
the lights, and where neither does nothing else changes. SET-PROGRAM writes the record and, if it is in force, hands it over. The
year-reference table never holds a year twice nor more than four: of four other years a new one takes the place of the lowest. -/
def Obligations.CalendarEditsRerunTheChoice : Prop :=
  (∀ (p : Port) (l : List Byte) (s : State),
    let after (c : Calendar) : Option DayInForce :=
      c.day.map fun d => { d with program := (c.choose d.date).1, winner := (c.choose d.date).2 }
    let answer (c : Calendar) : List Byte :=
      wChoice ((after c).map fun d => (d.program, d.winner)) ++ wFlag (decide (after c ≠ c.day))
    let handed (d : DayInForce) (r : Program) (t : State) : Prop :=
      t.players.program = some r ∧ t.swing.day = some (d.date, r.slots) ∧ t.lights.plan = r.plan ∧
        t.lights.handDate = some d.date
    let edited (i : Instr) (code : Byte) (c : Calendar) : Prop :=
      (∃ t, exec i s = .next t ∧ t.cal = { c with day := after c } ∧ t.responds p code .ok (answer c) ∧
        (after c ≠ c.day → ∀ d, after c = some d → handed d (c.programs.get d.program) t)) ∧
      (after c = c.day → s.signals = [] →
        exec i s = .next ((s.modCal fun _ => c).answers p code .ok (answer c)))
    (∀ d, s.accepts p 0x18 l → readAll rDate l = some d →
      edited (.setYearRef p l) 0x18 { s.cal with yearRefs := addRef d s.cal.yearRefs }) ∧
    (∀ y, s.accepts p 0x19 l → readAll rYear l = some y → (∃ d ∈ s.cal.yearRefs, d.year = y) →
      edited (.clearYearRef p l) 0x19 { s.cal with yearRefs := s.cal.yearRefs.filter fun d => d.year != y }) ∧
    (∀ y, s.accepts p 0x19 l → readAll rYear l = some y → (∀ d ∈ s.cal.yearRefs, d.year ≠ y) →
      exec (.clearYearRef p l) s = .next (s.answers p 0x19 .notSet [])) ∧
    (∀ i e, s.accepts p 0x1A l → readAll rSetEntry l = some (i, e) →
      edited (.setEntry p l) 0x1A { s.cal with entries := s.cal.entries.set i e }) ∧
    (∀ n r, s.accepts p 0x1B l → readAll rSetProgram l = some (n, r) →
      let inForce := s.cal.day.any fun d => d.program == n
      (∃ t, exec (.setProgram p l) s = .next t ∧ t.cal = { s.cal with programs := s.cal.programs.set n r } ∧
        t.responds p 0x1B .ok (wFlag inForce) ∧
        (∀ d, s.cal.day = some d → d.program = n → handed d r t)) ∧
      (inForce = false → exec (.setProgram p l) s =
        .next ((s.modCal fun c => { c with programs := c.programs.set n r }).answers p 0x1B .ok (wFlag false))))) ∧
  ∀ (d : Date) (refs : List Date), refs.length ≤ 4 → refs.Pairwise (fun x y => x.year < y.year) →
    (addRef d refs).length ≤ 4 ∧ (addRef d refs).Pairwise (fun x y => x.year < y.year) ∧ d ∈ addRef d refs ∧
      (∀ r ∈ addRef d refs, r = d ∨ r ∈ refs) ∧
      (∀ r ∈ refs, r.year ≠ d.year → r ∈ addRef d refs ∨
        (refs.length = 4 ∧ (∀ x ∈ refs, x.year ≠ d.year) ∧ ∀ x ∈ refs, r.year ≤ x.year))

/-! ### The dial trains -/

/-- SET-DIAL is UNAVAILABLE on an unfitted train, and otherwise records a hand-set position: a train in UNSET takes the mode
RUNNING and is evaluated, with DIAL; one in STOPPED stays so; a train that runs or has an impulse in flight answers BUSY.
SET-DIAL-CONFIG replaces the configuration part, and a change of the fitted flag puts the train in UNSET. A demanded impulse
begins at the catch-up instant, at the other polarity, and an impulse driven for its width moves the position on by one;
before their instants both commands do nothing. At its catch-up instant a CATCHING train is evaluated, also where another
evaluation of that count came first, began the impulse and left it CATCHING; nothing more begins then. DIAL is raised where the
state changes.
That a command before its instant does nothing is the model's choice (notes/assumptions/1.md), and the mark of an evaluation that
is still due is its own (notes/assumptions/68.md). -/
def Obligations.DialsMoveByHandSetsAndImpulses : Prop :=
  ∀ (s : State),
    (∀ p l n x y, s.accepts p 0x29 l → readAll rSetDial l = some (n, x, y) → (s.dial n).fitted = false →
      exec (.setDial p l) s = .next (s.answers p 0x29 .unavailable [])) ∧
    (∀ p l n x y, s.accepts p 0x29 l → readAll rSetDial l = some (n, x, y) → (s.dial n).fitted = true →
      let d := { s.dial n with position := x, lastPolarity := y.getD (s.dial n).lastPolarity, uncertain := false }
      ((s.dial n).mode = .running ∨ (s.dial n).impulse.isSome = true →
        exec (.setDial p l) s = .next (s.answers p 0x29 .busy [])) ∧
      ((s.dial n).mode = .stopped → (s.dial n).impulse = none → exec (.setDial p l) s =
        .next ((s.modDial n fun _ => d).answers p 0x29 .ok (le 1 (s.dial n).state.ctorIdx))) ∧
      ((s.dial n).mode = .unset → (s.dial n).impulse = none →
        ∃ t, exec (.setDial p l) s = .next t ∧ s.changesOnly [.dials, .link] t ∧
          t.dial n = { d with mode := .running }.evaluate s.localTime s.tk.timeValid s.now ∧
          (∀ k, k ≠ n → t.dial k = s.dial k) ∧ t.noticedAll .dial ∧
          t.responds p 0x29 .ok (le 1 (t.dial n).state.ctorIdx))) ∧
    (∀ p l n x, s.accepts p 0x28 l → readAll rSetDialConfig l = some (n, x) →
      let d := { s.dial n with fitted := x.fitted, width := x.width, period := x.period, hold := x.hold }
      (x.fitted ≠ (s.dial n).fitted → (s.dial n).impulse.isSome = true →
        exec (.setDialConfig p l) s = .next (s.answers p 0x28 .busy [])) ∧
      ((x.fitted = (s.dial n).fitted ∨ (s.dial n).impulse = none) →
        let after := if x.fitted = (s.dial n).fitted then d.evaluate s.localTime s.tk.timeValid s.now
                     else { d with
                       mode := .unset, state := .unset, uncertain := false, lag := none, demanded := false
                       catchUpDue := false }
        (after.state = (s.dial n).state →
          exec (.setDialConfig p l) s = .next ((s.modDial n fun _ => after).answers p 0x28 .ok [])) ∧
        ∃ t, exec (.setDialConfig p l) s = .next t ∧ s.changesOnly [.dials, .link] t ∧ t.dial n = after ∧
          (∀ k, k ≠ n → t.dial k = s.dial k) ∧ (after.state ≠ (s.dial n).state → t.noticedAll .dial) ∧
          t.responds p 0x28 .ok [])) ∧
    (∀ (d : Dial) (l : LocalTime) (now : Nat), d.mode = .running → d.state = .catching → d.catchUp ≤ now →
      (d.evaluate l true now).catchUpDue = ((d.evaluate l true now).state == .catching)) ∧
    (∀ n : Train,
      let due := (s.dial n).state = .catching ∧ ((s.dial n).catchUpDue = true ∨ (s.dial n).catchUp ≤ s.now)
      let after := { (s.dial n).evaluate s.localTime s.tk.timeValid s.now with catchUpDue := false }
      (s.now < (s.dial n).catchUp → ¬due → exec (.dialCatchUp (n.val + 1)) s = .next s) ∧
      (due → after.state = (s.dial n).state →
        exec (.dialCatchUp (n.val + 1)) s = .next (s.modDial n fun _ => after)) ∧
      (due → ∃ t, exec (.dialCatchUp (n.val + 1)) s = .next t ∧ s.changesOnly [.dials, .link] t ∧ t.dial n = after ∧
        (∀ k, k ≠ n → t.dial k = s.dial k) ∧ (after.state ≠ (s.dial n).state → t.noticedAll .dial) ∧
        (s.now < (s.dial n).catchUp →
          (t.dial n).impulse = (s.dial n).impulse ∧ (t.dial n).catchUp = (s.dial n).catchUp)) ∧
      ((s.dial n).catchUp ≤ s.now → (s.dial n).state ≠ .catching → (s.dial n).demanded = true → (s.dial n).impulse = none →
        exec (.dialCatchUp (n.val + 1)) s = .next (s.modDial n fun d =>
          { d with
            demanded := false, inFlight := true, lastStart := some s.now, catchUp := s.now + d.period
            impulse := some { polarity := d.lastPolarity.flip, ends := s.now + d.width } })) ∧
      (∀ i, (s.dial n).impulse = some i → i.ends ≤ s.now →
        exec (.impulseEnd (n.val + 1)) s = .next (s.modDial n fun d =>
          { d with
            impulse := none, position := (d.position + 1) % 1440, lastPolarity := i.polarity, inFlight := false })) ∧
      (∀ i, (s.dial n).impulse = some i → s.now < i.ends → exec (.impulseEnd (n.val + 1)) s = .next s))

/-- DIAL-STOP and DIAL-RELEASE need CLOCK and no section; a train number outside 1..4 is BAD-VALUE, an unfitted train
UNAVAILABLE. DIAL-STOP: a running train is stopped with its lag NONE, a demand not begun abandoned and DIAL raised, an impulse
in flight and the catch-up instant left; a stopped or unset train is left as it is, and the answer gives the state and the
position. DIAL-RELEASE: an unset train is NOT-SET; a stopped train takes the mode RUNNING and is evaluated, with DIAL; a
running one is evaluated, and the answer gives the state and lag after the evaluation.
The three choice codes of the lag in that answer are the model's choice (notes/assumptions/51.md), and the bytes of the rest its
coding (notes/assumptions/15.md). -/
def Obligations.DialsAreStoppedAndReleased : Prop :=
  (∀ (p : Port) (b : Byte) (s : State), s.takes p 0x2A [b] = true →
      (s.holds p .clock = false → exec (.dialStop p [b]) s = .next (s.answers p 0x2A .noRight [])) ∧
      (s.holds p .clock = true →
        (b.toNat < 1 ∨ 4 < b.toNat → exec (.dialStop p [b]) s = .next (s.answers p 0x2A .badValue [])) ∧
        ∀ n : Train, b.toNat = n.val + 1 →
          ((s.dial n).fitted = false → exec (.dialStop p [b]) s = .next (s.answers p 0x2A .unavailable [])) ∧
          ((s.dial n).fitted = true → (s.dial n).mode ≠ .running → exec (.dialStop p [b]) s =
            .next (s.answers p 0x2A .ok (le 1 (s.dial n).state.ctorIdx ++ le 2 (s.dial n).position))) ∧
          ((s.dial n).fitted = true → (s.dial n).mode = .running →
            ∃ t, exec (.dialStop p [b]) s = .next t ∧ s.changesOnly [.dials, .link] t ∧
              t.dial n = { s.dial n with
                mode := .stopped, state := .stopped, lag := none, demanded := false, catchUpDue := false } ∧
              (∀ k, k ≠ n → t.dial k = s.dial k) ∧ ((s.dial n).state ≠ .stopped → t.noticedAll .dial) ∧
              t.responds p 0x2A .ok (le 1 DialState.stopped.ctorIdx ++ le 2 (s.dial n).position)))) ∧
  (∀ (p : Port) (b : Byte) (s : State), s.takes p 0x2B [b] = true →
      (s.holds p .clock = false → exec (.dialRelease p [b]) s = .next (s.answers p 0x2B .noRight [])) ∧
      (s.holds p .clock = true →
        (b.toNat < 1 ∨ 4 < b.toNat → exec (.dialRelease p [b]) s = .next (s.answers p 0x2B .badValue [])) ∧
        ∀ n : Train, b.toNat = n.val + 1 →
          ((s.dial n).fitted = false → exec (.dialRelease p [b]) s = .next (s.answers p 0x2B .unavailable [])) ∧
          ((s.dial n).fitted = true → (s.dial n).mode = .unset →
            exec (.dialRelease p [b]) s = .next (s.answers p 0x2B .notSet [])) ∧
          ((s.dial n).fitted = true → (s.dial n).mode ≠ .unset →
            ∃ t, exec (.dialRelease p [b]) s = .next t ∧ s.changesOnly [.dials, .link] t ∧
              t.dial n = { s.dial n with mode := .running }.evaluate s.localTime s.tk.timeValid s.now ∧
              (∀ k, k ≠ n → t.dial k = s.dial k) ∧
              ((s.dial n).mode = .stopped ∨ (t.dial n).state ≠ (s.dial n).state → t.noticedAll .dial) ∧
              t.responds p 0x2B .ok (le 1 (t.dial n).state.ctorIdx ++ wLag (t.dial n)))))

/-- The law of the dial trains: a command other than SET-DIAL changes a train's position only where an impulse that had been
driven for its width ends, by one; a new impulse begins at the polarity opposite to the last one's, and only in RUNNING mode
on a valid time, and its period sets the catch-up instant. Outside the starts, which lose that instant, a new impulse begins
at a running count not before the catch-up instant that stood, so that the starts of impulses are spaced by the period. -/
def Obligations.LawOfTheDialTrains : Prop :=
  ∀ (c : Instr) (s t : State) (n : Train), exec c s = .next t → c ≠ .coldStart → s.dialLaw →
    ((t.dial n).position = (s.dial n).position ∨ (∃ p l, c = .setDial p l) ∨
      (∃ i, (s.dial n).impulse = some i ∧ i.ends ≤ s.now ∧ t.dial n =
        { s.dial n with
          impulse := none, position := ((s.dial n).position + 1) % 1440, lastPolarity := i.polarity
          inFlight := false })) ∧
    (∀ i, (t.dial n).impulse = some i → (s.dial n).impulse = none →
      i.polarity = (t.dial n).lastPolarity.flip ∧ (t.dial n).mode = .running ∧ t.tk.timeValid = true ∧
        (t.dial n).inFlight = true ∧ (t.dial n).lastStart = some t.now ∧ (t.dial n).catchUp = t.now + (t.dial n).period ∧
        i.ends = t.now + (t.dial n).width ∧
        (s.power = .on → c ≠ .resetInput → (∀ p, c = .responseSent p → (s.port p).restart = false) →
          (s.dial n).catchUp ≤ t.now))

/-! ### Sensors, hammers and bells -/

/-- Two agreeing readings give a sensor its debounced state, and a change of a known state sets the latch. A scan does this for
each of the 96 sensors, the lock-out and the mains-present input, and makes the image valid once none of the former is
UNKNOWN; mains-present debounced false stops the part. While mains is absent only the mains-present input is read, and
debounced true it begins a start; without VDD a scan does nothing.
A debounced change acts at once. A hammer moves between PARKING, PARKED, UNPARKING, READY and FAULT as its bell's sensors say,
and its fault takes a swing in PARKING to FAULT with PARK-FAULT, and one in WAIT-LOAD, STARTING or RINGING to FAULT with
HAMMER-LOST, out of the load queue, the motor released, with FAULT and BELL. REST becoming true ends a releasing claim, with CLAIM. A swing pulse counts in STARTING, sets the deadline of
RINGING and the settle end of SETTLING; REST leads from STOPPING to SETTLING once the bell is quiet, and back again. The lock-out
going on parks the hammers and brings the swings down, and going off takes its demand away. At the scan that makes the image
valid every bell takes its first states.
That the edges of a swing count in STARTING only is the model's inference (notes/assumptions/41.md).
What several changes of one scan do is the model's choice (notes/assumptions/40.md, 52.md), and so is what a start makes of a
lock-out that is on (notes/assumptions/48.md) and of a conflict (notes/assumptions/22.md).
What a scan reads without mains is the model's choice (notes/assumptions/5.md, 6.md); that the image does not wait for the
mains-present input is its inference (notes/assumptions/21.md). -/
def Obligations.SensorScanDebounces : Prop :=
  (∀ (x : Sensor) (r : Bool),
    (x.last = some r → x.sample r =
      { last := some r, state := some r, latch := x.latch || (x.state.isSome && x.state != some r) }) ∧
    (x.last ≠ some r → x.sample r = { x with last := some r })) ∧
  ∀ (m : BitVec 96) (lockout mains : Bool) (s : State),
    let x := s.bells.mains.sample mains
    (s.power = .on → x.state = some false → s.bells.mains.state ≠ some false →
      ∃ t, exec (.sensorScan m lockout mains) s = .next t ∧ t.power = .absent ∧ s.keepsRetained t ∧ t.clearsVolatile) ∧
    (s.power = .on → (x.state ≠ some false ∨ s.bells.mains.state = some false) →
      ∃ t, exec (.sensorScan m lockout mains) s = .next t ∧ t.power = .on ∧
        (∀ b, (t.bell b).sensors =
          [(s.bell b).sw.sample (m.getLsbD (4 * b.val)), (s.bell b).rest.sample (m.getLsbD (4 * b.val + 1)),
           (s.bell b).home.sample (m.getLsbD (4 * b.val + 2)), (s.bell b).park.sample (m.getLsbD (4 * b.val + 3))]) ∧
        t.bells.lockout = s.bells.lockout.sample lockout ∧ t.bells.mains = x ∧
        (t.bells.imageValid = true ↔ s.bells.imageValid = true ∨
          (t.bells.lockout.state.isSome = true ∧ ∀ b, ∀ y ∈ (t.bell b).sensors, y.state.isSome = true)) ∧
        let u := s.debounced m lockout mains
        (∀ b, s.onlySensorsOf u b →
          (s.swingState b = .idle → s.claim b = none → s.hammerFollows u t b) ∧ (s.demandLaw → s.swingFollows u t b) ∧
          (s.demandLaw → s.motorLaw → s.load.queue.length < 8 →
            (∀ c, s.claim b = some c → c.releasing = true →
              ¬((u.bell b).rest.state = some true ∧ (s.bell b).rest.state = some false)) →
            s.hammerFollows u t b ∧ s.swingFollowsHammer u t b)) ∧
        (∀ b c, s.claim b = some c →
          let rises := (u.bell b).rest.state = some true ∧ (s.bell b).rest.state = some false
          (c.releasing = true → rises → t.claim b = none ∧ t.noticed .claim c.owner ∧
            (c.kind = .rope → (t.bell b).demands.rope = false)) ∧
          (¬(c.releasing = true ∧ rises) → t.claim b = some c)) ∧
        ((∀ b, s.sameSensors u b) → s.bells.imageValid = true → s.signals = [] →
          (s.bells.lockout.state = some false → u.bells.lockout.state = some true →
            (∀ e ∈ s.load.queue, s.swingState e.bell = .waitLoad) → s.lockOutFollows t) ∧
          (s.bells.lockout.state = some true → u.bells.lockout.state = some false → s.demandLaw → s.lockOutEnds t)) ∧
        (s.bells.imageValid = false → t.bells.imageValid = true → s.signals = [] → s.load.queue = [] →
          ∀ b, s.swingState b = .unreported → s.firstStatesOf u t b)) ∧
    (s.power = .absent → x.state ≠ some true →
      exec (.sensorScan m lockout mains) s = .next (s.modBells fun t => { t with mains := x })) ∧
    (s.power = .absent → x.state = some true →
      exec (.sensorScan m lockout mains) s = exec .warmStart (s.modBells fun t => { t with mains := x })) ∧
    (s.power = .off → exec (.sensorScan m lockout mains) s = .next s)

/-- SET-BELL is refused BUSY on a bell that is not IDLE, on a change of the fitted flag of a hammer that moves or strikes, and
on a change of lead, recovery or widths while a pulse is in flight or an entry queued. Otherwise the configuration part is
replaced; a hammer unfitted becomes ABSENT with its entries purged, and one fitted enters the park machinery. -/
def Obligations.SetBellReplacesTheConfiguration : Prop :=
  ∀ (p : Port) (l : List Byte) (b : Bell) (c : BellConfig) (s : State), s.accepts p 0x30 l →
    readAll rSetBell l = some (b, c) → s.signals = [] →
    let old := s.config b
    let strikes := c.lead ≠ old.lead ∨ c.recovery ≠ old.recovery ∨ c.widths ≠ old.widths
    let moves := (s.bell b).hammer = some .parking ∨ (s.bell b).hammer = some .unparking ∨ s.pulsing b = true
    let queued := ∃ e ∈ s.engine.queue, e.bell = b
    let busy := s.swingState b ≠ .idle ∨ (c.hammer ≠ old.hammer ∧ moves) ∨ (strikes ∧ (s.pulsing b = true ∨ queued))
    (busy → exec (.setBell p l) s = .next (s.answers p 0x30 .busy [])) ∧
    (¬busy → c.hammer = old.hammer → exec (.setBell p l) s =
      .next ((s.modBell b fun r => { r with config := c }).answers p 0x30 .ok (wHammer (s.bell b).hammer))) ∧
    (¬busy → c.hammer = false → old.hammer = true →
      ∃ t, exec (.setBell p l) s = .next t ∧ t.config b = c ∧ (t.bell b).hammer = some .absent ∧ (t.bell b).cause = none ∧
        t.parkLine b = false ∧ t.engine.queue = s.engine.queue.filter (fun e => e.bell != b) ∧ t.noticedAll .bell ∧
        (∀ k, k ≠ b → t.bell k = s.bell k) ∧ t.responds p 0x30 .ok (le 1 Hammer.absent.ctorIdx) ∧
        s.changesOnly [.bells, .engine, .players, .clavier, .link] t) ∧
    (¬busy → c.hammer = true → old.hammer = false →
      let park := (s.bell b).park.state
      let home := (s.bell b).home.state
      let x : Hammer :=
        if park = some true ∧ home = some true then .fault
        else if s.demanded b then (if park = some true then .parked else .parking)
        else if park = some false ∧ home = some true then .ready else .unparking
      ∃ t, exec (.setBell p l) s = .next t ∧ t.config b = c ∧ (t.bell b).hammer = some x ∧
        ((x = .parking ∨ x = .unparking) → (t.bell b).timer = some (s.now + c.parkTimeout * 256)) ∧
        (x = .fault → (t.bell b).cause = some .sensorConflict) ∧ t.noticedAll .bell ∧
        (∀ k, k ≠ b → t.bell k = s.bell k) ∧ t.responds p 0x30 .ok (le 1 x.ctorIdx) ∧
        s.changesOnly [.bells, .link] t)

/-- A park timer that expires in PARKING or UNPARKING faults the hammer with its cause, releases the motor line, and raises
FAULT and BELL; a swing in PARKING then enters FAULT with PARK-FAULT, one in WAIT-LOAD, STARTING or RINGING with HAMMER-LOST,
and both leave the load queue; another swing state stays. Before its instant, or in another state, nothing happens.
That a timer not reached does nothing is the model's choice (notes/assumptions/1.md). -/
def Obligations.ParkTimerFaultsTheHammer : Prop :=
  ∀ (b : Bell) (s : State),
    (∀ n, (s.bell b).timer = some n → n ≤ s.now →
      ((s.bell b).hammer = some .parking ∨ (s.bell b).hammer = some .unparking) →
      ∃ t, exec (.parkTimerExpiry (b.val + 1)) s = .next t ∧ (t.bell b).hammer = some .fault ∧
        (t.bell b).cause = some (if (s.bell b).hammer = some .parking then .parkTimeout else .unparkTimeout) ∧
        (t.bell b).timer = none ∧ t.motorLine b = false ∧ t.noticedAll .fault ∧ t.noticedAll .bell ∧
        (∀ k, (t.bell k).config = (s.bell k).config) ∧
        (s.signals = [] →
          (s.swingState b = .parking → t.swingFaulted b (s.swingRec b) .parkFault) ∧
          (s.swingState b = .waitLoad ∨ s.swingState b = .starting ∨ s.swingState b = .ringing →
            t.swingFaulted b (s.swingRec b) .hammerLost) ∧
          ((s.swingState b ≠ .parking ∧ s.swingState b ≠ .waitLoad ∧ s.swingState b ≠ .starting ∧
              s.swingState b ≠ .ringing) → t.swing = s.swing))) ∧
    (s.signals = [] → ((s.bell b).timer = none ∨ (∃ n, (s.bell b).timer = some n ∧ s.now < n) ∨
        ((s.bell b).hammer ≠ some .parking ∧ (s.bell b).hammer ≠ some .unparking)) →
      exec (.parkTimerExpiry (b.val + 1)) s = .next s)

/-- CLEAR-FAULT of a hammer needs BELLS and no section. A hammer not in FAULT is NOT-SET. One in FAULT is cleared by its demands
and sensors: to PARKED, to PARKING with its timer afresh, to READY, or to PARKED from where it unparks at once if the bell
rests; with PARK and HOME both true, or neither true and no demand, it is UNAVAILABLE and nothing changes.
That the answer gives the state after an unpark of the same event is the model's choice (notes/assumptions/52.md). -/
def Obligations.ClearFaultOfAHammer : Prop :=
  ∀ (p : Port) (n : Byte) (s : State), s.takes p 0x34 [n, 0] = true → s.signals = [] →
    (s.holds p .bells = false → exec (.clearFaultHammer p [n, 0]) s = .next (s.answers p 0x34 .noRight [])) ∧
    (s.holds p .bells = true →
      (n.toNat < 1 ∨ 24 < n.toNat → exec (.clearFaultHammer p [n, 0]) s = .next (s.answers p 0x34 .badValue [])) ∧
      ∀ b : Bell, n.toNat = b.val + 1 →
        let park := (s.bell b).park.state = some true
        let home := (s.bell b).home.state = some true
        ((s.bell b).hammer ≠ some .fault → exec (.clearFaultHammer p [n, 0]) s = .next (s.answers p 0x34 .notSet [])) ∧
        ((s.bell b).hammer = some .fault → ((park ∧ home) ∨ (¬park ∧ ¬home ∧ s.demanded b = false)) →
          exec (.clearFaultHammer p [n, 0]) s = .next (s.answers p 0x34 .unavailable [])) ∧
        ((s.bell b).hammer = some .fault → ¬(park ∧ home) → (park ∨ home ∨ s.demanded b = true) →
          (s.swingState b = .idle ∨ s.swingState b = .stopping ∨ s.swingState b = .settling ∨ s.swingState b = .fault) →
          let x : Hammer :=
            if park then (if s.demanded b = false ∧ (s.bell b).rest.state = some true then .unparking else .parked)
            else if s.demanded b then .parking else .ready
          ∃ t, exec (.clearFaultHammer p [n, 0]) s = .next t ∧ s.changesOnly [.bells, .link] t ∧
            (t.bell b).hammer = some x ∧ (t.bell b).cause = none ∧
            (t.bell b).timer =
              (if x = .parking ∨ x = .unparking then some (s.now + (s.config b).parkTimeout * 256) else none) ∧
            (t.parkLine b = true ↔ x = .parked ∨ x = .parking) ∧ (∀ k, k ≠ b → t.bell k = s.bell k) ∧ t.noticedAll .bell ∧
            t.responds p 0x34 .ok (le 1 x.ctorIdx)))

/-- CLEAR-FAULT of a swing needs SWING and no section. A bell not in FAULT is NOT-SET, and one whose REST is not true
UNAVAILABLE; otherwise the cause becomes NONE and the bell enters SETTLING for its settle time, with BELL. -/
def Obligations.ClearFaultOfASwing : Prop :=
  ∀ (p : Port) (n : Byte) (s : State), s.takes p 0x34 [n, 1] = true →
    (s.holds p .swing = false → exec (.clearFaultSwing p [n, 1]) s = .next (s.answers p 0x34 .noRight [])) ∧
    (s.holds p .swing = true →
      (n.toNat < 1 ∨ 24 < n.toNat → exec (.clearFaultSwing p [n, 1]) s = .next (s.answers p 0x34 .badValue [])) ∧
      ∀ b : Bell, n.toNat = b.val + 1 →
        (s.swingState b ≠ .fault → exec (.clearFaultSwing p [n, 1]) s = .next (s.answers p 0x34 .notSet [])) ∧
        (s.swingState b = .fault → (s.bell b).rest.state ≠ some true →
          exec (.clearFaultSwing p [n, 1]) s = .next (s.answers p 0x34 .unavailable [])) ∧
        (s.swingState b = .fault → (s.bell b).rest.state = some true → s.signals = [] →
          ∃ t, exec (.clearFaultSwing p [n, 1]) s = .next t ∧ t.noticedAll .bell ∧ t.responds p 0x34 .ok [] ∧
            t.swingRec b = { s.swingRec b with
              state := .settling, fault := none, timer := some (s.now + (s.config b).settleTime * 256) } ∧
            (∀ k, k ≠ b → t.swingRec k = s.swingRec k)))

/-- What the reads write of a bell's and a circuit's configuration, of a date, a calendar entry, a plan and a day program,
the requests that set them read back as it was.
The byte coding is the model's (notes/assumptions/15.md, 16.md), and so is the flag of a program's hour strike
(notes/assumptions/51.md). -/
def Obligations.RecordsReadBackAsWritten : Prop :=
  (∀ (b : Bell) (c : BellConfig), c.legal = true → readAll rSetBell (wBell b ++ wBellConfig c) = some (b, c)) ∧
  (∀ (c : Circuit) (k : CircuitConfig), k.weight ≤ 400 → k.rank ≤ 8 → k.floor ≤ 255 → k.fallback ≤ 255 →
    readAll rSetCircuit (le 1 (c.val + 1) ++ wCircuitConfig k) = some (c, k)) ∧
  (∀ d : Date, d.inCalendar = true → 1900 ≤ d.year → d.year ≤ 2999 → readAll rDate (wDate d) = some d) ∧
  (∀ (i : EntrySlot) (e : Entry), e.rank ≤ 15 →
    (match e.kind with
      | .fixed month day => 1 ≤ month ∧ month ≤ 12 ∧ 1 ≤ day ∧ day ≤ longestMonth month
      | .yearRef o => -120 ≤ o ∧ o ≤ 240
      | .weekday w => w ≤ 6
      | .nth week w month =>
        (∀ n, week = .nth n → 1 ≤ n ∧ n ≤ 4) ∧ w ≤ 6 ∧ 1 ≤ month ∧ month ≤ 12) →
    readAll rSetEntry (le 1 i.val ++ wOr 7 wEntry (some e)) = some (i, some e)) ∧
  (∀ i : EntrySlot, readAll rSetEntry (le 1 i.val ++ wOr 7 wEntry none) = some (i, none)) ∧
  (∀ (n : PlanNo) (l : List PlanStep), l.length ≤ 12 →
    (∀ x ∈ l, x.level ≤ 255 ∧ x.ramp ≤ 600 ∧
      match x.trigger with
      | .clock m => m ≤ 1439
      | .sunset o | .sunrise o => -120 ≤ o ∧ o ≤ 120
      | .ringStart | .ringEnd => True) →
    readAll rSetPlan (le 1 n.val ++ wList wStep l) = some (n, l)) ∧
  (∀ (n : ProgramNo) (r : Program), 16 ≤ r.tempo → r.tempo ≤ 255 → r.maxSlip ≤ 255 → 128 ≤ r.hourInterval →
    r.hourInterval ≤ 2048 → r.hourGap ≤ 1023 → 1 ≤ r.hourClass → r.hourClass ≤ 4 → r.silentStart ≤ 1439 →
    r.silentEnd ≤ 1439 → r.slots.length ≤ 4 →
    (∀ x ∈ r.slots, x.start ≤ 1439 ∧ 1 ≤ x.duration ∧ x.duration ≤ 180 ∧ x.stagger ≤ 60) →
    readAll rSetProgram (le 1 n.val ++ wProgram r) = some (n, r))

/-! ### Claims -/

/-- CLAIM is all or nothing: if a bell of the set meets a condition, the request is refused UNAVAILABLE with every such bell and
its first condition, and nothing changes; otherwise every bell of the set is claimed with the kind and a fresh expiry, the
ROPE demands follow, and the entries that the claim does not allow are purged.
The bytes of a set of bells with a code each are the model's choice (notes/assumptions/51.md). -/
def Obligations.ClaimsAreAllOrNothing : Prop :=
  (∀ (p : Port) (k : ClaimKind) (b : Bell) (s : State),
    let held := (s.claim b).any fun c => c.owner == p && c.kind == .rope
    ((∃ c, s.claim b = some c ∧ c.owner ≠ p) → s.claimRefusal p k b = some .owned) ∧
    ((∀ c, s.claim b = some c → c.owner = p) →
      (k = .rope → held = false → s.swingState b ≠ .idle → s.claimRefusal p k b = some .moving) ∧
      (k = .rope → held = false → s.swingState b = .idle → s.lockedOut = true →
        s.claimRefusal p k b = some .lockedOut) ∧
      (k = .chime → held = true → (s.bell b).rest.state ≠ some true → s.claimRefusal p k b = some .notAtRest) ∧
      (k = .rope → (held = true ∨ (s.swingState b = .idle ∧ s.lockedOut = false)) → s.claimRefusal p k b = none) ∧
      (k = .chime → (held = false ∨ (s.bell b).rest.state = some true) → s.claimRefusal p k b = none))) ∧
  ∀ (p : Port) (l : List Byte) (m : BellSet) (k : ClaimKind) (s : State), s.accepts p 0x38 l →
    readAll rClaim l = some (m, k) →
    ((∃ b ∈ bellsOf m, (s.claimRefusal p k b).isSome = true) →
      exec (.claim p l) s = .next (s.answers p 0x38 .unavailable
        (wList (fun y : Bell × ClaimRefusal => wBell y.1 ++ le 1 y.2.ctorIdx)
          ((bellsOf m).filterMap fun b => (s.claimRefusal p k b).map fun c => (b, c))))) ∧
    ((∀ b ∈ bellsOf m, s.claimRefusal p k b = none) → s.demandLaw →
      ∃ t, exec (.claim p l) s = .next t ∧
        (∀ b, t.claim b = if b ∈ bellsOf m then
            some { owner := p, kind := k, expiry := some (s.now + s.claims.hold.get p * 15360), releasing := false }
          else s.claim b) ∧
        (∀ b ∈ bellsOf m, (t.bell b).demands.rope = (k == .rope)) ∧
        (∀ e ∈ t.engine.queue, e ∈ s.engine.queue ∧
          (e.bell ∈ bellsOf m → (s.claim e.bell).any (fun c => c.kind == .rope) = false → k = .rope → False) ∧
          (e.bell ∈ bellsOf m → s.claim e.bell = none → k = .chime → e.port = some p)) ∧
        t.responds p 0x38 .ok
          (wList (fun b => wBell b ++ le 1 (((t.claim b).map fun c => c.kind.ctorIdx).getD 0)) (t.heldBy p)))

/-- RENEW sets the expiry of each bell of the set that the port holds, not releasing, afresh, leaves the others, and answers the
two sets, OK if one was renewed and NOT-SET otherwise. RELEASE ends each claim that the port holds, but a ROPE claim on a
bell not at rest becomes releasing and one that is releasing stays so. A claim whose expiry is reached lapses in the same
way, with CLAIM on its owner's port; before that it stays.
That CLAIM_LAPSE does nothing before the expiry is the model's choice (notes/assumptions/1.md). -/
def Obligations.ClaimsAreRenewedReleasedAndLapse : Prop :=
  (∀ (p : Port) (l : List Byte) (m : BellSet) (s : State), s.accepts p 0x39 l → readAll rBells l = some m →
    let yes (b : Bell) : Bool := (s.claim b).any fun c => c.owner == p && !c.releasing
    ∃ t, exec (.renew p l) s = .next t ∧ s.changesOnly [.claims, .link] t ∧ t.claims.hold = s.claims.hold ∧
      (∀ b, t.claim b = if b ∈ bellsOf m ∧ yes b = true then
          (s.claim b).map fun c => { c with expiry := some (s.now + s.claims.hold.get p * 15360) }
        else s.claim b) ∧
      t.responds p 0x39 (if (bellsOf m).any yes then .ok else .notSet)
        (wBells (bellSetOf ((bellsOf m).filter yes)) ++ wBells (bellSetOf ((bellsOf m).filter fun b => !yes b)))) ∧
  (∀ (p : Port) (l : List Byte) (m : BellSet) (s : State), s.accepts p 0x3A l → readAll rBells l = some m →
    let held (b : Bell) : Bool := (s.claim b).any fun c => c.owner == p
    let stays (b : Bell) : Bool :=
      (s.claim b).any fun c => c.kind == .rope && (c.releasing || (s.bell b).rest.state != some true)
    ∃ t, exec (.release p l) s = .next t ∧
      (∀ b, t.claim b =
        if b ∈ bellsOf m ∧ held b = true then
          (if stays b then (s.claim b).map fun c => { c with expiry := none, releasing := true } else none)
        else s.claim b) ∧
      t.responds p 0x3A (if (bellsOf m).any held then .ok else .notSet)
        (wBells (bellSetOf ((bellsOf m).filter fun b => held b && !stays b)) ++
          wBells (bellSetOf ((bellsOf m).filter fun b => held b && stays b)) ++
          wBells (bellSetOf ((bellsOf m).filter fun b => !held b)))) ∧
  ∀ (b : Bell) (c : Claim) (n : Nat) (s : State), s.claim b = some c → c.expiry = some n →
    (n ≤ s.now → ∃ t, exec (.claimLapse (b.val + 1)) s = .next t ∧ t.noticed .claim c.owner ∧
      t.claim b = (if c.kind = .rope ∧ (c.releasing = true ∨ (s.bell b).rest.state ≠ some true) then
        some { c with expiry := none, releasing := true } else none) ∧
      ∀ k, k ≠ b → t.claim k = s.claim k) ∧
    (s.now < n → s.signals = [] → exec (.claimLapse (b.val + 1)) s = .next s)

/-- SET-CLAIM-HOLD needs CLAIM and no section, and sets the hold time of the port that sends it, clamped to 1 to 60 minutes,
which it answers; a claim taken or renewed then runs that many minutes of 15,360 ticks, and claims already running keep
their expiry. -/
def Obligations.SetClaimHoldIsClamped : Prop :=
  ∀ (p : Port) (a b : Byte) (s : State), s.takes p 0x3B [a, b] = true →
    let n := max 1 (min (a.toNat + 256 * b.toNat) 60)
    (s.holds p .claim = false → exec (.setClaimHold p [a, b]) s = .next (s.answers p 0x3B .noRight [])) ∧
    (s.holds p .claim = true → ∃ t, exec (.setClaimHold p [a, b]) s = .next t ∧
      t = (s.modClaims fun t => { t with hold := t.hold.set p n }).answers p 0x3B .ok (le 2 n) ∧
      t.claimExpiry p = s.now + n * 15360 ∧ (∀ q, q ≠ p → t.claimExpiry q = s.claimExpiry q) ∧
      ∀ k, t.claim k = s.claim k)

/-! ### Strikes -/

/-- The availability question takes the conditions of R65 in their order, the first that holds giving the reason; a claim allows
the owner's port on a CHIME claim, and nobody on a ROPE claim. STRIKE plans one request of source SINGLE: dropped, it is
answered UNAVAILABLE with the reason and counted; queued, it is answered with its onset, fire time and slip, and the arbiter
acts. A planning drops for the availability answer, for a deficit beyond the allowance and for a full queue, in this order; it
slips by the deficit, and a fire time already past becomes now. SET-STRIKE-PRIORITY replaces the priorities.
The 4 bytes of the onset and of the fire time in STRIKE's answer are the model's coding (notes/assumptions/15.md), and that a
strike granted at once takes the free slot of the lowest number is its choice (notes/assumptions/53.md). -/
def Obligations.StrikesArePlanned : Prop :=
  (∀ (port : Option Port) (b : Bell) (s : State),
    let reported := s.bells.imageValid = true ∧ s.swingState b ≠ .unreported
    let hammer := (s.bell b).hammer
    let fitted := reported ∧ hammer ≠ some .absent
    let idle := fitted ∧ s.bells.lockout.state ≠ some true ∧ s.swingState b = .idle
    let allowed := ∀ c, s.claim b = some c → c.kind = .chime ∧ port = some c.owner
    (¬reported → s.availability port b = some .interlock) ∧
    (reported → ¬fitted → s.availability port b = some .noHammer) ∧
    (fitted → ¬idle → s.availability port b = some .interlock) ∧
    (idle → ¬allowed → s.availability port b = some .claimed) ∧
    (idle → allowed → hammer = some .fault → s.availability port b = some .hammerFault) ∧
    (idle → allowed → hammer ≠ some .fault → hammer ≠ some .ready → s.availability port b = some .interlock) ∧
    (idle → allowed → hammer = some .ready → s.availability port b = none)) ∧
  (∀ (r : StrikeRequest) (s : State),
    let lead := (s.config r.bell).lead
    let d := match s.horizon r.bell with
      | some h => h + (s.config r.bell).recovery - r.onset
      | none => 0
    (∀ x, s.availability r.port r.bell = some x → s.planned r = .dropped x) ∧
    (s.availability r.port r.bell = none → d ≠ 0 → (r.policy = .drop ∨ r.allowance < d) →
      s.planned r = .dropped .recovery) ∧
    (s.availability r.port r.bell = none → (d = 0 ∨ (r.policy = .slip ∧ d ≤ r.allowance)) →
      48 ≤ s.engine.queue.length → s.planned r = .dropped .queueFull) ∧
    (s.availability r.port r.bell = none → (d = 0 ∨ (r.policy = .slip ∧ d ≤ r.allowance)) →
      s.engine.queue.length < 48 →
      (s.now + lead ≤ r.onset + d → s.planned r = .queued (r.onset + d) (r.onset + d - lead) d 0) ∧
      (r.onset + d < s.now + lead →
        s.planned r = .queued (s.now + lead) s.now d (s.now + lead - (r.onset + d))))) ∧
  ∀ (p : Port) (l : List Byte) (s : State),
    (∀ b k, s.accepts p 0x4C l → readAll rStrike l = some (b, k) →
      (∀ x, s.availability (some p) b = some x → s.engine.queue = [] → s.signals = [] →
        exec (.strike p l) s = .next ((s.lose x).answers p 0x4C .unavailable (wReason x))) ∧
      (s.availability (some p) b = none → s.horizon b = none → s.engine.queue = [] → s.signals = [] →
        s.freeSlot = none →
        exec (.strike p l) s = .next (((s.modEngine fun e => { e with queue :=
            [{ source := .single, port := some p, bell := b, cls := k, run := none, index := 0,
               onset := s.now + (s.config b).lead, fire := s.now }] }).modBell b fun r =>
            { r with horizon := some (s.now + (s.config b).lead) }).answers p 0x4C .ok
          (le 1 0 ++ le 4 (s.config b).lead ++ le 4 0 ++ le 1 0))) ∧
      (∀ n, s.availability (some p) b = none → s.horizon b = none → s.engine.queue = [] → s.signals = [] →
        s.freeSlot = some n → s.pulsing b = false → (s.bell b).home.state = some true →
        ∃ t, exec (.strike p l) s = .next t ∧ t.engine.queue = [] ∧ t.hammerLine b = true ∧
          t.engine.slots = s.engine.slots.set n (some
            { bell := b, source := .single, port := some p, cls := k, onset := s.now + (s.config b).lead
              ends := s.now + s.pulseWidth b k }) ∧
          t.responds p 0x4C .ok (le 1 0 ++ le 4 (s.config b).lead ++ le 4 0 ++ le 1 0))) ∧
    (∀ x, s.accepts p 0x40 l → readAll rPriorities l = some x →
      exec (.setStrikePriority p l) s =
        .next ((s.modEngine fun e => { e with priorities := x }).answers p 0x40 .ok []))

/-- ENTRY_DUE and WAIT_RECOVERY_MET let the arbiter act. With no slot free or no entry eligible nothing happens. Otherwise the
arbiter attempts the eligible entry whose source has the smallest priority number, among those the one of the earliest fire
time, and among those the one whose bell comes first after the rotation bell, and then acts again on what that leaves. The
attempted entry is granted where the bell is available and its HOME true: it leaves the queue, the
lowest free slot drives the bell for the width of its class, the onset is now plus the lead, and the rotation bell is the
bell; an unavailable one is dropped with the reason, and one whose HOME is not true is dropped HAMMER-FAULT and its hammer
faulted HOME-AT-GRANT.
That the lowest free slot is taken is the model's choice (notes/assumptions/53.md). -/
def Obligations.GrantsDriveTheHammer : Prop :=
  ∀ (c : Instr) (s : State), (c = .entryDue ∨ c = .waitRecoveryMet) → s.signals = [] →
    ((s.freeSlot = none ∨ ∀ e ∈ s.engine.queue, s.eligible e = false) → exec c s = .next s) ∧
    (∀ (e : QueueEntry) (k : HammerSlot), e ∈ s.engine.queue → s.eligible e = true → s.freeSlot = some k →
      (∀ x ∈ s.engine.queue, s.eligible x = true → x = e ∨
        let p := s.engine.priorities.read e.source
        let q := s.engine.priorities.read x.source
        let after (b : Bell) : Nat := (b.val + 23 - s.engine.rotation.val) % 24
        p < q ∨ (p = q ∧ (e.fire < x.fire ∨ (e.fire = x.fire ∧ after e.bell < after x.bell)))) →
      ∃ u, exec c s = exec c u ∧ u.engine.queue = s.engine.queue.erase e ∧
        (∀ x, s.availability e.port e.bell = some x → u.engine.slots = s.engine.slots ∧
          u.engine.rotation = s.engine.rotation ∧ u.bells = s.bells ∧ u.signals = [] ∧
          (s.engine.losses.read x < 65535 → u.engine.losses = s.engine.losses.count x ∧ u.noticedAll .loss)) ∧
        (s.availability e.port e.bell = none → (s.bell e.bell).home.state ≠ some true →
          u.engine.slots = s.engine.slots ∧ u.engine.rotation = s.engine.rotation ∧
            (u.bell e.bell).hammer = some .fault ∧ (u.bell e.bell).cause = some .homeAtGrant ∧
            (∀ b, b ≠ e.bell → u.bell b = s.bell b) ∧ u.noticedAll .fault ∧ u.noticedAll .bell) ∧
        (s.availability e.port e.bell = none → (s.bell e.bell).home.state = some true →
          u.engine.rotation = e.bell ∧ u.engine.losses = s.engine.losses ∧ u.hammerLine e.bell = true ∧ u.signals = [] ∧
            u.engine.slots = s.engine.slots.set k (some
              { bell := e.bell, source := e.source, port := e.port, cls := e.cls
                onset := s.now + (s.config e.bell).lead, ends := s.now + s.pulseWidth e.bell e.cls }) ∧
            u.bells =
              (s.modBell e.bell fun r => { r with lastOnset := some (s.now + (s.config e.bell).lead) }).bells)) ∧
    ∀ (e : QueueEntry) (k : HammerSlot), s.engine.queue = [e] → s.eligible e = true → s.freeSlot = some k →
      (∀ x, s.availability e.port e.bell = some x → ∃ t, exec c s = .next t ∧ t.engine.queue = [] ∧
        t.engine.slots = s.engine.slots ∧ (s.engine.losses.read x < 65535 → t.engine.losses = s.engine.losses.count x) ∧
        (s.engine.losses.read x < 65535 → t.noticedAll .loss)) ∧
      (s.availability e.port e.bell = none → (s.bell e.bell).home.state ≠ some true →
        ∃ t, exec c s = .next t ∧ t.engine.queue = [] ∧ t.engine.slots = s.engine.slots ∧
          (t.bell e.bell).hammer = some .fault ∧ (t.bell e.bell).cause = some .homeAtGrant ∧ t.noticedAll .fault ∧
          t.noticedAll .bell) ∧
      (s.availability e.port e.bell = none → (s.bell e.bell).home.state = some true →
        ∃ t, exec c s = .next t ∧ t.engine.queue = [] ∧ t.engine.rotation = e.bell ∧
          t.engine.slots = s.engine.slots.set k (some
            { bell := e.bell, source := e.source, port := e.port, cls := e.cls
              onset := s.now + (s.config e.bell).lead, ends := s.now + s.pulseWidth e.bell e.cls }) ∧
          t.engine.losses = s.engine.losses ∧ t.hammerLine e.bell = true ∧
          t.bells = (s.modBell e.bell fun r => { r with lastOnset := some (s.now + (s.config e.bell).lead) }).bells ∧
          (∀ x, s.claim e.bell = some x → x.kind = .chime → e.port = some x.owner →
            t.claim e.bell = some { x with expiry := some (s.now + s.claims.hold.get x.owner * 15360) }))

/-- A pulse that reaches its end frees its slot and releases the hammer line, and a READY hammer with a demand then parks; it
changes no onset and no horizon. Before its end nothing happens. An entry at F + 9 is dropped LATE, counted, with no change
of a slot or a horizon; before that none is.
That PULSE_END and LATE_DROP do nothing before their instants is the model's choice (notes/assumptions/1.md), and that one
LATE_DROP drops one entry too (notes/assumptions/28.md). -/
def Obligations.PulsesEndAndLateEntriesDrop : Prop :=
  (∀ (k : HammerSlot) (x : BusySlot) (s : State), s.engine.slots.get k = some x →
    (s.now < x.ends → s.signals = [] → exec (.pulseEnd (k.val + 1)) s = .next s) ∧
    (x.ends ≤ s.now → s.driverLaw → s.signals = [] → s.engine.queue = [] →
      ∃ t, exec (.pulseEnd (k.val + 1)) s = .next t ∧ t.engine.slots = s.engine.slots.set k none ∧
        t.hammerLine x.bell = false ∧ (∀ b, (t.bell b).lastOnset = (s.bell b).lastOnset ∧
          (t.bell b).horizon = (s.bell b).horizon) ∧
        ((s.bell x.bell).hammer = some .ready → s.demanded x.bell = true → s.sensorConflict x.bell = false →
          (s.bell x.bell).park.state ≠ some true →
          (t.bell x.bell).hammer = some .parking ∧ t.noticedAll .bell))) ∧
  ∀ s : State,
    (∀ e ∈ s.engine.queue, s.engine.queue.head? = some e → e.fire + 9 ≤ s.now →
      ∃ t, exec .lateDrop s = .next t ∧ t.engine.queue = s.engine.queue.tail ∧ t.engine.slots = s.engine.slots ∧
        t.bells = s.bells ∧ (s.engine.losses.late < 65535 → t.engine.losses.late = s.engine.losses.late + 1 ∧
          t.noticedAll .loss)) ∧
    ((∀ e ∈ s.engine.queue, s.now < e.fire + 9) → exec .lateDrop s = .next s)

/-- The law of recovery: the onset of a pulse that a command begins comes at least the bell's recovery after the bell's last
struck onset, and becomes the last struck onset. -/
def Obligations.LawOfRecovery : Prop :=
  ∀ (c : Instr) (s t : State) (k : HammerSlot) (x : BusySlot), exec c s = .next t →
    t.engine.slots.get k = some x → s.engine.slots.get k ≠ some x →
    (∀ l, (s.bell x.bell).lastOnset = some l → l + (s.config x.bell).recovery ≤ x.onset) ∧
      (t.bell x.bell).lastOnset = some x.onset

/-- The law of the hammer line: a command that begins a pulse finds the bell IDLE, its hammer READY with HOME true, no lock-out
and a claim that allows the strike; the pulse lasts at most 64 ticks, and no bell gets a second one. -/
def Obligations.LawOfTheHammerLine : Prop :=
  ∀ (c : Instr) (s t : State), exec c s = .next t → s.configLaw → s.driverLaw →
    (∀ k x, t.engine.slots.get k = some x → s.engine.slots.get k ≠ some x →
      s.swingState x.bell = .idle ∧ (s.bell x.bell).hammer = some .ready ∧ (s.bell x.bell).home.state = some true ∧
        s.lockedOut = false ∧ claimAllows (s.claim x.bell) x.port = true ∧ t.now = s.now ∧ t.now < x.ends ∧
        x.ends ≤ t.now + 64 ∧ t.hammerLine x.bell = true) ∧
    t.driverLaw

/-- The law of the strike queue is kept by every step, with the laws that it rests on: a bell's hammer is ABSENT exactly where
none is fitted, and the load queue's bells wait for load. -/
def Obligations.LawOfTheStrikeQueue : Prop :=
  ∀ s t : State, s.strikeQueueLaw → s.hammerLaw → s.loadQueueLaw → step s = .next t →
    t.strikeQueueLaw ∧ t.hammerLaw ∧ t.loadQueueLaw

/-- Each change of a loss counter raises LOSS on all three ports, whatever command makes it, save a start or a loss of the
supply, which lose the counters with all that is on the main supply; a loss is counted once, under its reason, and one that
meets a saturated counter changes nothing. GET-COUNTERS needs no right and answers the nine counters of one instant. -/
def Obligations.LossesRaiseLoss : Prop :=
  (∀ (c : Instr) (s t : State) (r : DropReason), exec c s = .next t →
    t.engine.losses.read r ≠ s.engine.losses.read r → t.noticedAll .loss ∨ t.clearsVolatile) ∧
  (∀ (r : DropReason) (s : State),
    (s.engine.losses.read r < 65535 →
      (s.lose r).engine.losses.read r = s.engine.losses.read r + 1 ∧ (s.lose r).noticedAll .loss ∧
      s.changesOnly [.engine, .link] (s.lose r) ∧
      ∀ x, x ≠ r → ¬(x = .interlock ∧ r = .noHammer) → ¬(x = .noHammer ∧ r = .interlock) →
        (s.lose r).engine.losses.read x = s.engine.losses.read x) ∧
    (s.engine.losses.read r = 65535 → s.lose r = s)) ∧
  ∀ (p : Port) (s : State), s.takes p 0x42 [0] = true →
    let l := s.engine.losses
    exec (.getCounters p [0]) s = .next (s.answersRead p 0x42 [0]
      (le 2 l.recovery ++ le 2 l.late ++ le 2 l.interlock ++ le 2 l.claimed ++ le 2 l.queueFull ++ le 2 l.hammerFault ++
        le 2 l.silent ++ le 2 l.fetch ++ le 2 l.stopped))

/-! ### The chime players -/

/-- The next note of a run is handed over when its instant is reached: it is planned at the run's start plus its offset plus
the slip so far, with the allowance that is left, and its slip is raised by what planning charged. While a note of a bell
1..24 is left, the run stays, its next note is the first such note, the rests before it are counted as skipped, and that
note's instant is fixed at its onset less the lead of its bell as it is now and 512 ticks; with none left a quarter run ends,
and a tune ends COMPLETE with CHIME once none of its notes is queued. The hour strike goes on with its next blow in the same
way; a last blow dropped at its planning ends it, and a first one dropped for availability under DEFER defers it. Before the
instant nothing happens, and under DEFER no blow is handed over while the fate of the first is open. A prepared fourth-quarter
chime starts at its test with its first note of a bell 1..24; it is dropped FETCH where its buffer is not VALID, and ends with no
loss where its buffer is EMPTY.
That a hand-over whose instant is not reached does nothing is the model's choice (notes/assumptions/1.md); so is that a prepared
chime is the quarter run, its test fixed when it is prepared and its first note's instant at the test (notes/assumptions/54.md),
and what it makes of a buffer that has become EMPTY (notes/assumptions/56.md). -/
def Obligations.NotesAreHandedOverInTurn : Prop :=
  (∀ (r : QuarterRun) (n : Note) (b : Bell) (s : State), s.players.quarterRun = some r → r.started = true →
    (s.quarterNotes r)[r.next]? = some n → bellOf? n.bell = some b →
    let notes := s.quarterNotes r
    let x : StrikeRequest :=
      { source := .quarter, port := none, bell := b, cls := n.cls
        onset := r.start + noteOffset notes r.tempo r.next + r.slip
        policy := r.policy, allowance := r.maxSlip - r.slip, run := some r.id, index := r.next }
    let slip := r.slip + (s.planned x).slip
    (s.now < r.handAt → s.signals = [] → exec (.noteHandOver .quarter) s = .next s) ∧
    (r.handAt ≤ s.now → ∃ t, exec (.noteHandOver .quarter) s = .next t ∧
      (∀ onset fire d late, s.planned x = .queued onset fire d late → (t.bell b).horizon = some onset) ∧
      (∀ k c, nextNoteAt notes (r.next + 1) k c →
        ∃ counts : RunCounts, t.players.quarterRun = some { r with
            next := k, slip := slip, counts := counts
            handAt := r.start + noteOffset notes r.tempo k + slip - (s.config c).lead - 512 } ∧
          counts.handed = r.counts.handed + 1 ∧ counts.skipped = r.counts.skipped + (k - (r.next + 1))) ∧
      (noNoteFrom notes (r.next + 1) → t.players.quarterRun = none))) ∧
  (∀ (r : QuarterRun) (s : State), s.players.quarterRun = some r → r.started = false →
    (s.now < r.testAt → s.signals = [] → exec (.noteHandOver .quarter) s = .next s) ∧
    (r.testAt ≤ s.now → (s.bufferNotes r.quarter).isSome = true →
      (∀ k b, nextNoteAt (s.quarterNotes r) r.next k b →
        exec (.noteHandOver .quarter) s = exec (.noteHandOver .quarter) (s.modPlayers fun y => { y with
          quarterRun := some { r with
            started := true, next := k, counts := { r.counts with skipped := r.counts.skipped + (k - r.next) }
            handAt := r.start + noteOffset (s.quarterNotes r) r.tempo k + r.slip - (s.config b).lead - 512 } })) ∧
      (noNoteFrom (s.quarterNotes r) r.next → ∃ t, exec (.noteHandOver .quarter) s = .next t ∧
        t.players.quarterRun = none)) ∧
    (r.testAt ≤ s.now → s.bufferNotes r.quarter = none → s.signals = [] →
      let ended := s.modPlayers fun y => { y with quarterRun := none }
      ((s.players.buffers.get r.quarter).state ≠ .empty →
        exec (.noteHandOver .quarter) s = .next (ended.lose .fetch)) ∧
      ((s.players.buffers.get r.quarter).state = .empty → exec (.noteHandOver .quarter) s = .next ended))) ∧
  (∀ (r : HourRun) (s : State), s.players.hourRun = some r → r.state ≠ .deferred → r.next < r.count →
    let x : StrikeRequest :=
      { source := .hour, port := none, bell := r.bell, cls := r.cls, onset := r.start + r.next * r.interval + r.slip
        policy := r.policy, allowance := r.maxSlip - r.slip, run := some r.id, index := r.next }
    let slip := r.slip + (s.planned x).slip
    let undisturbed := s.freeSlot = none ∧ s.signals = []
    (s.now < r.handAt → s.signals = [] → exec (.noteHandOver .hour) s = .next s) ∧
    (r.busy = .defer → r.firstOpen = true → s.signals = [] → exec (.noteHandOver .hour) s = .next s) ∧
    (r.handAt ≤ s.now → (r.busy = .defer → r.firstOpen = false) → ∃ t, exec (.noteHandOver .hour) s = .next t ∧
      (∀ onset fire d late, s.planned x = .queued onset fire d late → (t.bell r.bell).horizon = some onset) ∧
      ((r.next + 1 < r.count ∧ ∀ e ∈ s.engine.queue, e.source ≠ .hour) ∨
          (undisturbed ∧ (s.planned x).isQueued = true) →
        ∃ r', t.players.hourRun = some r' ∧ (r'.state = .deferred → r.next = 0)) ∧
      (∀ r', t.players.hourRun = some r' → r'.id = r.id ∧ r'.count = r.count ∧ r'.start = r.start ∧
        r'.next = r.next + 1 ∧ r'.slip = slip ∧
        r'.handAt = r.start + (r.next + 1) * r.interval + slip - (s.config r.bell).lead - 512 ∧
        (r'.state = .striking ∨ (r'.state = .deferred ∧ r.busy = .defer)) ∧
        (undisturbed → r'.firstOpen = if r.next = 0 then (s.planned x).isQueued else r.firstOpen)) ∧
      (∀ d, s.planned x = .dropped d → (∀ e ∈ s.engine.queue, e.source ≠ .hour) →
        let defers := r.next = 0 ∧ r.busy = .defer ∧
          (d = .noHammer ∨ d = .interlock ∨ d = .claimed ∨ d = .hammerFault)
        (defers → ∃ r', t.players.hourRun = some r' ∧ r'.id = r.id ∧ r'.state = .deferred ∧ r'.reason = some d ∧
          r'.testAt = s.now + 256) ∧
        (¬defers → r.next + 1 < r.count → ∃ r', t.players.hourRun = some r' ∧ r'.id = r.id ∧ r'.state = .striking ∧
          r'.dropped = r.dropped + 1) ∧
        (¬defers → r.next + 1 = r.count → t.players.hourRun = none ∧ t.players.lastHour =
          some { hour := r.hour, granted := r.granted, dropped := r.dropped + 1, expired := none })))) ∧
  ∀ (r : RequestRun) (y : Tune) (n : Note) (b : Bell) (s : State), s.players.request.run = some r → r.tune = some y →
    y.notes[r.next]? = some n → bellOf? n.bell = some b →
    let tempo := r.tempo.getD y.tempo
    let x : StrikeRequest :=
      { source := .tune, port := some r.owner, bell := b, cls := n.cls
        onset := r.start + noteOffset y.notes tempo r.next + r.slip
        policy := r.policy.getD .slip, allowance := r.maxSlip - r.slip, run := some r.id, index := r.next }
    let slip := r.slip + (s.planned x).slip
    (s.now < r.handAt → s.signals = [] → exec (.noteHandOver .request) s = .next s) ∧
    (r.handAt ≤ s.now → ∃ t, exec (.noteHandOver .request) s = .next t ∧
      (∀ onset fire d late, s.planned x = .queued onset fire d late → (t.bell b).horizon = some onset) ∧
      (∀ k c, nextNoteAt y.notes (r.next + 1) k c →
        ∃ (counts : RunCounts) (queued : Nat), t.players.request.state = .playing ∧
          t.players.request.run = some { r with
            next := k, slip := slip, counts := counts, queued := queued
            handAt := r.start + noteOffset y.notes tempo k + slip - (s.config c).lead - 512 } ∧
          counts.handed = r.counts.handed + 1 ∧ counts.skipped = r.counts.skipped + (k - (r.next + 1))) ∧
      (noNoteFrom y.notes (r.next + 1) →
        (t.players.request.state = .idle ∧ t.players.request.run = none ∧ t.noticed .chime r.owner ∧
          t.players.request.last.any (fun y => y.cause == .complete) = true) ∨
        (t.players.request.state = .playing ∧ ∃ r', t.players.request.run = some r' ∧ r'.id = r.id ∧
          r'.next = y.notes.length ∧ 0 < r'.queued)))

/-- A deferred hour strike tests its bell: unavailable, it keeps the new reason and waits 256 ticks more; available, it
restarts now: its start is now plus the lead, its slip 0, and its first blow is planned at once with that onset; while a blow
is left the run goes on with blow 1, with its count as before. 153,600 ticks after its hour it is given up, recorded with its
reason, and CHIME raised. Before these instants nothing happens.
That DEFER_TEST and DEFER_EXPIRED do nothing before their instants is the model's choice (notes/assumptions/1.md). -/
def Obligations.DeferredStrikesRestartOrExpire : Prop :=
  ∀ (r : HourRun) (s : State), s.players.hourRun = some r → r.state = .deferred →
    let lead := (s.config r.bell).lead
    let x : StrikeRequest :=
      { source := .hour, port := none, bell := r.bell, cls := r.cls, onset := s.now + lead
        policy := r.policy, allowance := r.maxSlip, run := some r.id, index := 0 }
    (∀ x, r.testAt ≤ s.now → s.availability none r.bell = some x → s.signals = [] →
      exec .deferTest s = .next (s.modPlayers fun y =>
        { y with hourRun := some { r with reason := some x, testAt := r.testAt + 256 } })) ∧
    (r.testAt ≤ s.now → s.availability none r.bell = none →
      ∃ t, exec .deferTest s = .next t ∧
        (∀ onset fire d late, s.planned x = .queued onset fire d late → (t.bell r.bell).horizon = some onset) ∧
        ((1 < r.count ∧ ∀ e ∈ s.engine.queue, e.source ≠ .hour) ∨
            (s.freeSlot = none ∧ s.signals = [] ∧ (s.planned x).isQueued = true) →
          ∃ r', t.players.hourRun = some r') ∧
        (∀ r', t.players.hourRun = some r' → r'.id = r.id ∧ r'.instant = r.instant ∧ r'.next = 1 ∧
          r'.start = s.now + lead ∧ r'.count = r.count ∧ r'.interval = r.interval ∧ r'.slip = (s.planned x).slip ∧
          r'.handAt = s.now + lead + r.interval + (s.planned x).slip - lead - 512 ∧
          (r'.state = .striking ∨ (r'.state = .deferred ∧ r.busy = .defer))) ∧
        (s.freeSlot = none → s.signals = [] → ∀ onset fire d late, s.planned x = .queued onset fire d late →
          t.engine.queue.length = s.engine.queue.length + 1 ∧ ∃ e ∈ t.engine.queue,
            e.source = .hour ∧ e.bell = r.bell ∧ e.cls = r.cls ∧ e.onset = onset ∧ e.fire = fire)) ∧
    (s.now < r.testAt → s.signals = [] → exec .deferTest s = .next s) ∧
    (r.instant + 153600 ≤ s.now →
      exec .deferExpired s = .next ((s.modPlayers fun y => { y with
        hourRun := none
        lastHour := some { hour := r.hour, granted := r.granted, dropped := r.dropped, expired := r.reason } }).raiseAll
          .chime)) ∧
    (s.now < r.instant + 153600 → exec .deferExpired s = .next s)

/-- TUNE-PLAY is refused NOT-SET for a timed start without a valid time, and BUSY while the player is not IDLE; taken, it asks
the store for the slot, answers TAKEN, and becomes the port's outstanding request. TUNE-STOP is NOT-SET when IDLE, leaves a
stop pending in FETCHING, and otherwise returns the player to IDLE with its queued notes purged and CHIME on its owner.
The 4 bytes of the ticks to the start in TUNE-PLAY's answer are the model's coding (notes/assumptions/15.md). -/
def Obligations.TunesAreStartedAndStopped : Prop :=
  ∀ (p : Port) (l : List Byte) (s : State),
    (∀ x, s.accepts p 0x48 l → readAll rTunePlay l = some x →
      (x.start.isSome = true → s.tk.timeValid = false → exec (.tunePlay p l) s = .next (s.answers p 0x48 .notSet [])) ∧
      ((x.start = none ∨ s.tk.timeValid = true) → s.players.request.state ≠ .idle →
        exec (.tunePlay p l) s = .next (s.answers p 0x48 .busy [])) ∧
      ((x.start = none ∨ s.tk.timeValid = true) → s.players.request.state = .idle →
        let wait := match x.start with
          | none => 0
          | some n => (n * 256 + 22118400 - s.localTime.tickOfDay) % 22118400
        exec (.tunePlay p l) s = .next ((((s.modPlayers fun y => { y with
            request :=
              { state := .fetching, last := none
                run := some
                  { id := y.nextRun, owner := p, slot := x.slot, tempo := x.tempo, policy := x.policy
                    maxSlip := x.maxSlip, start := s.now + wait, tune := none, slip := 0, next := 0, counts := .zero
                    queued := 0, stopPending := none, handAt := 0 } }
            nextRun := y.nextRun + 1 }).enqueueStoreOp (.playFetch x.slot)).modPort p fun r =>
              { r with outstanding := some 0x48 }).answers p 0x48 .taken
                (le 4 wait ++ wOpt 2 x.tempo ++ le 2 x.maxSlip)))) ∧
    (s.accepts p 0x49 l →
      (s.players.request.state = .idle → exec (.tuneStop p l) s = .next (s.answers p 0x49 .notSet [])) ∧
      (s.players.request.state = .fetching → ∃ t, exec (.tuneStop p l) s = .next t ∧ t.responds p 0x49 .ok [] ∧
        t.players.request.state = .fetching ∧ t.store = s.store ∧
        t.players.request.run = s.players.request.run.map (fun r =>
          { r with stopPending := some (r.stopPending.getD .stopped) })) ∧
      (∀ r, (s.players.request.state = .waiting ∨ s.players.request.state = .playing) →
        s.players.request.run = some r →
        ∃ t, exec (.tuneStop p l) s = .next t ∧ t.responds p 0x49 .ok [] ∧ t.players.request.state = .idle ∧
          t.players.request.run = none ∧ t.players.request.last.any (fun y => y.cause == .stopped) = true ∧
          t.engine.queue = s.engine.queue.filter (fun e => e.source != .tune) ∧ t.noticed .chime r.owner))

/-- TOLL-START replaces the port's toll run by one whose first instant is now. At an instant a blow is planned at the instant
plus the lead, the next instant comes one interval later, and the remaining count falls by one; before it, and once nothing
remains, nothing is handed over.
That a TOLL_INSTANT before its instant, or with nothing remaining, does nothing is the model's choice (notes/assumptions/1.md). -/
def Obligations.TollsKeepTheirBeat : Prop :=
  ∀ (p : Port) (s : State),
    (∀ l x, s.accepts p 0x4A l → readAll rTollStart l = some x →
      exec (.tollStart p l) s = .next ((s.modPlayers fun y => { y with
        tolls := y.tolls.set p (some
          { id := y.nextRun, bell := x.bell, interval := x.interval * 256, cls := x.cls
            remaining := if x.count = 0 then none else some x.count, next := s.now, handed := 0, granted := 0
            dropped := 0, queued := 0 })
        nextRun := y.nextRun + 1 }).answers p 0x4A .ok (le 1 (s.players.tolls.get p).isSome.toNat))) ∧
    ∀ r, s.players.tolls.get p = some r →
      let x : StrikeRequest :=
        { source := .toll, port := some p, bell := r.bell, cls := r.cls, onset := r.next + (s.config r.bell).lead
          policy := .slip, allowance := 64, run := some r.id, index := r.handed }
      ((s.now < r.next ∨ r.remaining = some 0) → s.signals = [] → exec (.tollInstant p) s = .next s) ∧
      (r.next ≤ s.now → r.remaining ≠ some 0 → ∃ t, exec (.tollInstant p) s = .next t ∧
        (∀ onset fire d late, s.planned x = .queued onset fire d late → (t.bell r.bell).horizon = some onset) ∧
        (∀ r', t.players.tolls.get p = some r' → r'.next = r.next + r.interval ∧ r'.handed = r.handed + 1 ∧
          r'.remaining = r.remaining.map (fun n => n - 1)) ∧
        (t.players.tolls.get p = none → r.remaining = some 1 ∧ t.noticed .chime p))

/-- TOLL-STOP needs STRIKE and acts on the sending port's run: without one it is NOT-SET; otherwise the run ends, its queued
entries are purged STOPPED, and the answer gives the counts. Another port's toll is not touched, and no CHIME is raised.
That the count of dropped blows includes the purged ones is the model's inference (notes/assumptions/43.md), and the 4 bytes
of each count its coding (notes/assumptions/15.md). -/
def Obligations.TollStopEndsThePortsToll : Prop :=
  ∀ (p : Port) (s : State), s.takes p 0x4B [] = true →
    (s.holds p .strike = false → exec (.tollStop p []) s = .next (s.answers p 0x4B .noRight [])) ∧
    (s.holds p .strike = true →
      (s.players.tolls.get p = none → exec (.tollStop p []) s = .next (s.answers p 0x4B .notSet [])) ∧
      (∀ r, s.players.tolls.get p = some r →
        ∃ t, exec (.tollStop p []) s = .next t ∧
          t.players = { s.players with tolls := s.players.tolls.set p none } ∧
          t.engine.queue = s.engine.queue.filter (fun e => !(e.source == .toll && e.port == some p)) ∧
          (s.engine.losses.stopped ≤ 65535 → t.engine.losses.stopped = min 65535 (s.engine.losses.stopped +
            (s.engine.queue.filter fun e => e.source == .toll && e.port == some p).length)) ∧
          t.responds p 0x4B .ok (le 4 r.handed ++ le 4 r.granted ++ le 4 (r.dropped + r.queued)) ∧
          s.changesOnly [.players, .engine, .link] t ∧ (∀ q, t.noticed .chime q ↔ s.noticed .chime q)))

/-! ### The clavier -/

/-- SET-CLAVIER comes from a port with ADMIN, or with STRIKE from the bound port where the binding stays; rebinding is refused
LOCKED while ADMIN is locked. It writes mode, class and binding; a change of mode frees the arbiter and ignores the keys held;
a newly bound port gets KEYS where entries wait.
The order of the checks is the model's (notes/assumptions/38.md). -/
def Obligations.SetClavierWritesTheSettings : Prop :=
  ∀ (p : Port) (l : List Byte) (s : State) (mode : KeyMode) (cls : Nat) (binding : Option Port), s.accepts p 0x50 l →
    readAll rSetClavier l = some (mode, cls, binding) →
    let rebinds := binding ≠ s.clavier.binding
    let may := s.holds p .admin = true ∨ (¬rebinds ∧ s.clavier.binding = some p ∧ s.holds p .strike = true)
    (¬may → exec (.setClavier p l) s = .next (s.answers p 0x50 .noRight [])) ∧
    (may → rebinds → s.locked .admin = true → exec (.setClavier p l) s = .next (s.answers p 0x50 .locked [])) ∧
    (may → (rebinds → s.locked .admin = false) →
      ∃ t, exec (.setClavier p l) s = .next t ∧ s.changesOnly [.clavier, .link] t ∧
        t.responds p 0x50 .ok (le 1 mode.ctorIdx ++ le 1 cls ++ wPortOr binding) ∧
        t.clavier = { s.clavier with
          mode := mode, cls := cls, binding := binding
          arbiter := if mode = s.clavier.mode then s.clavier.arbiter else .free
          keys := if mode = s.clavier.mode then s.clavier.keys
                  else s.clavier.keys.map fun k => if k.state = some true then { k with condition := .ignored } else k } ∧
        (∀ q, rebinds → binding = some q → s.clavier.queue ≠ [] → t.noticed .keys q))

/-- A scan of the clavier debounces every key and the pedal. A bell key n that alone becomes CLOSED, in ROLLOVER or with the
arbiter FREE, registers, and asks for a strike of bell n, as source CLAVIER with the bound port, of the clavier's class or one
more with the pedal down, its onset now plus the lead, with SLIP of up to 64 ticks; it is queued or dropped as planning says, and
driven where a slot is free and the bell can be struck. A function key likewise makes an entry, or sets the overrun flag
on a full queue. In ROLLOVER every key 1 to 31 that becomes CLOSED registers. In the lockout, two or more that become CLOSED
with the arbiter FREE contend and none registers; with it HELD they are IGNORED, and the held key's opening frees it; with it
CONTENDED they join the set, a key that opens leaves it, and the last one left registers. Key 32 becoming CLOSED is ALL-STOP:
no entry stays queued and no run goes on.
That ALL-STOP comes after the other keys of its scan is the model's choice (notes/assumptions/33.md), and so are the slot of a
strike granted at once, the free one of the lowest number (notes/assumptions/53.md), and that the counts of bell keys and of
ALL-STOP have no largest value (notes/assumptions/57.md). -/
def Obligations.ClavierScanRegistersKeys : Prop :=
  ∀ (keys : BitVec 32) (pedal : Bool) (s : State), s.power = .on →
    let now (k : Fin 32) : Key := (s.clavier.keys.get k).sample (keys.getLsbD k.val)
    let closes (k : Fin 32) : Bool := becameTrue (s.clavier.keys.get k).state (now k).state
    let opens (k : Fin 32) : Bool := becameFalse (s.clavier.keys.get k).state (now k).state
    let entry (k : Fin 32) : KeyEntry :=
      { key := k.val + 1, pedal := (s.clavier.pedal.sample pedal).state == some true, hour := s.localTime.hour
        minute := s.localTime.minute, second := s.localTime.second, tick := s.localTime.tick, valid := s.tk.timeValid }
    ∃ t, exec (.clavierScan keys pedal) s = .next t ∧
      (∀ k, (t.clavier.keys.get k).last = some (keys.getLsbD k.val) ∧ (t.clavier.keys.get k).state = (now k).state) ∧
      t.clavier.pedal = s.clavier.pedal.sample pedal ∧
      (∀ k : Fin 32, closes k = true → (∀ j, j ≠ k → closes j = false) → k.val < 31 →
        (s.clavier.mode = .rollover ∨ s.clavier.arbiter = .free) →
        (t.clavier.keys.get k).condition = .registered ∧
        (s.clavier.mode = .lockout → t.clavier.arbiter = .held k) ∧
        (k.val < 24 → t.clavier.registered = s.clavier.registered + 1 ∧ t.clavier.queue = s.clavier.queue ∧
          t.clavier.queued + t.clavier.dropped ≥ s.clavier.queued + s.clavier.dropped + 1) ∧
        (∀ b : Bell, b.val = k.val →
          let cls := s.clavier.cls + (t.clavier.pedal.state == some true).toNat
          let x : StrikeRequest :=
            { source := .clavier, port := s.clavier.binding, bell := b, cls := cls, onset := s.now + (s.config b).lead
              policy := .slip, allowance := 64, run := none, index := 0 }
          (∀ onset fire d late, s.planned x = .queued onset fire d late →
            t.clavier.queued = s.clavier.queued + 1 ∧ (t.bell b).horizon = some onset ∧
            (s.freeSlot = none → s.signals = [] → t.engine.queue = insertEntry
              { source := .clavier, port := s.clavier.binding, bell := b, cls := cls, run := none, index := 0
                onset := onset, fire := fire } s.engine.queue)) ∧
          (∀ y, s.planned x = .dropped y → t.clavier.queued = s.clavier.queued ∧
            (s.freeSlot = none → s.signals = [] → t.engine.queue = s.engine.queue ∧
              (s.engine.losses.read y < 65535 → t.engine.losses = s.engine.losses.count y ∧ t.noticedAll .loss))) ∧
          (∀ n, s.availability s.clavier.binding b = none → s.horizon b = none → s.engine.queue = [] → s.signals = [] →
            s.freeSlot = some n → s.pulsing b = false → (s.bell b).home.state = some true →
            t.engine.queue = [] ∧ t.engine.slots = s.engine.slots.set n (some
              { bell := b, source := .clavier, port := s.clavier.binding, cls := cls, onset := s.now + (s.config b).lead
                ends := s.now + s.pulseWidth b cls }))) ∧
        (24 ≤ k.val → s.clavier.queue.length < 8 → t.clavier.queue = s.clavier.queue ++
          [{ key := k.val + 1, pedal := t.clavier.pedal.state == some true, hour := s.localTime.hour
             minute := s.localTime.minute, second := s.localTime.second, tick := s.localTime.tick
             valid := s.tk.timeValid }]) ∧
        (24 ≤ k.val → 8 ≤ s.clavier.queue.length → t.clavier.queue = s.clavier.queue ∧ t.clavier.overrun = true) ∧
        (24 ≤ k.val → ∀ q, s.clavier.binding = some q → t.noticed .keys q)) ∧
      (s.clavier.mode = .rollover →
        (∀ k : Fin 32, closes k = true → k.val < 31 → (t.clavier.keys.get k).condition = .registered) ∧
        t.clavier.arbiter = s.clavier.arbiter ∧
        t.clavier.registered = s.clavier.registered +
          ((List.finRange 32).filter fun k => closes k && decide (k.val < 24)).length) ∧
      (s.clavier.mode = .lockout →
        let closed := (List.finRange 32).filter fun k => closes k && decide (k.val < 31)
        let all (x : KeyCondition) : Prop := ∀ k ∈ closed, (t.clavier.keys.get k).condition = x
        let quiet : Prop := t.clavier.registered = s.clavier.registered ∧ t.clavier.queue = s.clavier.queue
        (s.clavier.arbiter = .free → 2 ≤ closed.length → all .contending ∧ quiet ∧ t.clavier.arbiter = .contended closed) ∧
        (∀ j, s.clavier.arbiter = .held j → j.val < 31 →
          all .ignored ∧ quiet ∧ t.clavier.arbiter = if opens j then .free else .held j) ∧
        (∀ l, s.clavier.arbiter = .contended l →
          let left := (List.finRange 32).filter fun k =>
            decide (k.val < 31) && ((l.contains k && !opens k) || closes k)
          (left = [] → quiet ∧ t.clavier.arbiter = .free) ∧
          (∀ k, left = [k] → (t.clavier.keys.get k).condition = .registered ∧ t.clavier.arbiter = .held k ∧
            (k.val < 24 → t.clavier.registered = s.clavier.registered + 1 ∧ t.clavier.queue = s.clavier.queue) ∧
            (24 ≤ k.val → t.clavier.registered = s.clavier.registered ∧
              (s.clavier.queue.length < 8 → t.clavier.queue = s.clavier.queue ++ [entry k]) ∧
              (8 ≤ s.clavier.queue.length → t.clavier.queue = s.clavier.queue ∧ t.clavier.overrun = true))) ∧
          (2 ≤ left.length → all .contending ∧ quiet ∧ t.clavier.arbiter = .contended left))) ∧
      (closes allStopKey = true → t.engine.queue = [] ∧ t.swing.runs = [] ∧ t.players.quarterRun = none ∧
        t.players.hourRun = none ∧ (∀ q, t.players.tolls.get q = none) ∧
        (s.players.request.run ≠ none →
          t.players.request.state = .idle ∨ t.players.request.state = .fetching) ∧
        t.clavier.allStops = s.clavier.allStops + 1 ∧ t.clavier.lastAllStop = some s.localTime)

/-- READ-KEYS needs no right: it answers every entry of the queue, oldest first, the overrun flag and whether the queue was
empty, and leaves the queue empty and the flag clear; the overrun counter stays.
That the request has no page is the model's inference (notes/assumptions/20.md), and the bytes are its coding
(notes/assumptions/15.md, 51.md). -/
def Obligations.ReadKeysEmptiesTheQueue : Prop :=
  ∀ (p : Port) (s : State), s.takes p 0x51 [] = true →
    exec (.readKeys p []) s = .next ((s.modClavier fun c => { c with queue := [], overrun := false }).answers p 0x51 .ok
      (le 1 s.clavier.queue.length ++ s.clavier.queue.flatMap wKeyEntry ++ wFlag s.clavier.overrun ++
        wFlag s.clavier.queue.isEmpty))

/-! ### Swing ringing -/

/-- SWING-START tests each bell of its set: those that meet a condition are refused with the first they meet, and the answer is
UNAVAILABLE where the set named bells and none is started, OK otherwise, an empty set included. A bell that meets none enters
PARKING for the port, its entries are purged, and the SWING demand sends its READY or UNPARKING hammer to PARKING, but leaves
it READY while a pulse is in flight; a hammer that is PARKED already ends PARKING at once, in STARTING with the motor on where
the load has room, and else in WAIT-LOAD. SWING-STOP answers the bells stopped, given up and left, NOT-SET where it acts on
none; a STARTING or RINGING bell enters STOPPING with its motor released, and SETTLING at once where it is quiet at rest; one
in PARKING or WAIT-LOAD returns to IDLE and leaves the load queue.
The list of refused bells with their codes in SWING-START's answer is the model's coding (notes/assumptions/51.md). -/
def Obligations.SwingsAreStartedAndStopped : Prop :=
  ∀ (p : Port) (l : List Byte) (s : State), s.signals = [] →
    (∀ m minutes, s.accepts p 0x58 l → readAll rSwingStart l = some (m, minutes) →
      (bellsOf m ≠ [] → (∀ b ∈ bellsOf m, (s.startRefusal b (some p)).isSome = true) →
        exec (.swingStart p l) s = .next (s.answers p 0x58 .unavailable (wBells 0 ++
          wList (fun y : Bell × StartRefusal => wBell y.1 ++ le 1 y.2.ctorIdx)
            ((bellsOf m).filterMap fun b => (s.startRefusal b (some p)).map fun x => (b, x))))) ∧
      (let yes := (bellsOf m).filter fun b => (s.startRefusal b (some p)).isNone
        let no := (bellsOf m).filterMap fun b => (s.startRefusal b (some p)).map fun x => (b, x)
        (∀ b ∈ yes, ((s.bell b).hammer = some .ready ∨ (s.bell b).hammer = some .unparking) ∧ s.demanded b = false ∧
          (s.bell b).park.state ≠ some true) →
        ∃ t, exec (.swingStart p l) s = .next t ∧
          s.changesOnly [.swing, .bells, .engine, .players, .clavier, .link] t ∧
          (∀ b ∈ yes, t.swingRec b = { s.swingRec b with
              state := .parking, origin := some (.port p), minutes := minutes, durationEnd := none, timer := none
              lastCause := none } ∧
            (t.bell b).demands = { (s.bell b).demands with swing := true } ∧
            (s.pulsing b = true → (s.bell b).hammer = some .ready → (t.bell b).hammer = some .ready) ∧
            (s.pulsing b = false ∨ (s.bell b).hammer = some .unparking →
              (t.bell b).hammer = some .parking ∧ t.parkLine b = true ∧
                (t.bell b).timer = some (s.now + (s.config b).parkTimeout * 256))) ∧
          (∀ b, b ∉ yes → t.swingRec b = s.swingRec b ∧ t.bell b = s.bell b) ∧
          t.engine.queue = s.engine.queue.filter (fun e => !yes.contains e.bell) ∧
          (yes ≠ [] → t.noticedAll .bell) ∧
          t.responds p 0x58 (if yes = [] ∧ no ≠ [] then .unavailable else .ok)
            (wBells (bellSetOf yes) ++ wList (fun y : Bell × StartRefusal => wBell y.1 ++ le 1 y.2.ctorIdx) no)) ∧
      (∀ b, bellsOf m = [b] → s.startRefusal b (some p) = none → (s.bell b).hammer = some .parked →
        s.load.queue = [] → s.swing.runs = [] →
        let started : SwingRec := { s.swingRec b with
          origin := some (.port p), minutes := minutes, durationEnd := none, timer := none, lastCause := none }
        ∃ t, exec (.swingStart p l) s = .next t ∧ (∀ k, k ≠ b → t.swingRec k = s.swingRec k) ∧
          t.engine.queue = s.engine.queue.filter (fun e => e.bell != b) ∧ (t.bell b).hammer = some .parked ∧
          (t.bell b).demands.swing = true ∧ t.noticedAll .bell ∧
          t.responds p 0x58 .ok (wBells (bellSetOf [b]) ++ le 1 0) ∧
          (s.neededLoad b ≤ s.free → t.load.queue = [] ∧ t.motorLine b = true ∧
            t.swingRec b = { started with
              state := .starting, edges := 0, timer := some (s.now + (s.config b).startTime * 256) }) ∧
          (s.free < s.neededLoad b → (∀ c, s.sheddable c = 0) → t.motorLine b = false ∧
            t.swingRec b = { started with state := .waitLoad } ∧
            t.load.queue = [{ bell := b, load := s.neededLoad b, requester := some p
                              expiry := s.now + s.load.wait * 256 }]))) ∧
    ∀ m, s.accepts p 0x59 l → readAll rBells l = some m →
      ((∀ b ∈ bellsOf m, s.swingState b ≠ .starting ∧ s.swingState b ≠ .ringing ∧ s.swingState b ≠ .parking ∧
          s.swingState b ≠ .waitLoad) →
        exec (.swingStop p l) s =
          .next (s.answers p 0x59 .notSet (wBells 0 ++ wBells 0 ++ wBells (bellSetOf (bellsOf m))))) ∧
      (∀ b, bellsOf m = [b] → (s.swingState b = .starting ∨ s.swingState b = .ringing) → s.load.queue = [] →
        ((s.bell b).rest.state ≠ some true ∨ s.quiet b = false) →
        ∃ t, exec (.swingStop p l) s = .next t ∧
          t.swingRec b = { s.swingRec b with
            state := .stopping, timer := some (s.now + (s.config b).stopTimeout * 256), lastCause := some .stop } ∧
          (∀ k, k ≠ b → t.swingRec k = s.swingRec k) ∧ t.motorLine b = false ∧ t.noticedAll .bell ∧
          t.responds p 0x59 .ok (wBells (bellSetOf [b]) ++ wBells 0 ++ wBells 0)) ∧
      (let stopped := (bellsOf m).filter fun b => s.swingState b == .starting || s.swingState b == .ringing
        let givenUp := (bellsOf m).filter fun b => s.swingState b == .parking || s.swingState b == .waitLoad
        ∃ t, exec (.swingStop p l) s = .next t ∧
          t.responds p 0x59 (if stopped = [] ∧ givenUp = [] then .notSet else .ok)
            (wBells (bellSetOf stopped) ++ wBells (bellSetOf givenUp) ++
              wBells (bellSetOf ((bellsOf m).filter fun b => !stopped.contains b && !givenUp.contains b))) ∧
          (s.load.queue = [] → s.swing.runs = [] →
            (∀ b ∈ stopped, t.motorLine b = false ∧ t.swingRec b =
              if (s.bell b).rest.state = some true ∧ s.quiet b = true then
                { s.swingRec b with
                  state := .settling, timer := some (s.now + (s.config b).settleTime * 256), lastCause := some .stop }
              else
                { s.swingRec b with
                  state := .stopping, timer := some (s.now + (s.config b).stopTimeout * 256)
                  lastCause := some .stop }) ∧
            (∀ b ∈ givenUp, t.swingRec b = { s.swingRec b with
              state := .idle, origin := none, minutes := none, durationEnd := none, timer := none
              lastCause := some .stop }) ∧
            ∀ b, b ∉ stopped → b ∉ givenUp → t.swingRec b = s.swingRec b)) ∧
      (∀ b, bellsOf m = [b] → (s.swingState b = .parking ∨ s.swingState b = .waitLoad) →
        (∀ e ∈ s.load.queue, e.bell = b) → s.swing.runs = [] →
        ∃ t, exec (.swingStop p l) s = .next t ∧ t.load.queue = [] ∧
          t.swingRec b = { s.swingRec b with
            state := .idle, origin := none, minutes := none, durationEnd := none, timer := none, lastCause := some .stop } ∧
          (∀ k, k ≠ b → t.swingRec k = s.swingRec k) ∧ (t.bell b).demands.swing = false ∧ t.motorLine b = false ∧
          t.noticedAll .bell ∧ t.responds p 0x59 .ok (wBells 0 ++ wBells (bellSetOf [b]) ++ wBells 0))

/-- The timers of a swing. The start end carries a bell with two edges, the last within the pulse timeout before it, to RINGING
with its pulse deadline and, for a port's number of minutes, its duration end; any other to FAULT with STALL, as the pulse
deadline does in RINGING. The duration end leads to STOPPING, and from there to SETTLING once the bell is quiet with REST
true, or to FAULT with STOP-TIMEOUT at the stop deadline; the settle end leads to IDLE. Each raises BELL, and a FAULT raises
FAULT. A timer that is not reached, or in another state, does nothing.
That such a timer's command does nothing is the model's choice (notes/assumptions/1.md). -/
def Obligations.SwingTimersMoveTheBell : Prop :=
  ∀ (b : Bell) (s : State), s.signals = [] →
    let r := s.swingRec b
    let c := s.config b
    let still := (s.bell b).rest.state = some true ∧ ∀ q, r.lastPulse = some q → q + 512 ≤ s.now
    let enters (i : Instr) (x : SwingRec) : Prop :=
      ∃ t, exec i s = .next t ∧ t.swingRec b = x ∧ (∀ k, k ≠ b → t.swingRec k = s.swingRec k) ∧ t.noticedAll .bell ∧
        (t.motorLine b = true → x.state = .starting ∨ x.state = .ringing) ∧
        (x.state = .ringing → t.motorLine b = s.motorLine b) ∧ ((t.bell b).demands.swing = true ↔ x.state ≠ .idle) ∧
        (x.state = .fault → t.noticedAll .fault)
    let faulted (x : SwingFault) : SwingRec :=
      { r with state := .fault, fault := some x, lastCause := some (.fault x), timer := none }
    let reached := ∃ n, r.timer = some n ∧ n ≤ s.now
    (s.load.queue = [] → s.swing.runs = [] → (s.bell b).demands.swing = true →
      (∀ n, r.state = .starting → r.timer = some n → n ≤ s.now →
        (∀ q, r.lastPulse = some q → 2 ≤ r.edges → n < q + c.pulseTimeout * 256 →
          enters (.startEnd (b.val + 1)) { r with
            state := .ringing, timer := some (q + c.pulseTimeout * 256)
            durationEnd :=
              if (r.origin.bind Origin.port?).isSome then r.minutes.map fun k => s.now + k * 15360 else none }) ∧
        ((r.edges < 2 ∨ ∀ q, r.lastPulse = some q → q + c.pulseTimeout * 256 ≤ n) →
          enters (.startEnd (b.val + 1)) (faulted .stall))) ∧
      (r.state = .ringing → reached → enters (.pulseDeadline (b.val + 1)) (faulted .stall)) ∧
      (∀ n, r.state = .ringing → r.durationEnd = some n → n ≤ s.now →
        (¬still → enters (.durationEnd (b.val + 1)) { r with
          state := .stopping, timer := some (s.now + c.stopTimeout * 256), lastCause := some .duration }) ∧
        (still → enters (.durationEnd (b.val + 1)) { r with
          state := .settling, timer := some (s.now + c.settleTime * 256), lastCause := some .duration })) ∧
      (r.state = .stopping → still → enters (.quietReached (b.val + 1)) { r with
        state := .settling, timer := some (s.now + c.settleTime * 256) }) ∧
      (r.state = .stopping → reached → enters (.stopDeadline (b.val + 1)) (faulted .stopTimeout)) ∧
      (r.state = .settling → reached → enters (.settleEnd (b.val + 1)) { r with
        state := .idle, origin := none, minutes := none, durationEnd := none, timer := none })) ∧
    (¬(r.state = .starting ∧ reached) → exec (.startEnd (b.val + 1)) s = .next s) ∧
    (¬(r.state = .ringing ∧ reached) → exec (.pulseDeadline (b.val + 1)) s = .next s) ∧
    (¬(r.state = .ringing ∧ ∃ n, r.durationEnd = some n ∧ n ≤ s.now) → exec (.durationEnd (b.val + 1)) s = .next s) ∧
    (¬(r.state = .stopping ∧ still) → exec (.quietReached (b.val + 1)) s = .next s) ∧
    (¬(r.state = .stopping ∧ reached) → exec (.stopDeadline (b.val + 1)) s = .next s) ∧
    (¬(r.state = .settling ∧ reached) → exec (.settleEnd (b.val + 1)) s = .next s)

/-- A slot run whose stagger has ended takes its next bell: one that meets no condition enters PARKING with the run as its
origin, and the run waits for it; one that meets a condition is skipped with its code and BELL. A slot run that reaches its
end is recorded RAN, and brings down the bells whose origin it is and no others. A load queue entry that reaches its expiry
leaves the queue, its bell returns to IDLE with LOAD-TIMEOUT, and LOAD is raised on its requester's port, or on all three.
Before their instants the three commands do nothing. That is the model's choice (notes/assumptions/1.md); so are the numbers
and bells that the history keeps of a slot (notes/assumptions/58.md), and that one command acts on the first run reached
(notes/assumptions/28.md). -/
def Obligations.SlotRunsAndLoadWaitsEnd : Prop :=
  ∀ s : State, s.signals = [] →
    (∀ (r : SlotRun) (n : Nat), s.swing.runs = [r] → r.nextAt = some n → n ≤ s.now →
      (r.remaining = [] →
        exec .staggerEnd s = .next (s.modSwing fun w => { w with runs := [{ r with nextAt := none }] })) ∧
      (∀ b rest, r.remaining = b :: rest → s.startRefusal b none = none → (s.bell b).hammer = some .ready →
        s.demanded b = false → (s.bell b).park.state ≠ some true →
        ∃ t, exec .staggerEnd s = .next t ∧ t.swingState b = .parking ∧
          (t.swingRec b).origin = some (.slotRun r.id) ∧ (∀ k, k ≠ b → t.swingRec k = s.swingRec k) ∧
          t.swing.runs =
            [{ r with nextAt := none, remaining := rest, waiting := some b, started := r.started ++ [b] }] ∧
          t.engine.queue = s.engine.queue.filter (fun e => e.bell != b) ∧ t.noticedAll .bell) ∧
      (∀ b x, r.remaining = [b] → s.startRefusal b none = some x →
        exec .staggerEnd s = .next ((s.modSwing fun w =>
          { w with runs := [{ r with nextAt := none, remaining := [], skipped := r.skipped ++ [(b, x)] }] }).raiseAll
            .bell))) ∧
    ((∀ r ∈ s.swing.runs, ∀ n, r.nextAt = some n → s.now < n) → exec .staggerEnd s = .next s) ∧
    (∀ r : SlotRun, s.swing.runs = [r] → r.ends ≤ s.now → s.load.queue = [] →
      ∃ t, exec .slotEnd s = .next t ∧ t.swing.runs = [] ∧
        t.swing.history.getLast? = some
          { date := r.date, number := r.number, outcome := .ran, started := r.started, skipped := r.skipped } ∧
        ∀ b,
          (((s.swingRec b).origin ≠ some (.slotRun r.id) ∨ (s.swingState b ≠ .starting ∧ s.swingState b ≠ .ringing ∧
              s.swingState b ≠ .parking ∧ s.swingState b ≠ .waitLoad)) → t.swingRec b = s.swingRec b) ∧
          ((s.swingRec b).origin = some (.slotRun r.id) →
            ((s.swingState b = .starting ∨ s.swingState b = .ringing) →
              (t.swingRec b).lastCause = some .slotEnd ∧ t.motorLine b = false ∧
              t.swingState b = (if (s.bell b).rest.state = some true ∧ s.quiet b = true then .settling else .stopping)) ∧
            ((s.swingState b = .parking ∨ s.swingState b = .waitLoad) →
              (t.swingRec b).lastCause = some .slotEnd ∧ t.swingState b = .idle ∧ (t.swingRec b).origin = none))) ∧
    ((∀ r ∈ s.swing.runs, s.now < r.ends) → exec .slotEnd s = .next s) ∧
    (∀ (e : LoadEntry), s.load.queue = [e] → e.expiry ≤ s.now → s.swing.runs = [] →
      ∃ t, exec (.loadWaitExpiry (e.bell.val + 1)) s = .next t ∧ t.load.queue = [] ∧
        t.swingState e.bell = .idle ∧ (t.swingRec e.bell).lastCause = some .loadTimeout ∧
        (∀ k, k ≠ e.bell → t.swingRec k = s.swingRec k) ∧ (∀ q, e.requester = some q → t.noticed .load q) ∧
        (e.requester = none → t.noticedAll .load)) ∧
    (∀ b : Bell, (∀ e ∈ s.load.queue, e.bell = b → s.now < e.expiry) →
      exec (.loadWaitExpiry (b.val + 1)) s = .next s)

/-- The law of the swing motor is kept by every step, with the law of the park demands: a motor line is asserted only in
STARTING or RINGING, and only while the hammer is PARKED. -/
def Obligations.LawOfTheSwingMotor : Prop :=
  ∀ s t : State, s.motorLaw → s.demandLaw → step s = .next t → t.motorLaw ∧ t.demandLaw

/-! ### The tower load and the floodlights -/

/-- The law of the tower load is kept by every step, with the laws that it rests on: the committed load never exceeds the
capacity. -/
def Obligations.LawOfTheTowerLoad : Prop :=
  ∀ s t : State, s.loadLaw → s.ranksLaw → s.loadQueueLaw → step s = .next t → t.loadLaw ∧ t.ranksLaw ∧ t.loadQueueLaw

/-- A grant gives a circuit the largest level up to the wanted one whose consumption fits the free load with its own
reservation; never above the floor while it is shed, nor above what it has while a start waits. Room for a start is found
free, or made by shedding circuits of rank 1 or more in descending order, or not at all. SET-CIRCUIT and SET-LOAD are
BAD-VALUE where the committed load would not fit, and otherwise write their settings; a SET-LOAD that raises C or lowers K
admits the start that waits, once it fits. A ramp moves the current level one step towards the granted one every 16 ticks; a
move downward that lowers the reservation admits the start that waits where that makes room, and leaves it waiting where it does
not, and with no start waiting grants a shed or clamped circuit again, with LIGHT at a restore.
That a RAMP_MOVE before its instant, or without a ramp, does nothing is the model's choice (notes/assumptions/1.md), and so is
that SET-LOAD answers the loads after the re-evaluation that it starts (notes/assumptions/66.md). -/
def Obligations.LightAndStartsShareTheLoad : Prop :=
  (∀ (c : Circuit) (s : State),
    let r := s.circuit c
    let g := s.grantedLevel c
    let fits (l : Nat) : Prop := l ≤ 255 ∧ consumption r.config.weight l ≤ s.free + s.reservation c
    g ≤ r.wanted ∧ fits g ∧ (r.shed = true → g ≤ r.config.floor) ∧
      (r.shed = false → s.load.queue ≠ [] → g ≤ r.granted) ∧
      ∀ l, l ≤ r.wanted → fits l → (r.shed = true → l ≤ r.config.floor) →
        (r.shed = false → s.load.queue = [] ∨ l ≤ r.granted) → l ≤ g) ∧
  (∀ (need : Nat) (s : State), s.loadLaw → s.ranksLaw →
    let gains := (allCircuits.map s.sheddable).sum
    (need ≤ s.free → s.makeRoom need = some s) ∧ (s.free + gains < need → s.makeRoom need = none) ∧
    (s.free < need → need ≤ s.free + gains → ∃ t, s.makeRoom need = some t ∧ s.changesOnly [.lights, .link] t ∧
      need ≤ t.free ∧ t.noticedAll .light ∧
      ∀ c, (t.circuit c = s.circuit c ∨ (0 < s.sheddable c ∧ t.circuit c = (s.circuit c).drop)) ∧
        ∀ d, t.circuit c ≠ s.circuit c → 0 < s.sheddable d →
          ((s.circuit c).config.rank < (s.circuit d).config.rank ∨
            ((s.circuit c).config.rank = (s.circuit d).config.rank ∧ c < d)) →
          t.circuit d = (s.circuit d).drop)) ∧
  (∀ (p : Port) (l : List Byte) (c : Circuit) (k : CircuitConfig) (s : State), s.accepts p 0x60 l →
    readAll rSetCircuit l = some (c, k) → s.signals = [] →
    let r := s.circuit c
    let load := s.committed - s.reservation c + consumption k.weight (max r.current r.granted)
    (s.load.capacity < load → exec (.setCircuit p l) s = .next (s.answers p 0x60 .badValue [])) ∧
    (load ≤ s.load.capacity →
      (∃ t, exec (.setCircuit p l) s = .next t ∧ (t.circuit c).config = k ∧
        (∀ d, d ≠ c → (t.circuit d).config = (s.circuit d).config) ∧ t.responds p 0x60 .ok []) ∧
      (r.config.weight ≤ k.weight →
        (match r.override with
          | some o => o.level
          | none => if s.fallbackApplies then k.fallback else r.planLevel) = r.wanted →
        exec (.setCircuit p l) s =
          .next ((s.modCircuit c fun r => { r with config := k }).answers p 0x60 .ok [])))) ∧
  (∀ (p : Port) (l : List Byte) (capacity reserve wait : Nat) (s : State), s.accepts p 0x64 l →
    readAll rSetLoad l = some (capacity, reserve, wait) → s.signals = [] →
    let load := reserve + s.reservations + s.swingLoads
    (capacity < load → exec (.setLoad p l) s = .next (s.answers p 0x64 .badValue [])) ∧
    (load ≤ capacity →
      ∃ t, exec (.setLoad p l) s = .next t ∧ t.load.capacity = capacity ∧ t.load.reserve = reserve ∧
        t.load.wait = wait ∧ t.responds p 0x64 .ok (le 2 t.committed ++ le 2 t.free) ∧
        ∀ e, s.load.queue = [e] → s.swing.runs = [] → e.load ≤ capacity - load →
          (s.load.capacity < capacity ∨ reserve < s.load.reserve) →
          s.swingState e.bell = .waitLoad → (s.bell e.bell).hammer = some .parked →
          (s.bell e.bell).demands.swing = true → t.load.queue = [] ∧ t.swingState e.bell = .starting ∧
            (t.swingRec e.bell).edges = 0 ∧ t.motorLine e.bell = true ∧
            (t.swingRec e.bell).timer = some (s.now + (s.config e.bell).startTime * 256))) ∧
  ∀ (c : Circuit) (s : State), s.signals = [] →
    let r := s.circuit c
    ((∀ x, r.ramp = some x → s.now < x.next) → exec (.rampMove (c.val + 1)) s = .next s) ∧
    ∀ x, r.ramp = some x → x.next ≤ s.now →
      let level := if r.current < r.granted then min r.granted (r.current + x.step)
                   else max r.granted (r.current - x.step)
      let moved : CircuitRec :=
        { r with current := level, ramp := if level = r.granted then none else some { x with next := x.next + 16 } }
      (r.current < r.granted → exec (.rampMove (c.val + 1)) s = .next (s.modCircuit c fun _ => moved)) ∧
      (s.load.queue = [] → r.shed = false → r.wanted ≤ r.granted →
        ∃ t, exec (.rampMove (c.val + 1)) s = .next t ∧ t.circuit c = moved ∧ t.swing = s.swing) ∧
      let u := s.modCircuit c fun _ => moved
      let falls := u.reservation c < s.reservation c
      let room := u.free + (allCircuits.map u.sheddable).sum
      (¬falls → exec (.rampMove (c.val + 1)) s = .next u) ∧
      (falls → (∃ e rest, s.load.queue = e :: rest ∧ room < e.load) → exec (.rampMove (c.val + 1)) s = .next u) ∧
      (∀ e, falls → s.load.queue = [e] → e.load ≤ room → s.swing.runs = [] → s.swingState e.bell = .waitLoad →
        (s.bell e.bell).hammer = some .parked → (s.bell e.bell).demands.swing = true →
        ∃ t, exec (.rampMove (c.val + 1)) s = .next t ∧ t.load.queue = [] ∧ t.swingState e.bell = .starting ∧
          (t.swingRec e.bell).edges = 0 ∧ t.motorLine e.bell = true ∧
          (t.swingRec e.bell).timer = some (s.now + (s.config e.bell).startTime * 256)) ∧
      (falls → s.loadLaw → s.ranksLaw → s.load.queue = [] →
        (∀ d, d ≠ c → (s.circuit d).shed = false ∧ (s.circuit d).wanted ≤ (s.circuit d).granted) →
        let clear := { moved with shed := false }
        let g := (s.modCircuit c fun _ => clear).grantedLevel c
        (r.shed = true ∨ r.granted < r.wanted) →
        ∃ t, exec (.rampMove (c.val + 1)) s = .next t ∧ s.changesOnly [.lights, .link] t ∧
          t.circuit c = (if g = r.granted then clear else clear.retarget s.now g r.rampTime) ∧
          (∀ d, d ≠ c → t.circuit d = s.circuit d) ∧
          (r.shed = true ∨ (r.granted < r.wanted ∧ g = r.wanted) → t.noticedAll .light))

/-- The last part of SET-PLAN and of SET-SOLAR makes the request whole: the plan or the table is replaced, and today's timeline
is built again where it rests on them, the steps already passed marked done. SET-LEVEL gives each circuit of its mask an
override and that wanted level, and with RELEASE takes the override away; the answer gives the granted levels. A wanted level
that fits is granted whole, at once without a ramp and otherwise in steps of the ramp.
That SET-LEVEL answers the levels after the re-evaluation that its grants start is the model's choice (notes/assumptions/66.md).
The numbering of the parts is the model's (notes/assumptions/4.md), and so are the bytes of the answers: a step's level in 2
bytes (notes/assumptions/24.md), a granted level in 1 and the rest (notes/assumptions/15.md). -/
def Obligations.LightRequestsSetTheLevels : Prop :=
  (∀ (p : Port) (code : Byte) (held : List (List Byte)) (share : List Byte) (s : State), s.signals = [] →
    held.length ≤ 3 →
    let k := BitVec.ofNat 8 (held.length + 1)
    let whole := (held ++ [share]).flatten
    s.accepts p code (k :: k :: share) →
    ((held = [] ∧ (s.port p).parts.any (fun x => x.code == code) = false) ∨
      (s.port p).parts = some { code := code, count := held.length + 1, shares := held }) →
    let built (old t : State) : Prop :=
      t.lights.timelineDate = some s.localTime.date ∧
        t.lights.timeline = (old.timelineOf s.localTime.date).map fun x =>
          { x with done := s.lights.valid && x.minute ≤ s.localTime.minuteOfDay }
    (∀ n steps, code = 0x61 → readAll rSetPlan whole = some (n, steps) →
      let written := s.modLights fun g => { g with plans := g.plans.set n steps }
      (s.lights.plan ≠ some n → exec (.setPlan p (k :: k :: share)) s =
        .next (written.answers p 0x61 .ok (wList wStep steps))) ∧
      (s.lights.plan = some n → ∃ t, exec (.setPlan p (k :: k :: share)) s = .next t ∧
        t.lights.plans = s.lights.plans.set n steps ∧ (s.dayHeld = true → built written t) ∧
        t.responds p 0x61 .ok (wList wStep steps))) ∧
    (∀ x, code = 0x63 → readAll rSetSolar whole = some x →
      ∃ t, exec (.setSolar p (k :: k :: share)) s = .next t ∧ t.lights.solar = x ∧ t.lights.plans = s.lights.plans ∧
        (s.dayHeld = true → built (s.modLights fun g => { g with solar := x }) t) ∧ t.responds p 0x63 .ok [])) ∧
  ∀ (p : Port) (l : List Byte) (x : LevelRequest) (s : State), s.accepts p 0x62 l → readAll rSetLevel l = some x →
    s.signals = [] → s.load.queue = [] →
    (∀ v, x.level = some v →
      (∃ t, exec (.setLevel p l) s = .next t ∧
        (∀ c, (t.circuit c).override =
          if c ∈ circuitsOf x.mask then some { level := v, ends := x.ends, ramp := x.ramp, port := p }
          else (s.circuit c).override) ∧
        (∀ c, (t.circuit c).wanted = if c ∈ circuitsOf x.mask then v else (s.circuit c).wanted) ∧
        t.responds p 0x62 .ok (wList (fun c => le 1 (t.circuit c).granted) (circuitsOf x.mask))) ∧
      (∀ c, circuitsOf x.mask = [c] → (s.circuit c).wanted ≠ v → (s.circuit c).granted ≠ v → (s.circuit c).shed = false →
        consumption (s.circuit c).config.weight v ≤ s.free + s.reservation c →
        let r := { s.circuit c with
          override := some { level := v, ends := x.ends, ramp := x.ramp, port := p }
          wanted := v, granted := v, rampTime := x.ramp }
        let step := max 1 (((max r.current v - min r.current v) + (x.ramp * 16 - 1)) / (x.ramp * 16))
        ∃ t, exec (.setLevel p l) s = .next t ∧ t.circuit c =
          if x.ramp = 0 then { r with current := v, ramp := none }
          else if r.current = v then { r with ramp := none }
          else { r with ramp := some { start := r.current, step := step, next := s.now + 16 } })) ∧
    (x.level = none →
      ∃ t, exec (.setLevelRelease p l) s = .next t ∧
        (∀ c, (t.circuit c).override = if c ∈ circuitsOf x.mask then none else (s.circuit c).override) ∧
        (∀ c, (t.circuit c).wanted =
          if c ∈ circuitsOf x.mask then
            (if s.fallbackApplies then (s.circuit c).config.fallback else (s.circuit c).planLevel)
          else (s.circuit c).wanted) ∧
        t.responds p 0x62 .ok (wList (fun c => le 1 (t.circuit c).granted) (circuitsOf x.mask)))

/-! ### The tune store -/

/-- TUNE-BEGIN takes the staging buffer afresh for 15,360 ticks, or is BUSY; TUNE-WRITE writes notes at their places and sets
the instant afresh; both, with TUNE-COMMIT, follow R180's refusals. TUNE-COMMIT marks its slot and TUNE-INFO asks for its, each
TAKEN and executed when its turn comes. A read ends with the tune, or NOT-SET, or at its third failure STORE-FAULT, in the
directory and at the block that asked; a commit leaves the whole tune in its slot, or is found not to match, and frees the buffer with DONE. The
buffer is abandoned at its instant. The end of a TUNE-PLAY's fetch completes the owner's request with DONE: with a tune the
DEFAULT fields take the header's, the start is at least 256 ticks from now, and the player waits for its first note of a bell
1..24; a failure, or a stop that is pending, returns it to IDLE, the stop with its cause and CHIME.
How an operation ends is an operand of the command, the model's choice (notes/assumptions/9.md, 10.md, 42.md); so are what a
stop and a failure leave of the last run (55.md), the widths in the completions (15.md), and that STAGING_ABANDON before its
instant and STORE_OP_END with nothing executing do nothing (notes/assumptions/1.md). -/
def Obligations.TunesAreStagedCommittedAndRead : Prop :=
  (∀ (p : Port) (l : List Byte) (s : State),
    (∀ n tempo policy, s.accepts p 0x70 l → readAll rTuneBegin l = some (n, tempo, policy) →
      ((∃ y, s.store.staging = some y ∧ (y.owner ≠ p ∨ y.abandon = none)) →
        exec (.tuneBegin p l) s = .next (s.answers p 0x70 .busy [])) ∧
      ((∀ y, s.store.staging = some y → y.owner = p ∧ y.abandon ≠ none) →
        exec (.tuneBegin p l) s = .next ((s.modStore fun z =>
          { z with
            staging := some (Staging.mk p tempo policy (List.replicate n none) (some (s.now + 15360))) }).answers p 0x70
              .ok []))) ∧
    (∀ code, (code = 0x71 ∨ code = 0x72) → s.accepts p code l →
      (code = 0x72 → ∃ t, readAll (rFin 1 64) l = some t) →
      (∀ y, s.store.staging = some y → y.owner ≠ p ∨ y.abandon = none) →
      exec (if code = 0x71 then .tuneWrite p l else .tuneCommit p l) s = .next (s.answers p code .notSet [])) ∧
    (∀ y, s.store.staging = some y → y.owner = p → y.abandon ≠ none →
      (∀ offset new, s.accepts p 0x71 l → readAll rTuneWrite l = some (offset, new) →
        (y.notes.length < offset + new.length → exec (.tuneWrite p l) s = .next (s.answers p 0x71 .badValue [])) ∧
        (offset + new.length ≤ y.notes.length → ∃ notes : List (Option Note),
          (∀ i, notes[i]? = if offset ≤ i ∧ i < offset + new.length then new[i - offset]?.map some else y.notes[i]?) ∧
          exec (.tuneWrite p l) s = .next ((s.modStore fun z =>
            { z with staging := some { y with notes := notes, abandon := some (s.now + 15360) } }).answers p 0x71 .ok
              (le 1 (notes.filter Option.isSome).length)))) ∧
      (∀ t : TuneSlot, s.accepts p 0x72 l → readAll (rFin 1 64) l = some t →
        (none ∈ y.notes → exec (.tuneCommit p l) s = .next (s.answers p 0x72 .notSet [])) ∧
        (none ∉ y.notes → exec (.tuneCommit p l) s = .next (((s.modStore fun z =>
          { z with
            staging := some { y with abandon := none }
            directory := z.directory.set t .underCommit
            executing := if z.executing.isNone then some (.commit p t, false) else z.executing
            queue := if z.executing.isNone then z.queue else z.queue ++ [.commit p t] }).modPort p fun r =>
              { r with outstanding := some 0x72 }).answers p 0x72 .taken [])))) ∧
    (∀ t : TuneSlot, s.accepts p 0x73 l → readAll (rFin 1 64) l = some t →
      exec (.tuneInfo p l) s = .next (((s.modStore fun z =>
        { z with
          executing := if z.executing.isNone then some (.info p t, z.directory.get t == .underCommit) else z.executing
          queue := if z.executing.isNone then z.queue else z.queue ++ [.info p t] }).modPort p fun r =>
            { r with outstanding := some 0x73 }).answers p 0x73 .taken []))) ∧
  (∀ (failed : Nat) (t : TuneSlot) (s : State), s.store.queue = [] →
    (s.store.executing = none → exec (.storeOpEnd failed) s = .next s) ∧
    (∀ r, s.store.executing = some (.playFetch t, true) → s.players.request.run = some r → r.stopPending = none →
      ∃ u, exec (.storeOpEnd failed) s = .next u ∧ u.store.executing = none ∧
        (u.port r.owner).completion = some { code := 0x48, status := .storeFault, payload := [] } ∧
        (u.port r.owner).outstanding = none ∧ u.noticed .done r.owner ∧
        u.players.request = { s.players.request with state := .idle, run := none }) ∧
    (∀ p, s.store.executing = some (.info p t, true) → ∃ u, exec (.storeOpEnd failed) s = .next u ∧
      u.store.executing = none ∧ (u.port p).completion = some { code := 0x73, status := .storeFault, payload := [] } ∧
      (u.port p).outstanding = none ∧ u.noticed .done p) ∧
    (s.store.directory.get t ≠ .underCommit →
      let ended (code : Byte) (p : Port) (e : DirEntry) (x : Status) (payload : List Byte) : State :=
        (s.modStore fun z => { z with executing := none, directory := z.directory.set t e }).modPort p fun r =>
          { r with
            outstanding := none, completion := some { code := code, status := x, payload := payload }
            notices := r.notices ||| NoticeKind.done.bit }
      let ends := ended 0x73
      let plays (r : RequestRun) (x : Tune) : RequestRun :=
        { r with
          tune := some x, tempo := some (r.tempo.getD x.tempo), policy := some (r.policy.getD x.policy)
          maxSlip := if r.policy.isSome then r.maxSlip else 64, start := max r.start (s.now + 256) }
      let completes (r : RequestRun) (x : Tune) : State :=
        let tempo := r.tempo.getD x.tempo
        ended 0x48 r.owner (.present x.notes.length) .ok (le 1 x.notes.length ++ le 2 tempo ++
          [(r.policy.getD x.policy).byte] ++ le 3 (tuneDuration x.notes tempo) ++ le 4 ((plays r x).start - s.now))
      let stops (r : RequestRun) (c : EndCause) (u : State) : State :=
        (u.modPlayers fun y => { y with request :=
          { state := .idle, run := none
            last := some { slot := r.slot, owner := r.owner, counts := r.counts, slip := r.slip, cause := c } } }).raise
              .chime r.owner
      (∀ r, s.store.executing = some (.playFetch t, false) → s.players.request.run = some r → r.queued = 0 →
        (∀ x, slotContent s.store.flash t = .tune x → failed < 3 →
          (∀ c, r.stopPending = some c → exec (.storeOpEnd failed) s = .next (stops r c (completes r x))) ∧
          (∀ k b, r.stopPending = none → nextNoteAt x.notes r.next k b →
            exec (.storeOpEnd failed) s = .next ((completes r x).modPlayers fun y => { y with request := { y.request with
              state := .waiting
              run := some { plays r x with
                next := k, counts := { r.counts with skipped := r.counts.skipped + (k - r.next) }
                handAt := (plays r x).start + noteOffset x.notes (r.tempo.getD x.tempo) k + r.slip -
                  (s.config b).lead - 512 } } })) ∧
          (r.stopPending = none → noNoteFrom x.notes r.next → ∃ u, exec (.storeOpEnd failed) s = .next u ∧
            u.players.request.state = .idle ∧ u.players.request.run = none ∧ u.noticed .done r.owner ∧
            u.noticed .chime r.owner ∧ u.players.request.last.any (fun y => y.cause == .complete) = true)) ∧
        (∀ e x, (slotContent s.store.flash t = .empty ∧ failed < 3 ∧ e = .empty ∧ x = .notSet) ∨
            ((slotContent s.store.flash t = .bad ∨ 3 ≤ failed) ∧ e = .faulty ∧ x = .storeFault) →
          (∀ c, r.stopPending = some c →
            exec (.storeOpEnd failed) s = .next (stops r c (ended 0x48 r.owner e x []))) ∧
          (r.stopPending = none →
            exec (.storeOpEnd failed) s = .next ((ended 0x48 r.owner e x []).modPlayers fun y =>
              { y with request := { y.request with state := .idle, run := none } })))) ∧
      (∀ p, s.store.executing = some (.info p t, false) →
        (slotContent s.store.flash t = .empty → failed < 3 →
          exec (.storeOpEnd failed) s = .next (ends p .empty .notSet [])) ∧
        ((slotContent s.store.flash t = .bad ∨ 3 ≤ failed) →
          exec (.storeOpEnd failed) s = .next (ends p .faulty .storeFault [])) ∧
        (∀ x, slotContent s.store.flash t = .tune x → failed < 3 → exec (.storeOpEnd failed) s = .next
          (ends p (.present x.notes.length) .ok (le 1 x.notes.length ++ le 1 x.tempo ++ [x.policy.byte] ++
            le 3 (tuneDuration x.notes x.tempo))))) ∧
      (∀ q, s.store.executing = some (.clockFetch q t, false) → s.players.clockFetch = some (q, false) →
        ∃ u, exec (.storeOpEnd failed) s = .next u ∧
          (∀ x, slotContent s.store.flash t = .tune x → failed < 3 →
            (u.players.buffers.get q).state = .valid ∧ (u.players.buffers.get q).tune = some x ∧
              u.store.directory.get t = .present x.notes.length) ∧
          (slotContent s.store.flash t = .empty → failed < 3 →
            (u.players.buffers.get q).state = .failed ∧ (u.players.buffers.get q).status = some .notSet ∧
              u.store.directory.get t = .empty) ∧
          ((slotContent s.store.flash t = .bad ∨ 3 ≤ failed) →
            (u.players.buffers.get q).state = .failed ∧ (u.players.buffers.get q).status = some .storeFault ∧
              u.store.directory.get t = .faulty)))) ∧
  (∀ (left : Option (List Byte)) (p : Port) (t : TuneSlot) (m : Bool) (y : Staging) (s : State),
    s.store.executing = some (.commit p t, m) → s.store.staging = some y →
    let x : Tune := ⟨y.tempo, y.policy, y.notes.filterMap id⟩
    let good := ∀ l, left = some l → padSlot l = padSlot (tuneImage x)
    ∃ u, exec (.commitEnd left) s = .next u ∧ u.store.staging = none ∧ (u.port p).outstanding = none ∧ u.noticed .done p ∧
      (∀ a, flashRead u.store.flash a = flashRead (slotProgram s.store.flash t (left.getD (tuneImage x))) a) ∧
      (good → u.store.directory.get t = .present x.notes.length ∧
        (u.port p).completion = some { code := 0x72, status := .ok, payload := le 2 (tuneCrc x).toNat }) ∧
      (¬good → u.store.directory.get t = .faulty ∧
        (u.port p).completion = some { code := 0x72, status := .storeFault, payload := [] }) ∧
      ∀ k, k ≠ t → u.store.directory.get k = s.store.directory.get k) ∧
  ∀ s : State,
    ((∃ y n, s.store.staging = some y ∧ y.abandon = some n ∧ n ≤ s.now) →
      exec .stagingAbandon s = .next (s.modStore fun z => { z with staging := none })) ∧
    ((∀ y n, s.store.staging = some y → y.abandon = some n → s.now < n) → exec .stagingAbandon s = .next s)

/-- A slot programmed with a tune that it can hold reads as that tune, an erased one as EMPTY, and every other slot reads as
before; the flash keeps its canonical form. -/
def Obligations.StoredTunesReadBack : Prop :=
  ∀ (m : List Host.Cell) (t : TuneSlot), flashWf m = true →
    slotContent (slotProgram m t []) t = .empty ∧
    (∀ x : Tune, x.legal = true → slotContent (slotProgram m t (tuneImage x)) t = .tune x) ∧
    ∀ l, flashWf (slotProgram m t l) = true ∧
      ∀ u, u ≠ t → slotContent (slotProgram m t l) u = slotContent m u

/-! ### The laws of every table -/

/-- Every step keeps the flash in its canonical form, every list and counter within its bound, the tower time a date and time
of the calendar, every port's frames and counters legal with some port holding ADMIN, every bell's configuration within its
ranges, and every dial train's record legal. -/
def Obligations.EveryStepKeepsTheTables : Prop :=
  ∀ s t : State, step s = .next t →
    (s.flashLaw → t.flashLaw) ∧ (s.boundsLaw → t.boundsLaw) ∧ (s.timeLaw → t.timeLaw) ∧ (s.linkLaw → t.linkLaw) ∧
      (s.configLaw → t.configLaw) ∧ (s.dialLaw → t.dialLaw)

end
end

