-- ==== Sys2Proof/Laws/State.lean ====
section
/-! SUPPORT. One lemma per field for each change of a block of the state, each true by `rfl`, and what the records of bells,
trains, circuits, claims and ports read as after a change of one of them. -/

namespace Sys2Proof.Machine

namespace State

@[simp] theorem modTk_pending (f : Timekeeper → Timekeeper) (s : State) : (s.modTk f).pending = s.pending := rfl
@[simp] theorem modTk_power (f : Timekeeper → Timekeeper) (s : State) : (s.modTk f).power = s.power := rfl
@[simp] theorem modTk_tk (f : Timekeeper → Timekeeper) (s : State) : (s.modTk f).tk = f s.tk := rfl
@[simp] theorem modTk_cal (f : Timekeeper → Timekeeper) (s : State) : (s.modTk f).cal = s.cal := rfl
@[simp] theorem modTk_dials (f : Timekeeper → Timekeeper) (s : State) : (s.modTk f).dials = s.dials := rfl
@[simp] theorem modTk_bells (f : Timekeeper → Timekeeper) (s : State) : (s.modTk f).bells = s.bells := rfl
@[simp] theorem modTk_claims (f : Timekeeper → Timekeeper) (s : State) : (s.modTk f).claims = s.claims := rfl
@[simp] theorem modTk_engine (f : Timekeeper → Timekeeper) (s : State) : (s.modTk f).engine = s.engine := rfl
@[simp] theorem modTk_players (f : Timekeeper → Timekeeper) (s : State) : (s.modTk f).players = s.players := rfl
@[simp] theorem modTk_clavier (f : Timekeeper → Timekeeper) (s : State) : (s.modTk f).clavier = s.clavier := rfl
@[simp] theorem modTk_swing (f : Timekeeper → Timekeeper) (s : State) : (s.modTk f).swing = s.swing := rfl
@[simp] theorem modTk_lights (f : Timekeeper → Timekeeper) (s : State) : (s.modTk f).lights = s.lights := rfl
@[simp] theorem modTk_load (f : Timekeeper → Timekeeper) (s : State) : (s.modTk f).load = s.load := rfl
@[simp] theorem modTk_link (f : Timekeeper → Timekeeper) (s : State) : (s.modTk f).link = s.link := rfl
@[simp] theorem modTk_store (f : Timekeeper → Timekeeper) (s : State) : (s.modTk f).store = s.store := rfl
@[simp] theorem modTk_signals (f : Timekeeper → Timekeeper) (s : State) : (s.modTk f).signals = s.signals := rfl

@[simp] theorem modCal_pending (f : Calendar → Calendar) (s : State) : (s.modCal f).pending = s.pending := rfl
@[simp] theorem modCal_power (f : Calendar → Calendar) (s : State) : (s.modCal f).power = s.power := rfl
@[simp] theorem modCal_tk (f : Calendar → Calendar) (s : State) : (s.modCal f).tk = s.tk := rfl
@[simp] theorem modCal_cal (f : Calendar → Calendar) (s : State) : (s.modCal f).cal = f s.cal := rfl
@[simp] theorem modCal_dials (f : Calendar → Calendar) (s : State) : (s.modCal f).dials = s.dials := rfl
@[simp] theorem modCal_bells (f : Calendar → Calendar) (s : State) : (s.modCal f).bells = s.bells := rfl
@[simp] theorem modCal_claims (f : Calendar → Calendar) (s : State) : (s.modCal f).claims = s.claims := rfl
@[simp] theorem modCal_engine (f : Calendar → Calendar) (s : State) : (s.modCal f).engine = s.engine := rfl
@[simp] theorem modCal_players (f : Calendar → Calendar) (s : State) : (s.modCal f).players = s.players := rfl
@[simp] theorem modCal_clavier (f : Calendar → Calendar) (s : State) : (s.modCal f).clavier = s.clavier := rfl
@[simp] theorem modCal_swing (f : Calendar → Calendar) (s : State) : (s.modCal f).swing = s.swing := rfl
@[simp] theorem modCal_lights (f : Calendar → Calendar) (s : State) : (s.modCal f).lights = s.lights := rfl
@[simp] theorem modCal_load (f : Calendar → Calendar) (s : State) : (s.modCal f).load = s.load := rfl
@[simp] theorem modCal_link (f : Calendar → Calendar) (s : State) : (s.modCal f).link = s.link := rfl
@[simp] theorem modCal_store (f : Calendar → Calendar) (s : State) : (s.modCal f).store = s.store := rfl
@[simp] theorem modCal_signals (f : Calendar → Calendar) (s : State) : (s.modCal f).signals = s.signals := rfl

@[simp] theorem modDials_pending (f : Table 4 Dial → Table 4 Dial) (s : State) : (s.modDials f).pending = s.pending := rfl
@[simp] theorem modDials_power (f : Table 4 Dial → Table 4 Dial) (s : State) : (s.modDials f).power = s.power := rfl
@[simp] theorem modDials_tk (f : Table 4 Dial → Table 4 Dial) (s : State) : (s.modDials f).tk = s.tk := rfl
@[simp] theorem modDials_cal (f : Table 4 Dial → Table 4 Dial) (s : State) : (s.modDials f).cal = s.cal := rfl
@[simp] theorem modDials_dials (f : Table 4 Dial → Table 4 Dial) (s : State) : (s.modDials f).dials = f s.dials := rfl
@[simp] theorem modDials_bells (f : Table 4 Dial → Table 4 Dial) (s : State) : (s.modDials f).bells = s.bells := rfl
@[simp] theorem modDials_claims (f : Table 4 Dial → Table 4 Dial) (s : State) : (s.modDials f).claims = s.claims := rfl
@[simp] theorem modDials_engine (f : Table 4 Dial → Table 4 Dial) (s : State) : (s.modDials f).engine = s.engine := rfl
@[simp] theorem modDials_players (f : Table 4 Dial → Table 4 Dial) (s : State) : (s.modDials f).players = s.players := rfl
@[simp] theorem modDials_clavier (f : Table 4 Dial → Table 4 Dial) (s : State) : (s.modDials f).clavier = s.clavier := rfl
@[simp] theorem modDials_swing (f : Table 4 Dial → Table 4 Dial) (s : State) : (s.modDials f).swing = s.swing := rfl
@[simp] theorem modDials_lights (f : Table 4 Dial → Table 4 Dial) (s : State) : (s.modDials f).lights = s.lights := rfl
@[simp] theorem modDials_load (f : Table 4 Dial → Table 4 Dial) (s : State) : (s.modDials f).load = s.load := rfl
@[simp] theorem modDials_link (f : Table 4 Dial → Table 4 Dial) (s : State) : (s.modDials f).link = s.link := rfl
@[simp] theorem modDials_store (f : Table 4 Dial → Table 4 Dial) (s : State) : (s.modDials f).store = s.store := rfl
@[simp] theorem modDials_signals (f : Table 4 Dial → Table 4 Dial) (s : State) : (s.modDials f).signals = s.signals := rfl

@[simp] theorem modBells_pending (f : BellTable → BellTable) (s : State) : (s.modBells f).pending = s.pending := rfl
@[simp] theorem modBells_power (f : BellTable → BellTable) (s : State) : (s.modBells f).power = s.power := rfl
@[simp] theorem modBells_tk (f : BellTable → BellTable) (s : State) : (s.modBells f).tk = s.tk := rfl
@[simp] theorem modBells_cal (f : BellTable → BellTable) (s : State) : (s.modBells f).cal = s.cal := rfl
@[simp] theorem modBells_dials (f : BellTable → BellTable) (s : State) : (s.modBells f).dials = s.dials := rfl
@[simp] theorem modBells_bells (f : BellTable → BellTable) (s : State) : (s.modBells f).bells = f s.bells := rfl
@[simp] theorem modBells_claims (f : BellTable → BellTable) (s : State) : (s.modBells f).claims = s.claims := rfl
@[simp] theorem modBells_engine (f : BellTable → BellTable) (s : State) : (s.modBells f).engine = s.engine := rfl
@[simp] theorem modBells_players (f : BellTable → BellTable) (s : State) : (s.modBells f).players = s.players := rfl
@[simp] theorem modBells_clavier (f : BellTable → BellTable) (s : State) : (s.modBells f).clavier = s.clavier := rfl
@[simp] theorem modBells_swing (f : BellTable → BellTable) (s : State) : (s.modBells f).swing = s.swing := rfl
@[simp] theorem modBells_lights (f : BellTable → BellTable) (s : State) : (s.modBells f).lights = s.lights := rfl
@[simp] theorem modBells_load (f : BellTable → BellTable) (s : State) : (s.modBells f).load = s.load := rfl
@[simp] theorem modBells_link (f : BellTable → BellTable) (s : State) : (s.modBells f).link = s.link := rfl
@[simp] theorem modBells_store (f : BellTable → BellTable) (s : State) : (s.modBells f).store = s.store := rfl
@[simp] theorem modBells_signals (f : BellTable → BellTable) (s : State) : (s.modBells f).signals = s.signals := rfl

@[simp] theorem modClaims_pending (f : Claims → Claims) (s : State) : (s.modClaims f).pending = s.pending := rfl
@[simp] theorem modClaims_power (f : Claims → Claims) (s : State) : (s.modClaims f).power = s.power := rfl
@[simp] theorem modClaims_tk (f : Claims → Claims) (s : State) : (s.modClaims f).tk = s.tk := rfl
@[simp] theorem modClaims_cal (f : Claims → Claims) (s : State) : (s.modClaims f).cal = s.cal := rfl
@[simp] theorem modClaims_dials (f : Claims → Claims) (s : State) : (s.modClaims f).dials = s.dials := rfl
@[simp] theorem modClaims_bells (f : Claims → Claims) (s : State) : (s.modClaims f).bells = s.bells := rfl
@[simp] theorem modClaims_claims (f : Claims → Claims) (s : State) : (s.modClaims f).claims = f s.claims := rfl
@[simp] theorem modClaims_engine (f : Claims → Claims) (s : State) : (s.modClaims f).engine = s.engine := rfl
@[simp] theorem modClaims_players (f : Claims → Claims) (s : State) : (s.modClaims f).players = s.players := rfl
@[simp] theorem modClaims_clavier (f : Claims → Claims) (s : State) : (s.modClaims f).clavier = s.clavier := rfl
@[simp] theorem modClaims_swing (f : Claims → Claims) (s : State) : (s.modClaims f).swing = s.swing := rfl
@[simp] theorem modClaims_lights (f : Claims → Claims) (s : State) : (s.modClaims f).lights = s.lights := rfl
@[simp] theorem modClaims_load (f : Claims → Claims) (s : State) : (s.modClaims f).load = s.load := rfl
@[simp] theorem modClaims_link (f : Claims → Claims) (s : State) : (s.modClaims f).link = s.link := rfl
@[simp] theorem modClaims_store (f : Claims → Claims) (s : State) : (s.modClaims f).store = s.store := rfl
@[simp] theorem modClaims_signals (f : Claims → Claims) (s : State) : (s.modClaims f).signals = s.signals := rfl

@[simp] theorem modEngine_pending (f : Engine → Engine) (s : State) : (s.modEngine f).pending = s.pending := rfl
@[simp] theorem modEngine_power (f : Engine → Engine) (s : State) : (s.modEngine f).power = s.power := rfl
@[simp] theorem modEngine_tk (f : Engine → Engine) (s : State) : (s.modEngine f).tk = s.tk := rfl
@[simp] theorem modEngine_cal (f : Engine → Engine) (s : State) : (s.modEngine f).cal = s.cal := rfl
@[simp] theorem modEngine_dials (f : Engine → Engine) (s : State) : (s.modEngine f).dials = s.dials := rfl
@[simp] theorem modEngine_bells (f : Engine → Engine) (s : State) : (s.modEngine f).bells = s.bells := rfl
@[simp] theorem modEngine_claims (f : Engine → Engine) (s : State) : (s.modEngine f).claims = s.claims := rfl
@[simp] theorem modEngine_engine (f : Engine → Engine) (s : State) : (s.modEngine f).engine = f s.engine := rfl
@[simp] theorem modEngine_players (f : Engine → Engine) (s : State) : (s.modEngine f).players = s.players := rfl
@[simp] theorem modEngine_clavier (f : Engine → Engine) (s : State) : (s.modEngine f).clavier = s.clavier := rfl
@[simp] theorem modEngine_swing (f : Engine → Engine) (s : State) : (s.modEngine f).swing = s.swing := rfl
@[simp] theorem modEngine_lights (f : Engine → Engine) (s : State) : (s.modEngine f).lights = s.lights := rfl
@[simp] theorem modEngine_load (f : Engine → Engine) (s : State) : (s.modEngine f).load = s.load := rfl
@[simp] theorem modEngine_link (f : Engine → Engine) (s : State) : (s.modEngine f).link = s.link := rfl
@[simp] theorem modEngine_store (f : Engine → Engine) (s : State) : (s.modEngine f).store = s.store := rfl
@[simp] theorem modEngine_signals (f : Engine → Engine) (s : State) : (s.modEngine f).signals = s.signals := rfl

@[simp] theorem modPlayers_pending (f : Players → Players) (s : State) : (s.modPlayers f).pending = s.pending := rfl
@[simp] theorem modPlayers_power (f : Players → Players) (s : State) : (s.modPlayers f).power = s.power := rfl
@[simp] theorem modPlayers_tk (f : Players → Players) (s : State) : (s.modPlayers f).tk = s.tk := rfl
@[simp] theorem modPlayers_cal (f : Players → Players) (s : State) : (s.modPlayers f).cal = s.cal := rfl
@[simp] theorem modPlayers_dials (f : Players → Players) (s : State) : (s.modPlayers f).dials = s.dials := rfl
@[simp] theorem modPlayers_bells (f : Players → Players) (s : State) : (s.modPlayers f).bells = s.bells := rfl
@[simp] theorem modPlayers_claims (f : Players → Players) (s : State) : (s.modPlayers f).claims = s.claims := rfl
@[simp] theorem modPlayers_engine (f : Players → Players) (s : State) : (s.modPlayers f).engine = s.engine := rfl
@[simp] theorem modPlayers_players (f : Players → Players) (s : State) : (s.modPlayers f).players = f s.players := rfl
@[simp] theorem modPlayers_clavier (f : Players → Players) (s : State) : (s.modPlayers f).clavier = s.clavier := rfl
@[simp] theorem modPlayers_swing (f : Players → Players) (s : State) : (s.modPlayers f).swing = s.swing := rfl
@[simp] theorem modPlayers_lights (f : Players → Players) (s : State) : (s.modPlayers f).lights = s.lights := rfl
@[simp] theorem modPlayers_load (f : Players → Players) (s : State) : (s.modPlayers f).load = s.load := rfl
@[simp] theorem modPlayers_link (f : Players → Players) (s : State) : (s.modPlayers f).link = s.link := rfl
@[simp] theorem modPlayers_store (f : Players → Players) (s : State) : (s.modPlayers f).store = s.store := rfl
@[simp] theorem modPlayers_signals (f : Players → Players) (s : State) : (s.modPlayers f).signals = s.signals := rfl

@[simp] theorem modClavier_pending (f : Clavier → Clavier) (s : State) : (s.modClavier f).pending = s.pending := rfl
@[simp] theorem modClavier_power (f : Clavier → Clavier) (s : State) : (s.modClavier f).power = s.power := rfl
@[simp] theorem modClavier_tk (f : Clavier → Clavier) (s : State) : (s.modClavier f).tk = s.tk := rfl
@[simp] theorem modClavier_cal (f : Clavier → Clavier) (s : State) : (s.modClavier f).cal = s.cal := rfl
@[simp] theorem modClavier_dials (f : Clavier → Clavier) (s : State) : (s.modClavier f).dials = s.dials := rfl
@[simp] theorem modClavier_bells (f : Clavier → Clavier) (s : State) : (s.modClavier f).bells = s.bells := rfl
@[simp] theorem modClavier_claims (f : Clavier → Clavier) (s : State) : (s.modClavier f).claims = s.claims := rfl
@[simp] theorem modClavier_engine (f : Clavier → Clavier) (s : State) : (s.modClavier f).engine = s.engine := rfl
@[simp] theorem modClavier_players (f : Clavier → Clavier) (s : State) : (s.modClavier f).players = s.players := rfl
@[simp] theorem modClavier_clavier (f : Clavier → Clavier) (s : State) : (s.modClavier f).clavier = f s.clavier := rfl
@[simp] theorem modClavier_swing (f : Clavier → Clavier) (s : State) : (s.modClavier f).swing = s.swing := rfl
@[simp] theorem modClavier_lights (f : Clavier → Clavier) (s : State) : (s.modClavier f).lights = s.lights := rfl
@[simp] theorem modClavier_load (f : Clavier → Clavier) (s : State) : (s.modClavier f).load = s.load := rfl
@[simp] theorem modClavier_link (f : Clavier → Clavier) (s : State) : (s.modClavier f).link = s.link := rfl
@[simp] theorem modClavier_store (f : Clavier → Clavier) (s : State) : (s.modClavier f).store = s.store := rfl
@[simp] theorem modClavier_signals (f : Clavier → Clavier) (s : State) : (s.modClavier f).signals = s.signals := rfl

@[simp] theorem modSwing_pending (f : Swing → Swing) (s : State) : (s.modSwing f).pending = s.pending := rfl
@[simp] theorem modSwing_power (f : Swing → Swing) (s : State) : (s.modSwing f).power = s.power := rfl
@[simp] theorem modSwing_tk (f : Swing → Swing) (s : State) : (s.modSwing f).tk = s.tk := rfl
@[simp] theorem modSwing_cal (f : Swing → Swing) (s : State) : (s.modSwing f).cal = s.cal := rfl
@[simp] theorem modSwing_dials (f : Swing → Swing) (s : State) : (s.modSwing f).dials = s.dials := rfl
@[simp] theorem modSwing_bells (f : Swing → Swing) (s : State) : (s.modSwing f).bells = s.bells := rfl
@[simp] theorem modSwing_claims (f : Swing → Swing) (s : State) : (s.modSwing f).claims = s.claims := rfl
@[simp] theorem modSwing_engine (f : Swing → Swing) (s : State) : (s.modSwing f).engine = s.engine := rfl
@[simp] theorem modSwing_players (f : Swing → Swing) (s : State) : (s.modSwing f).players = s.players := rfl
@[simp] theorem modSwing_clavier (f : Swing → Swing) (s : State) : (s.modSwing f).clavier = s.clavier := rfl
@[simp] theorem modSwing_swing (f : Swing → Swing) (s : State) : (s.modSwing f).swing = f s.swing := rfl
@[simp] theorem modSwing_lights (f : Swing → Swing) (s : State) : (s.modSwing f).lights = s.lights := rfl
@[simp] theorem modSwing_load (f : Swing → Swing) (s : State) : (s.modSwing f).load = s.load := rfl
@[simp] theorem modSwing_link (f : Swing → Swing) (s : State) : (s.modSwing f).link = s.link := rfl
@[simp] theorem modSwing_store (f : Swing → Swing) (s : State) : (s.modSwing f).store = s.store := rfl
@[simp] theorem modSwing_signals (f : Swing → Swing) (s : State) : (s.modSwing f).signals = s.signals := rfl

@[simp] theorem modLights_pending (f : Lights → Lights) (s : State) : (s.modLights f).pending = s.pending := rfl
@[simp] theorem modLights_power (f : Lights → Lights) (s : State) : (s.modLights f).power = s.power := rfl
@[simp] theorem modLights_tk (f : Lights → Lights) (s : State) : (s.modLights f).tk = s.tk := rfl
@[simp] theorem modLights_cal (f : Lights → Lights) (s : State) : (s.modLights f).cal = s.cal := rfl
@[simp] theorem modLights_dials (f : Lights → Lights) (s : State) : (s.modLights f).dials = s.dials := rfl
@[simp] theorem modLights_bells (f : Lights → Lights) (s : State) : (s.modLights f).bells = s.bells := rfl
@[simp] theorem modLights_claims (f : Lights → Lights) (s : State) : (s.modLights f).claims = s.claims := rfl
@[simp] theorem modLights_engine (f : Lights → Lights) (s : State) : (s.modLights f).engine = s.engine := rfl
@[simp] theorem modLights_players (f : Lights → Lights) (s : State) : (s.modLights f).players = s.players := rfl
@[simp] theorem modLights_clavier (f : Lights → Lights) (s : State) : (s.modLights f).clavier = s.clavier := rfl
@[simp] theorem modLights_swing (f : Lights → Lights) (s : State) : (s.modLights f).swing = s.swing := rfl
@[simp] theorem modLights_lights (f : Lights → Lights) (s : State) : (s.modLights f).lights = f s.lights := rfl
@[simp] theorem modLights_load (f : Lights → Lights) (s : State) : (s.modLights f).load = s.load := rfl
@[simp] theorem modLights_link (f : Lights → Lights) (s : State) : (s.modLights f).link = s.link := rfl
@[simp] theorem modLights_store (f : Lights → Lights) (s : State) : (s.modLights f).store = s.store := rfl
@[simp] theorem modLights_signals (f : Lights → Lights) (s : State) : (s.modLights f).signals = s.signals := rfl

@[simp] theorem modLoad_pending (f : Load → Load) (s : State) : (s.modLoad f).pending = s.pending := rfl
@[simp] theorem modLoad_power (f : Load → Load) (s : State) : (s.modLoad f).power = s.power := rfl
@[simp] theorem modLoad_tk (f : Load → Load) (s : State) : (s.modLoad f).tk = s.tk := rfl
@[simp] theorem modLoad_cal (f : Load → Load) (s : State) : (s.modLoad f).cal = s.cal := rfl
@[simp] theorem modLoad_dials (f : Load → Load) (s : State) : (s.modLoad f).dials = s.dials := rfl
@[simp] theorem modLoad_bells (f : Load → Load) (s : State) : (s.modLoad f).bells = s.bells := rfl
@[simp] theorem modLoad_claims (f : Load → Load) (s : State) : (s.modLoad f).claims = s.claims := rfl
@[simp] theorem modLoad_engine (f : Load → Load) (s : State) : (s.modLoad f).engine = s.engine := rfl
@[simp] theorem modLoad_players (f : Load → Load) (s : State) : (s.modLoad f).players = s.players := rfl
@[simp] theorem modLoad_clavier (f : Load → Load) (s : State) : (s.modLoad f).clavier = s.clavier := rfl
@[simp] theorem modLoad_swing (f : Load → Load) (s : State) : (s.modLoad f).swing = s.swing := rfl
@[simp] theorem modLoad_lights (f : Load → Load) (s : State) : (s.modLoad f).lights = s.lights := rfl
@[simp] theorem modLoad_load (f : Load → Load) (s : State) : (s.modLoad f).load = f s.load := rfl
@[simp] theorem modLoad_link (f : Load → Load) (s : State) : (s.modLoad f).link = s.link := rfl
@[simp] theorem modLoad_store (f : Load → Load) (s : State) : (s.modLoad f).store = s.store := rfl
@[simp] theorem modLoad_signals (f : Load → Load) (s : State) : (s.modLoad f).signals = s.signals := rfl

@[simp] theorem modLink_pending (f : Link → Link) (s : State) : (s.modLink f).pending = s.pending := rfl
@[simp] theorem modLink_power (f : Link → Link) (s : State) : (s.modLink f).power = s.power := rfl
@[simp] theorem modLink_tk (f : Link → Link) (s : State) : (s.modLink f).tk = s.tk := rfl
@[simp] theorem modLink_cal (f : Link → Link) (s : State) : (s.modLink f).cal = s.cal := rfl
@[simp] theorem modLink_dials (f : Link → Link) (s : State) : (s.modLink f).dials = s.dials := rfl
@[simp] theorem modLink_bells (f : Link → Link) (s : State) : (s.modLink f).bells = s.bells := rfl
@[simp] theorem modLink_claims (f : Link → Link) (s : State) : (s.modLink f).claims = s.claims := rfl
@[simp] theorem modLink_engine (f : Link → Link) (s : State) : (s.modLink f).engine = s.engine := rfl
@[simp] theorem modLink_players (f : Link → Link) (s : State) : (s.modLink f).players = s.players := rfl
@[simp] theorem modLink_clavier (f : Link → Link) (s : State) : (s.modLink f).clavier = s.clavier := rfl
@[simp] theorem modLink_swing (f : Link → Link) (s : State) : (s.modLink f).swing = s.swing := rfl
@[simp] theorem modLink_lights (f : Link → Link) (s : State) : (s.modLink f).lights = s.lights := rfl
@[simp] theorem modLink_load (f : Link → Link) (s : State) : (s.modLink f).load = s.load := rfl
@[simp] theorem modLink_link (f : Link → Link) (s : State) : (s.modLink f).link = f s.link := rfl
@[simp] theorem modLink_store (f : Link → Link) (s : State) : (s.modLink f).store = s.store := rfl
@[simp] theorem modLink_signals (f : Link → Link) (s : State) : (s.modLink f).signals = s.signals := rfl

@[simp] theorem modStore_pending (f : Store → Store) (s : State) : (s.modStore f).pending = s.pending := rfl
@[simp] theorem modStore_power (f : Store → Store) (s : State) : (s.modStore f).power = s.power := rfl
@[simp] theorem modStore_tk (f : Store → Store) (s : State) : (s.modStore f).tk = s.tk := rfl
@[simp] theorem modStore_cal (f : Store → Store) (s : State) : (s.modStore f).cal = s.cal := rfl
@[simp] theorem modStore_dials (f : Store → Store) (s : State) : (s.modStore f).dials = s.dials := rfl
@[simp] theorem modStore_bells (f : Store → Store) (s : State) : (s.modStore f).bells = s.bells := rfl
@[simp] theorem modStore_claims (f : Store → Store) (s : State) : (s.modStore f).claims = s.claims := rfl
@[simp] theorem modStore_engine (f : Store → Store) (s : State) : (s.modStore f).engine = s.engine := rfl
@[simp] theorem modStore_players (f : Store → Store) (s : State) : (s.modStore f).players = s.players := rfl
@[simp] theorem modStore_clavier (f : Store → Store) (s : State) : (s.modStore f).clavier = s.clavier := rfl
@[simp] theorem modStore_swing (f : Store → Store) (s : State) : (s.modStore f).swing = s.swing := rfl
@[simp] theorem modStore_lights (f : Store → Store) (s : State) : (s.modStore f).lights = s.lights := rfl
@[simp] theorem modStore_load (f : Store → Store) (s : State) : (s.modStore f).load = s.load := rfl
@[simp] theorem modStore_link (f : Store → Store) (s : State) : (s.modStore f).link = s.link := rfl
@[simp] theorem modStore_store (f : Store → Store) (s : State) : (s.modStore f).store = f s.store := rfl
@[simp] theorem modStore_signals (f : Store → Store) (s : State) : (s.modStore f).signals = s.signals := rfl

@[simp] theorem signal_pending (x : Signal) (s : State) : (s.signal x).pending = s.pending := rfl
@[simp] theorem signal_power (x : Signal) (s : State) : (s.signal x).power = s.power := rfl
@[simp] theorem signal_tk (x : Signal) (s : State) : (s.signal x).tk = s.tk := rfl
@[simp] theorem signal_cal (x : Signal) (s : State) : (s.signal x).cal = s.cal := rfl
@[simp] theorem signal_dials (x : Signal) (s : State) : (s.signal x).dials = s.dials := rfl
@[simp] theorem signal_bells (x : Signal) (s : State) : (s.signal x).bells = s.bells := rfl
@[simp] theorem signal_claims (x : Signal) (s : State) : (s.signal x).claims = s.claims := rfl
@[simp] theorem signal_engine (x : Signal) (s : State) : (s.signal x).engine = s.engine := rfl
@[simp] theorem signal_players (x : Signal) (s : State) : (s.signal x).players = s.players := rfl
@[simp] theorem signal_clavier (x : Signal) (s : State) : (s.signal x).clavier = s.clavier := rfl
@[simp] theorem signal_swing (x : Signal) (s : State) : (s.signal x).swing = s.swing := rfl
@[simp] theorem signal_lights (x : Signal) (s : State) : (s.signal x).lights = s.lights := rfl
@[simp] theorem signal_load (x : Signal) (s : State) : (s.signal x).load = s.load := rfl
@[simp] theorem signal_link (x : Signal) (s : State) : (s.signal x).link = s.link := rfl
@[simp] theorem signal_store (x : Signal) (s : State) : (s.signal x).store = s.store := rfl
@[simp] theorem signal_signals (x : Signal) (s : State) : (s.signal x).signals = s.signals ++ [x] := rfl

end State

/-! ## Tables -/

@[ext] theorem Table.ext {t u : Table n α} (h : t.rows = u.rows) : t = u := by
  cases t; cases u; simp_all

theorem Table.get_set (t : Table n α) (i j : Fin n) (a : α) : (t.set i a).get j = if j = i then a else t.get j := by
  unfold Table.get Table.set
  simp only [List.getElem_set, Fin.ext_iff]
  by_cases h : i.val = j.val <;> simp [h, eq_comm]

@[simp] theorem Table.get_set_same (t : Table n α) (i : Fin n) (a : α) : (t.set i a).get i = a := by simp [Table.get_set]

theorem Table.get_set_other (t : Table n α) {i j : Fin n} (a : α) (h : j ≠ i) : (t.set i a).get j = t.get j := by
  simp [Table.get_set, h]

theorem Table.get_modify (t : Table n α) (i j : Fin n) (f : α → α) :
    (t.modify i f).get j = if j = i then f (t.get i) else t.get j := by simp [Table.modify, Table.get_set]

@[simp] theorem Table.get_map (t : Table n α) (f : α → β) (i : Fin n) : (t.map f).get i = f (t.get i) := by
  simp [Table.get, Table.map]

@[simp] theorem Table.get_replicate (n : Nat) (a : α) (i : Fin n) : (Table.replicate n a).get i = a := by
  simp [Table.get, Table.replicate]

/-- A table is what its records are. -/
theorem Table.ext_get {t u : Table n α} (h : ∀ i, t.get i = u.get i) : t = u := by
  apply Table.ext
  apply List.ext_getElem (t.len.trans u.len.symm)
  intro i h1 h2
  exact h ⟨i, t.len ▸ h1⟩

/-! ## Values of the three ports -/

@[simp] theorem PerPort.get_set_same (t : PerPort α) (p : Port) (a : α) : (t.set p a).get p = a := by cases p <;> rfl

theorem PerPort.get_set (t : PerPort α) (p q : Port) (a : α) : (t.set p a).get q = if q = p then a else t.get q := by
  cases p <;> cases q <;> rfl

@[simp] theorem PerPort.set_set (t : PerPort α) (p : Port) (a b : α) : (t.set p a).set p b = t.set p b := by
  cases p <;> rfl

@[simp] theorem PerPort.get_map (t : PerPort α) (f : α → β) (p : Port) : (t.map f).get p = f (t.get p) := by
  cases p <;> rfl

namespace State

/-! ## Records -/

theorem bell_modBell (b c : Bell) (f : BellRec → BellRec) (s : State) :
    (s.modBell b f).bell c = if c = b then f (s.bell b) else s.bell c := Table.get_modify _ _ _ _

theorem dial_modDial (n m : Train) (f : Dial → Dial) (s : State) :
    (s.modDial n f).dial m = if m = n then f (s.dial n) else s.dial m := Table.get_modify _ _ _ _

theorem swingRec_modSwingRec (b c : Bell) (f : SwingRec → SwingRec) (s : State) :
    (s.modSwingRec b f).swingRec c = if c = b then f (s.swingRec b) else s.swingRec c := Table.get_modify _ _ _ _

theorem claim_setClaim (b c : Bell) (x : Option Claim) (s : State) :
    (s.setClaim b x).claim c = if c = b then x else s.claim c := Table.get_set _ _ _ _

theorem circuit_modCircuit (c d : Circuit) (f : CircuitRec → CircuitRec) (s : State) :
    (s.modCircuit c f).circuit d = if d = c then f (s.circuit c) else s.circuit d := Table.get_modify _ _ _ _

theorem port_modPort (p q : Port) (f : PortRec → PortRec) (s : State) :
    (s.modPort p f).port q = if q = p then f (s.port p) else s.port q := PerPort.get_set _ _ _ _

@[simp] theorem modPort_modPort (p : Port) (f g : PortRec → PortRec) (s : State) :
    (s.modPort p f).modPort p g = s.modPort p (fun r => g (f r)) := by
  simp [modPort, modLink]

@[simp] theorem locks_modPort (p : Port) (f : PortRec → PortRec) (s : State) :
    (s.modPort p f).link.locks = s.link.locks := rfl

end State

end Sys2Proof.Machine
end

