-- ==== Sys2Proof/Laws/Flash.lean ====
section
/-! SUPPORT. The laws of the external flash: every operation keeps the canonical form, a read after a write gives what was
written, and a write leaves every other address alone. -/

namespace Sys2Proof.Machine

theorem flashWfFrom_mono {lo lo' : Nat} {m : List Host.Cell} (h : flashWfFrom lo m = true) (hl : lo' ≤ lo) :
    flashWfFrom lo' m = true := by
  cases m with
  | nil => rfl
  | cons c rest =>
    obtain ⟨a, b⟩ := c
    simp only [flashWfFrom, Bool.and_eq_true, decide_eq_true_eq] at h ⊢
    exact ⟨⟨⟨by omega, h.1.1.2⟩, h.1.2⟩, h.2⟩

/-- An address below every listed one reads as erased. -/
theorem flashRead_below {lo x : Nat} {m : List Host.Cell} (h : flashWfFrom lo m = true) (hx : x < lo) :
    flashRead m x = erased := by
  induction m generalizing lo with
  | nil => rfl
  | cons c rest ih =>
    obtain ⟨a, b⟩ := c
    simp only [flashWfFrom, Bool.and_eq_true, decide_eq_true_eq] at h
    have e : (a == x) = false := by simp; omega
    simp only [flashRead, e, Bool.false_eq_true, if_false]
    exact ih h.2 (by omega)

theorem flashWrite_wfFrom {lo x : Nat} {m : List Host.Cell} (v : Byte) (h : flashWfFrom lo m = true) (hl : lo ≤ x)
    (hx : x < 64 * Config.slotBytes) : flashWfFrom lo (flashWrite m x v) = true := by
  induction m generalizing lo with
  | nil =>
    unfold flashWrite
    split
    · rfl
    · rename_i e
      simp_all [flashWfFrom]
  | cons c rest ih =>
    obtain ⟨a, b⟩ := c
    have h0 := h
    simp only [flashWfFrom, Bool.and_eq_true, decide_eq_true_eq] at h
    unfold flashWrite
    by_cases e : a = x
    · subst e
      simp only [beq_self_eq_true, if_true]
      split
      · exact flashWfFrom_mono h.2 (by omega)
      · rename_i e
        simp_all [flashWfFrom]
    · simp only [beq_iff_eq, e, if_false]
      split
      · split
        · exact h0
        · rename_i e
          simp_all [flashWfFrom]
      · rename_i lt
        simp only [flashWfFrom, Bool.and_eq_true, decide_eq_true_eq]
        exact ⟨⟨⟨h.1.1.1, h.1.1.2⟩, h.1.2⟩, ih h.2 (by omega)⟩

/-- A write keeps the canonical form. -/
theorem flashWrite_wf {x : Nat} {m : List Host.Cell} (v : Byte) (h : flashWf m = true) (hx : x < 64 * Config.slotBytes) :
    flashWf (flashWrite m x v) = true := flashWrite_wfFrom v h (Nat.zero_le _) hx

/-- What a read gives after a write. -/
theorem flashRead_flashWrite {lo x y : Nat} {m : List Host.Cell} (v : Byte) (h : flashWfFrom lo m = true) :
    flashRead (flashWrite m x v) y = if y = x then v else flashRead m y := by
  induction m generalizing lo with
  | nil =>
    unfold flashWrite
    split
    · rename_i e
      simp only [beq_iff_eq] at e
      simp [flashRead, e]
    · by_cases e : y = x
      · simp [flashRead, e]
      · simp [flashRead, e, Ne.symm e]
  | cons c rest ih =>
    obtain ⟨a, b⟩ := c
    simp only [flashWfFrom, Bool.and_eq_true, decide_eq_true_eq] at h
    unfold flashWrite
    by_cases e : a = x
    · subst e
      simp only [beq_self_eq_true, if_true]
      split
      · rename_i ev
        simp only [beq_iff_eq] at ev
        by_cases ey : y = a
        · subst ey
          rw [flashRead_below h.2 (by omega)]
          simp [ev]
        · simp [flashRead, ey, Ne.symm ey]
      · by_cases ey : y = a
        · simp [flashRead, ey]
        · simp [flashRead, ey, Ne.symm ey]
    · simp only [beq_iff_eq, e, if_false]
      split
      · rename_i lt
        split
        · rename_i ev
          by_cases ey : y = x
          · subst ey
            have r : flashRead rest y = erased := flashRead_below h.2 (by omega)
            simp [flashRead, e, ev, r]
          · rw [if_neg ey]
        · by_cases ey : y = x
          · simp [flashRead, ey]
          · simp [flashRead, ey, Ne.symm ey]
      · by_cases ea : a = y
        · subst ea
          simp [flashRead, e]
        · simp only [flashRead, beq_iff_eq, ea, if_false]
          exact ih h.2

theorem flashWriteAll_wf {x : Nat} {m : List Host.Cell} (l : List Byte) (h : flashWf m = true)
    (hx : x + l.length ≤ 64 * Config.slotBytes) : flashWf (flashWriteAll m x l) = true := by
  induction l generalizing m x with
  | nil => exact h
  | cons v l ih =>
    simp only [List.length_cons] at hx
    exact ih (flashWrite_wf v h (by omega)) (by omega)

/-- What a read gives after a run of writes. -/
theorem flashRead_flashWriteAll {x y : Nat} {m : List Host.Cell} (l : List Byte) (h : flashWf m = true)
    (hx : x + l.length ≤ 64 * Config.slotBytes) :
    flashRead (flashWriteAll m x l) y = if x ≤ y ∧ y < x + l.length then l.getD (y - x) erased else flashRead m y := by
  induction l generalizing m x with
  | nil =>
    have e : ¬(x ≤ y ∧ y < x) := by omega
    simp [flashWriteAll, e]
  | cons v l ih =>
    simp only [List.length_cons] at hx ⊢
    rw [flashWriteAll, ih (flashWrite_wf v h (by omega)) (by omega), flashRead_flashWrite v h]
    by_cases e : y = x
    · subst e
      simp
    · by_cases g : x + 1 ≤ y ∧ y < x + 1 + l.length
      · have g' : x ≤ y ∧ y < x + (l.length + 1) := by omega
        have k : y - x = (y - (x + 1)) + 1 := by omega
        simp only [g, g', and_self, if_true]
        rw [k, List.getD_cons_succ]
      · have g' : ¬(x ≤ y ∧ y < x + (l.length + 1)) := by omega
        simp only [g, g', if_false, e]

@[simp] theorem padSlot_length (l : List Byte) : (padSlot l).length = Config.slotBytes := by
  simp [padSlot]

theorem slotBase_le (t : TuneSlot) : slotBase t + Config.slotBytes ≤ 64 * Config.slotBytes := by
  have h := t.isLt
  unfold slotBase Config.slotBytes
  omega

/-- Programming a slot keeps the canonical form. -/
theorem slotProgram_wf {m : List Host.Cell} (t : TuneSlot) (l : List Byte) (h : flashWf m = true) :
    flashWf (slotProgram m t l) = true :=
  flashWriteAll_wf _ h (by rw [padSlot_length]; exact slotBase_le t)

/-- What a read gives after a slot has been programmed: the slot's bytes, and every other address as before. -/
theorem flashRead_slotProgram {m : List Host.Cell} (t : TuneSlot) (l : List Byte) (y : Nat) (h : flashWf m = true) :
    flashRead (slotProgram m t l) y =
      if slotBase t ≤ y ∧ y < slotBase t + Config.slotBytes then (padSlot l).getD (y - slotBase t) erased
      else flashRead m y := by
  have e := flashRead_flashWriteAll (x := slotBase t) (y := y) (padSlot l) h
    (by rw [padSlot_length]; exact slotBase_le t)
  rwa [padSlot_length] at e

/-- A cut commit keeps the canonical form, whatever bytes it leaves. -/
theorem cutSlot_wf {m : List Host.Cell} (t : TuneSlot) (n : Nat) (h : flashWf m = true) :
    flashWf (cutSlot m t n) = true := by
  unfold cutSlot
  dsimp only
  split <;> exact slotProgram_wf _ _ h

/-- The flash after the first cold start is in its canonical form. -/
theorem reset_flash_wf : flashWf State.reset.store.flash = true := rfl

end Sys2Proof.Machine
end

