-- ==== Sys2Proof/Laws/Frames.lean ====
section
/-! SUPPORT. For each shared operation, the blocks it can change: `op_within` carries a frame `s.changesOnly L t` on to the
state after the operation, where `l` holds those blocks. -/

namespace Sys2Proof.Machine.State

variable {s t u σ : State} {L m : List Block}

theorem changesOnly.refl (L : List Block) (s : State) : s.changesOnly L s := fun x _ => by cases x <;> rfl

theorem changesOnly.trans (h : s.changesOnly L t) (g : t.changesOnly L u) : s.changesOnly L u := by
  intro x hx
  have a := h x hx
  have b := g x hx
  cases x <;> exact Eq.trans b a

theorem changesOnly.mono (h : s.changesOnly L t) (g : L ⊆ m) : s.changesOnly m t := fun x hx => h x fun e => hx (g e)

theorem changesOnly.foldl {f : State → α → State} (hf : ∀ u a, s.changesOnly L u → s.changesOnly L (f u a))
    (h : s.changesOnly L t) (as : List α) : s.changesOnly L (as.foldl f t) := by
  induction as generalizing t with
  | nil => exact h
  | cons a as ih => exact ih (hf _ _ h)

/-- A frame on to a state that differs in one block of `l`. -/
theorem changesOnly.step {b : Block} (h : s.changesOnly L t) (hl : [b] ⊆ L)
    (hb : ∀ x, x ≠ b → t.sameBlock u x) : s.changesOnly L u :=
  h.trans fun x hx => hb x fun e => hx (hl (by simp [e]))

theorem ite_within {c : Prop} [Decidable c] (h : s.changesOnly L t) (g : s.changesOnly L u) :
    s.changesOnly L (if c then t else u) := by split <;> assumption

theorem clearSignals_within (h : s.changesOnly L t) (hl : [.signals] ⊆ L) (x : List Signal) :
    s.changesOnly L { t with signals := x } := h.step hl fun x hx => by cases x <;> first | rfl | exact absurd rfl hx

theorem modTk_within (h : s.changesOnly L σ) (hl : [.timekeeper] ⊆ L) (f : Timekeeper → Timekeeper) :
    s.changesOnly L (σ.modTk f) := by
  exact h.step hl fun x hx => by cases x <;> first | rfl | exact absurd rfl hx

theorem modCal_within (h : s.changesOnly L σ) (hl : [.calendar] ⊆ L) (f : Calendar → Calendar) :
    s.changesOnly L (σ.modCal f) := by
  exact h.step hl fun x hx => by cases x <;> first | rfl | exact absurd rfl hx

theorem modDials_within (h : s.changesOnly L σ) (hl : [.dials] ⊆ L) (f : Table 4 Dial → Table 4 Dial) :
    s.changesOnly L (σ.modDials f) := by
  exact h.step hl fun x hx => by cases x <;> first | rfl | exact absurd rfl hx

theorem modBells_within (h : s.changesOnly L σ) (hl : [.bells] ⊆ L) (f : BellTable → BellTable) :
    s.changesOnly L (σ.modBells f) := by
  exact h.step hl fun x hx => by cases x <;> first | rfl | exact absurd rfl hx

theorem modClaims_within (h : s.changesOnly L σ) (hl : [.claims] ⊆ L) (f : Claims → Claims) :
    s.changesOnly L (σ.modClaims f) := by
  exact h.step hl fun x hx => by cases x <;> first | rfl | exact absurd rfl hx

theorem modEngine_within (h : s.changesOnly L σ) (hl : [.engine] ⊆ L) (f : Engine → Engine) :
    s.changesOnly L (σ.modEngine f) := by
  exact h.step hl fun x hx => by cases x <;> first | rfl | exact absurd rfl hx

theorem modPlayers_within (h : s.changesOnly L σ) (hl : [.players] ⊆ L) (f : Players → Players) :
    s.changesOnly L (σ.modPlayers f) := by
  exact h.step hl fun x hx => by cases x <;> first | rfl | exact absurd rfl hx

theorem modClavier_within (h : s.changesOnly L σ) (hl : [.clavier] ⊆ L) (f : Clavier → Clavier) :
    s.changesOnly L (σ.modClavier f) := by
  exact h.step hl fun x hx => by cases x <;> first | rfl | exact absurd rfl hx

theorem modSwing_within (h : s.changesOnly L σ) (hl : [.swing] ⊆ L) (f : Swing → Swing) :
    s.changesOnly L (σ.modSwing f) := by
  exact h.step hl fun x hx => by cases x <;> first | rfl | exact absurd rfl hx

theorem modLights_within (h : s.changesOnly L σ) (hl : [.lights] ⊆ L) (f : Lights → Lights) :
    s.changesOnly L (σ.modLights f) := by
  exact h.step hl fun x hx => by cases x <;> first | rfl | exact absurd rfl hx

theorem modLoad_within (h : s.changesOnly L σ) (hl : [.load] ⊆ L) (f : Load → Load) :
    s.changesOnly L (σ.modLoad f) := by
  exact h.step hl fun x hx => by cases x <;> first | rfl | exact absurd rfl hx

theorem modLink_within (h : s.changesOnly L σ) (hl : [.link] ⊆ L) (f : Link → Link) :
    s.changesOnly L (σ.modLink f) := by
  exact h.step hl fun x hx => by cases x <;> first | rfl | exact absurd rfl hx

theorem modStore_within (h : s.changesOnly L σ) (hl : [.store] ⊆ L) (f : Store → Store) :
    s.changesOnly L (σ.modStore f) := by
  exact h.step hl fun x hx => by cases x <;> first | rfl | exact absurd rfl hx

theorem signal_within (h : s.changesOnly L σ) (hl : [.signals] ⊆ L) (x : Signal) :
    s.changesOnly L (σ.signal x) := by
  exact h.step hl fun x hx => by cases x <;> first | rfl | exact absurd rfl hx

theorem modBell_within (h : s.changesOnly L σ) (hl : [.bells] ⊆ L) (b : Bell) (f : BellRec → BellRec) :
    s.changesOnly L (σ.modBell b f) := by
  unfold modBell
  repeat' first
    | with_reducible exact h
    | with_reducible assumption
    | exact List.Subset.trans (by decide) hl
    | with_reducible apply modBells_within

theorem modDial_within (h : s.changesOnly L σ) (hl : [.dials] ⊆ L) (n : Train) (f : Dial → Dial) :
    s.changesOnly L (σ.modDial n f) := by
  unfold modDial
  repeat' first
    | with_reducible exact h
    | with_reducible assumption
    | exact List.Subset.trans (by decide) hl
    | with_reducible apply modDials_within

theorem modSwingRec_within (h : s.changesOnly L σ) (hl : [.swing] ⊆ L) (b : Bell) (f : SwingRec → SwingRec) :
    s.changesOnly L (σ.modSwingRec b f) := by
  unfold modSwingRec
  repeat' first
    | with_reducible exact h
    | with_reducible assumption
    | exact List.Subset.trans (by decide) hl
    | with_reducible apply modSwing_within

theorem setClaim_within (h : s.changesOnly L σ) (hl : [.claims] ⊆ L) (b : Bell) (c : Option Claim) :
    s.changesOnly L (σ.setClaim b c) := by
  unfold setClaim
  repeat' first
    | with_reducible exact h
    | with_reducible assumption
    | exact List.Subset.trans (by decide) hl
    | with_reducible apply modClaims_within

theorem modCircuit_within (h : s.changesOnly L σ) (hl : [.lights] ⊆ L) (c : Circuit) (f : CircuitRec → CircuitRec) :
    s.changesOnly L (σ.modCircuit c f) := by
  unfold modCircuit
  repeat' first
    | with_reducible exact h
    | with_reducible assumption
    | exact List.Subset.trans (by decide) hl
    | with_reducible apply modLights_within

theorem modPort_within (h : s.changesOnly L σ) (hl : [.link] ⊆ L) (p : Port) (f : PortRec → PortRec) :
    s.changesOnly L (σ.modPort p f) := by
  unfold modPort
  repeat' first
    | with_reducible exact h
    | with_reducible assumption
    | exact List.Subset.trans (by decide) hl
    | with_reducible apply modLink_within

theorem modBuffer_within (h : s.changesOnly L σ) (hl : [.players] ⊆ L) (q : Quarter) (f : Buffer → Buffer) :
    s.changesOnly L (σ.modBuffer q f) := by
  unfold modBuffer
  repeat' first
    | with_reducible exact h
    | with_reducible assumption
    | exact List.Subset.trans (by decide) hl
    | with_reducible apply modPlayers_within

theorem raise_within (h : s.changesOnly L σ) (hl : [.link] ⊆ L) (k : NoticeKind) (p : Port) :
    s.changesOnly L (σ.raise k p) := by
  unfold raise
  repeat' first
    | with_reducible exact h
    | with_reducible assumption
    | exact List.Subset.trans (by decide) hl
    | with_reducible apply modPort_within

theorem raiseAll_within (h : s.changesOnly L σ) (hl : [.link] ⊆ L) (k : NoticeKind) :
    s.changesOnly L (σ.raiseAll k) := by
  unfold raiseAll
  repeat' first
    | with_reducible exact h
    | with_reducible assumption
    | exact List.Subset.trans (by decide) hl
    | with_reducible apply raise_within

theorem raiseFor_within (h : s.changesOnly L σ) (hl : [.link] ⊆ L) (k : NoticeKind) (p : Option Port) :
    s.changesOnly L (σ.raiseFor k p) := by
  unfold raiseFor
  repeat' first
    | with_reducible exact h
    | with_reducible assumption
    | exact List.Subset.trans (by decide) hl
    | with_reducible apply raiseAll_within | with_reducible apply raise_within
    | split

theorem lose_within (h : s.changesOnly L σ) (hl : [.engine, .link] ⊆ L) (r : DropReason) :
    s.changesOnly L (σ.lose r) := by
  unfold lose
  repeat' first
    | with_reducible exact h
    | with_reducible assumption
    | exact List.Subset.trans (by decide) hl
    | with_reducible apply raiseAll_within | with_reducible apply modEngine_within
    | split

theorem linkError_within (h : s.changesOnly L σ) (hl : [.link] ⊆ L) (p : Port) (x : LinkError) :
    s.changesOnly L (σ.linkError p x) := by
  unfold linkError
  repeat' first
    | with_reducible exact h
    | with_reducible assumption
    | exact List.Subset.trans (by decide) hl
    | with_reducible apply raise_within | with_reducible apply modPort_within
    | split

theorem setHammer_within (h : s.changesOnly L σ) (hl : [.bells, .link, .signals] ⊆ L) (b : Bell) (h : Hammer) (timer : Option Nat) (quiet : Bool) :
    s.changesOnly L (σ.setHammer b h timer quiet) := by
  unfold setHammer
  repeat' first
    | with_reducible exact h
    | with_reducible assumption
    | exact List.Subset.trans (by decide) hl
    | with_reducible apply raiseAll_within | with_reducible apply modBell_within | with_reducible apply signal_within
    | split

theorem faultHammer_within (h : s.changesOnly L σ) (hl : [.bells, .link, .signals] ⊆ L) (b : Bell) (cause : HammerCause) (quiet : Bool) :
    s.changesOnly L (σ.faultHammer b cause quiet) := by
  unfold faultHammer
  repeat' first
    | with_reducible exact h
    | with_reducible assumption
    | exact List.Subset.trans (by decide) hl
    | with_reducible apply setHammer_within | with_reducible apply raiseAll_within | with_reducible apply modBell_within

theorem enterUnparking_within (h : s.changesOnly L σ) (hl : [.bells, .link, .signals] ⊆ L) (b : Bell) (quiet : Bool) :
    s.changesOnly L (σ.enterUnparking b quiet) := by
  unfold enterUnparking
  repeat' first
    | with_reducible exact h
    | with_reducible assumption
    | exact List.Subset.trans (by decide) hl
    | with_reducible apply faultHammer_within | with_reducible apply setHammer_within
    | split

theorem enterParked_within (h : s.changesOnly L σ) (hl : [.bells, .link, .signals] ⊆ L) (b : Bell) (quiet : Bool) :
    s.changesOnly L (σ.enterParked b quiet) := by
  unfold enterParked
  repeat' first
    | with_reducible exact h
    | with_reducible assumption
    | exact List.Subset.trans (by decide) hl
    | with_reducible apply enterUnparking_within | with_reducible apply faultHammer_within | with_reducible apply setHammer_within
    | split
    | dsimp only

theorem enterParking_within (h : s.changesOnly L σ) (hl : [.bells, .link, .signals] ⊆ L) (b : Bell) :
    s.changesOnly L (σ.enterParking b) := by
  unfold enterParking
  repeat' first
    | with_reducible exact h
    | with_reducible assumption
    | exact List.Subset.trans (by decide) hl
    | with_reducible apply enterParked_within | with_reducible apply faultHammer_within | with_reducible apply setHammer_within
    | split

theorem changeDemands_within (h : s.changesOnly L σ) (hl : [.bells, .link, .signals] ⊆ L) (b : Bell) (f : Demands → Demands) :
    s.changesOnly L (σ.changeDemands b f) := by
  unfold changeDemands
  repeat' first
    | with_reducible exact h
    | with_reducible assumption
    | exact List.Subset.trans (by decide) hl
    | with_reducible apply enterParking_within | with_reducible apply enterUnparking_within | with_reducible apply modBell_within
    | split
    | dsimp only

theorem pulseEnded_within (h : s.changesOnly L σ) (hl : [.bells, .link, .signals] ⊆ L) (b : Bell) :
    s.changesOnly L (σ.pulseEnded b) := by
  unfold pulseEnded
  repeat' first
    | with_reducible exact h
    | with_reducible assumption
    | exact List.Subset.trans (by decide) hl
    | with_reducible apply enterParking_within
    | split

theorem hammerSensors_within (h : s.changesOnly L σ) (hl : [.bells, .link, .signals] ⊆ L) (b : Bell) (restChanged homeChanged parkChanged : Bool) :
    s.changesOnly L (σ.hammerSensors b restChanged homeChanged parkChanged) := by
  unfold hammerSensors
  repeat' first
    | with_reducible exact h
    | with_reducible assumption
    | exact List.Subset.trans (by decide) hl
    | with_reducible apply enterParking_within | with_reducible apply enterParked_within | with_reducible apply enterUnparking_within
    | with_reducible apply faultHammer_within | with_reducible apply setHammer_within
    | split
    | dsimp only

theorem parkTimerExpires_within (h : s.changesOnly L σ) (hl : [.bells, .link, .signals] ⊆ L) (b : Bell) :
    s.changesOnly L (σ.parkTimerExpires b) := by
  unfold parkTimerExpires
  repeat' first
    | with_reducible exact h
    | with_reducible assumption
    | exact List.Subset.trans (by decide) hl
    | with_reducible apply faultHammer_within
    | split

theorem hammerFirstState_within (h : s.changesOnly L σ) (hl : [.bells, .link, .signals] ⊆ L) (b : Bell) :
    s.changesOnly L (σ.hammerFirstState b) := by
  unfold hammerFirstState
  repeat' first
    | with_reducible exact h
    | with_reducible assumption
    | exact List.Subset.trans (by decide) hl
    | with_reducible apply faultHammer_within | with_reducible apply setHammer_within | with_reducible apply modBell_within
    | split

theorem beginStoreOp_within (h : s.changesOnly L σ) (hl : [.store] ⊆ L) (op : StoreOp) :
    s.changesOnly L (σ.beginStoreOp op) := by
  unfold beginStoreOp
  repeat' first
    | with_reducible exact h
    | with_reducible assumption
    | exact List.Subset.trans (by decide) hl
    | with_reducible apply modStore_within

theorem enqueueStoreOp_within (h : s.changesOnly L σ) (hl : [.store] ⊆ L) (op : StoreOp) :
    s.changesOnly L (σ.enqueueStoreOp op) := by
  unfold enqueueStoreOp
  repeat' first
    | with_reducible exact h
    | with_reducible assumption
    | exact List.Subset.trans (by decide) hl
    | with_reducible apply beginStoreOp_within | with_reducible apply modStore_within
    | split

theorem nextStoreOp_within (h : s.changesOnly L σ) (hl : [.store] ⊆ L) :
    s.changesOnly L (σ.nextStoreOp) := by
  unfold nextStoreOp
  repeat' first
    | with_reducible exact h
    | with_reducible assumption
    | exact List.Subset.trans (by decide) hl
    | with_reducible apply beginStoreOp_within | with_reducible apply modStore_within
    | split
    | dsimp only

theorem wantBuffer_within (h : s.changesOnly L σ) (hl : [.players] ⊆ L) (q : Quarter) (t : TuneSlot) :
    s.changesOnly L (σ.wantBuffer q t) := by
  unfold wantBuffer
  repeat' first
    | with_reducible exact h
    | with_reducible assumption
    | exact List.Subset.trans (by decide) hl
    | with_reducible apply modBuffer_within | with_reducible apply modPlayers_within
    | split

theorem emptyBuffer_within (h : s.changesOnly L σ) (hl : [.players] ⊆ L) (q : Quarter) :
    s.changesOnly L (σ.emptyBuffer q) := by
  unfold emptyBuffer
  repeat' first
    | with_reducible exact h
    | with_reducible assumption
    | exact List.Subset.trans (by decide) hl
    | with_reducible apply modBuffer_within | with_reducible apply modPlayers_within

theorem assignBuffer_within (h : s.changesOnly L σ) (hl : [.players] ⊆ L) (q : Quarter) (t : Option TuneSlot) :
    s.changesOnly L (σ.assignBuffer q t) := by
  unfold assignBuffer
  repeat' first
    | with_reducible exact h
    | with_reducible assumption
    | exact List.Subset.trans (by decide) hl
    | with_reducible apply emptyBuffer_within | with_reducible apply wantBuffer_within
    | split

theorem assignBufferWhenFree_within (h : s.changesOnly L σ) (hl : [.players] ⊆ L) (q : Quarter) (t : Option TuneSlot) :
    s.changesOnly L (σ.assignBufferWhenFree q t) := by
  unfold assignBufferWhenFree
  repeat' first
    | with_reducible exact h
    | with_reducible assumption
    | exact List.Subset.trans (by decide) hl
    | with_reducible apply assignBuffer_within | with_reducible apply modBuffer_within
    | split

theorem requestFetch_within (h : s.changesOnly L σ) (hl : [.players, .store] ⊆ L) :
    s.changesOnly L (σ.requestFetch) := by
  unfold requestFetch
  repeat' first
    | with_reducible exact h
    | with_reducible assumption
    | exact List.Subset.trans (by decide) hl
    | with_reducible apply enqueueStoreOp_within | with_reducible apply modBuffer_within | with_reducible apply modPlayers_within
    | split

theorem releaseBuffer_within (h : s.changesOnly L σ) (hl : [.players, .store] ⊆ L) (q : Quarter) :
    s.changesOnly L (σ.releaseBuffer q) := by
  unfold releaseBuffer
  repeat' first
    | with_reducible exact h
    | with_reducible assumption
    | exact List.Subset.trans (by decide) hl
    | with_reducible apply requestFetch_within | with_reducible apply assignBuffer_within
    | split

theorem endQuarterRun_within (h : s.changesOnly L σ) (hl : [.players, .store] ⊆ L) :
    s.changesOnly L (σ.endQuarterRun) := by
  unfold endQuarterRun
  repeat' first
    | with_reducible exact h
    | with_reducible assumption
    | exact List.Subset.trans (by decide) hl
    | with_reducible apply releaseBuffer_within | with_reducible apply modPlayers_within
    | split

theorem clockFetchEnds_within (h : s.changesOnly L σ) (hl : [.players, .store] ⊆ L) (result : Except Status Tune) :
    s.changesOnly L (σ.clockFetchEnds result) := by
  unfold clockFetchEnds
  repeat' first
    | with_reducible exact h
    | with_reducible assumption
    | exact List.Subset.trans (by decide) hl
    | with_reducible apply requestFetch_within | with_reducible apply modBuffer_within | with_reducible apply modPlayers_within
    | split

theorem slotWritten_within (h : s.changesOnly L σ) (hl : [.players, .store] ⊆ L) (t : TuneSlot) :
    s.changesOnly L (σ.slotWritten t) := by
  unfold slotWritten
  repeat' first
    | with_reducible exact h
    | with_reducible assumption
    | exact List.Subset.trans (by decide) hl
    | with_reducible apply requestFetch_within | with_reducible apply assignBufferWhenFree_within
    | with_reducible refine changesOnly.foldl (fun _ _ _ => ?_) ?_ _
    | split

theorem quarterOutcome_within (h : s.changesOnly L σ) (hl : [.players] ⊆ L) (id : Nat) (o : EndOutcome) :
    s.changesOnly L (σ.quarterOutcome id o) := by
  unfold quarterOutcome
  repeat' first
    | with_reducible exact h
    | with_reducible assumption
    | exact List.Subset.trans (by decide) hl
    | with_reducible apply modPlayers_within

theorem hourOutcome_within (h : s.changesOnly L σ) (hl : [.players] ⊆ L) (id index : Nat) (o : EndOutcome) :
    s.changesOnly L (σ.hourOutcome id index o) := by
  unfold hourOutcome
  repeat' first
    | with_reducible exact h
    | with_reducible assumption
    | exact List.Subset.trans (by decide) hl
    | with_reducible apply modPlayers_within
    | split
    | dsimp only

theorem finishRequest_within (h : s.changesOnly L σ) (hl : [.players, .link] ⊆ L) (cause : EndCause) :
    s.changesOnly L (σ.finishRequest cause) := by
  unfold finishRequest
  repeat' first
    | with_reducible exact h
    | with_reducible assumption
    | exact List.Subset.trans (by decide) hl
    | with_reducible apply raise_within | with_reducible apply modPlayers_within
    | split

theorem completeRequest_within (h : s.changesOnly L σ) (hl : [.players, .link] ⊆ L) :
    s.changesOnly L (σ.completeRequest) := by
  unfold completeRequest
  repeat' first
    | with_reducible exact h
    | with_reducible assumption
    | exact List.Subset.trans (by decide) hl
    | with_reducible apply finishRequest_within
    | split

theorem modRequest_within (h : s.changesOnly L σ) (hl : [.players] ⊆ L) (f : RequestRun → RequestRun) :
    s.changesOnly L (σ.modRequest f) := by
  unfold modRequest
  repeat' first
    | with_reducible exact h
    | with_reducible assumption
    | exact List.Subset.trans (by decide) hl
    | with_reducible apply modPlayers_within

theorem modToll_within (h : s.changesOnly L σ) (hl : [.players] ⊆ L) (p : Port) (f : Option TollRun → Option TollRun) :
    s.changesOnly L (σ.modToll p f) := by
  unfold modToll
  repeat' first
    | with_reducible exact h
    | with_reducible assumption
    | exact List.Subset.trans (by decide) hl
    | with_reducible apply modPlayers_within

theorem tuneOutcome_within (h : s.changesOnly L σ) (hl : [.players, .link] ⊆ L) (id : Nat) (o : EndOutcome) :
    s.changesOnly L (σ.tuneOutcome id o) := by
  unfold tuneOutcome
  repeat' first
    | with_reducible exact h
    | with_reducible assumption
    | exact List.Subset.trans (by decide) hl
    | with_reducible apply modRequest_within | with_reducible apply completeRequest_within
    | split

theorem completeToll_within (h : s.changesOnly L σ) (hl : [.players, .link] ⊆ L) (p : Port) :
    s.changesOnly L (σ.completeToll p) := by
  unfold completeToll
  repeat' first
    | with_reducible exact h
    | with_reducible assumption
    | exact List.Subset.trans (by decide) hl
    | with_reducible apply modToll_within | with_reducible apply raise_within
    | split

theorem tollOutcome_within (h : s.changesOnly L σ) (hl : [.players, .link] ⊆ L) (p : Port) (id : Nat) (o : EndOutcome) :
    s.changesOnly L (σ.tollOutcome p id o) := by
  unfold tollOutcome
  repeat' first
    | with_reducible exact h
    | with_reducible assumption
    | exact List.Subset.trans (by decide) hl
    | with_reducible apply completeToll_within | with_reducible apply modToll_within
    | split

theorem endOutcome_within (h : s.changesOnly L σ) (hl : [.players, .clavier, .link] ⊆ L) (e : QueueEntry) (o : EndOutcome) :
    s.changesOnly L (σ.endOutcome e o) := by
  unfold endOutcome
  repeat' first
    | with_reducible exact h
    | with_reducible assumption
    | exact List.Subset.trans (by decide) hl
    | with_reducible apply tollOutcome_within | with_reducible apply tuneOutcome_within | with_reducible apply hourOutcome_within
    | with_reducible apply quarterOutcome_within | with_reducible apply modClavier_within
    | split

theorem plan_within (h : s.changesOnly L σ) (hl : [.bells, .engine, .link] ⊆ L) (r : StrikeRequest) :
    s.changesOnly L (σ.plan r) := by
  unfold plan
  repeat' first
    | with_reducible exact h
    | with_reducible assumption
    | exact List.Subset.trans (by decide) hl
    | with_reducible apply lose_within | with_reducible apply modBell_within | with_reducible apply modEngine_within
    | split

theorem renewByGrant_within (h : s.changesOnly L σ) (hl : [.claims] ⊆ L) (b : Bell) (port : Option Port) :
    s.changesOnly L (σ.renewByGrant b port) := by
  unfold renewByGrant
  repeat' first
    | with_reducible exact h
    | with_reducible assumption
    | exact List.Subset.trans (by decide) hl
    | with_reducible apply setClaim_within
    | split

theorem dropEntry_within (h : s.changesOnly L σ) (hl : [.engine, .players, .clavier, .link] ⊆ L) (e : QueueEntry) (r : DropReason) :
    s.changesOnly L (σ.dropEntry e r) := by
  unfold dropEntry
  repeat' first
    | with_reducible exact h
    | with_reducible assumption
    | exact List.Subset.trans (by decide) hl
    | with_reducible apply endOutcome_within | with_reducible apply lose_within | with_reducible apply modEngine_within

theorem grant_within (h : s.changesOnly L σ) (hl : [.bells, .claims, .engine, .players, .clavier, .link] ⊆ L) (k : HammerSlot) (e : QueueEntry) :
    s.changesOnly L (σ.grant k e) := by
  unfold grant
  repeat' first
    | with_reducible exact h
    | with_reducible assumption
    | exact List.Subset.trans (by decide) hl
    | with_reducible apply renewByGrant_within | with_reducible apply endOutcome_within | with_reducible apply modBell_within
    | with_reducible apply modEngine_within

theorem attempt_within (h : s.changesOnly L σ) (hl : [.bells, .claims, .engine, .players, .clavier, .link, .signals] ⊆ L) (k : HammerSlot) (e : QueueEntry) :
    s.changesOnly L (σ.attempt k e) := by
  unfold attempt
  repeat' first
    | with_reducible exact h
    | with_reducible assumption
    | exact List.Subset.trans (by decide) hl
    | with_reducible apply grant_within | with_reducible apply dropEntry_within | with_reducible apply faultHammer_within
    | split

theorem arbitrateFor_within (h : s.changesOnly L t) (hl : [.bells, .claims, .engine, .players, .clavier, .link, .signals] ⊆ L) (n : Nat) :
    s.changesOnly L (t.arbitrateFor n) := by
  induction n generalizing t with
  | zero => exact h
  | succ n ih =>
    unfold arbitrateFor
    split
    · exact ih (attempt_within h (List.Subset.trans (by decide) hl) _ _)
    · exact h

theorem arbitrate_within (h : s.changesOnly L σ) (hl : [.bells, .claims, .engine, .players, .clavier, .link, .signals] ⊆ L) :
    s.changesOnly L (σ.arbitrate) := by
  unfold arbitrate
  repeat' first
    | with_reducible exact h
    | with_reducible assumption
    | exact List.Subset.trans (by decide) hl
    | with_reducible apply arbitrateFor_within

theorem purge_within (h : s.changesOnly L σ) (hl : [.engine, .players, .clavier, .link] ⊆ L) (matching : QueueEntry → Bool) (r : DropReason) :
    s.changesOnly L (σ.purge matching r) := by
  unfold purge
  repeat' first
    | with_reducible exact h
    | with_reducible assumption
    | exact List.Subset.trans (by decide) hl
    | with_reducible apply dropEntry_within
    | with_reducible refine changesOnly.foldl (fun _ _ _ => ?_) ?_ _

theorem watchReservation_within (_ : s.changesOnly L t) (hl : [.signals] ⊆ L) (c : Circuit) (f : State → State)
    (hf : s.changesOnly L (f t)) : s.changesOnly L (t.watchReservation c f) := by
  unfold watchReservation
  dsimp only
  split
  · exact signal_within hf hl _
  · exact hf

theorem grantCircuit_within (h : s.changesOnly L σ) (hl : [.lights, .link, .signals] ⊆ L) (c : Circuit) (time : Nat) (before quiet : Bool) :
    s.changesOnly L (σ.grantCircuit c time before quiet) := by
  unfold grantCircuit
  repeat' first
    | with_reducible exact h
    | with_reducible assumption
    | exact List.Subset.trans (by decide) hl
    | with_reducible apply watchReservation_within | with_reducible apply raiseAll_within | with_reducible apply modCircuit_within
    | split
    | dsimp only

theorem rewant_within (h : s.changesOnly L σ) (hl : [.lights, .link, .signals] ⊆ L) (c : Circuit) (time : Nat) (quiet : Bool) :
    s.changesOnly L (σ.rewant c time quiet) := by
  unfold rewant
  repeat' first
    | with_reducible exact h
    | with_reducible assumption
    | exact List.Subset.trans (by decide) hl
    | with_reducible apply grantCircuit_within | with_reducible apply modCircuit_within
    | split
    | dsimp only

theorem shedCircuit_within (h : s.changesOnly L σ) (hl : [.lights, .link] ⊆ L) (c : Circuit) :
    s.changesOnly L (σ.shedCircuit c) := by
  unfold shedCircuit
  repeat' first
    | with_reducible exact h
    | with_reducible assumption
    | exact List.Subset.trans (by decide) hl
    | with_reducible apply raiseAll_within | with_reducible apply modCircuit_within

theorem shedFor_within (h : s.changesOnly L t) (hl : [.lights, .link] ⊆ L) (cs : List Circuit) (d : Nat) :
    s.changesOnly L (t.shedFor cs d) := by
  induction cs generalizing t d with
  | nil => exact h
  | cons c cs ih =>
    unfold shedFor
    repeat' split
    · exact h
    · exact ih h _
    · exact ih (shedCircuit_within h (List.Subset.trans (by decide) hl) _) _

theorem makeRoom_within (h : s.changesOnly L t) (hl : [.lights, .link] ⊆ L) {need : Nat} {u : State}
    (e : t.makeRoom need = some u) : s.changesOnly L u := by
  unfold makeRoom at e
  dsimp only at e
  split at e
  · cases e; exact h
  · split at e
    · cases e; exact shedFor_within h hl _ _
    · cases e

theorem restoreCircuit_within (h : s.changesOnly L σ) (hl : [.lights, .link, .signals] ⊆ L) (c : Circuit) :
    s.changesOnly L (σ.restoreCircuit c) := by
  unfold restoreCircuit
  repeat' first
    | with_reducible exact h
    | with_reducible assumption
    | exact List.Subset.trans (by decide) hl
    | with_reducible apply grantCircuit_within | with_reducible apply raiseAll_within | with_reducible apply modCircuit_within
    | split

theorem restoreLights_within (h : s.changesOnly L σ) (hl : [.lights, .link, .signals] ⊆ L) :
    s.changesOnly L (σ.restoreLights) := by
  unfold restoreLights
  repeat' first
    | with_reducible exact h
    | with_reducible assumption
    | exact List.Subset.trans (by decide) hl
    | with_reducible apply restoreCircuit_within
    | with_reducible refine changesOnly.foldl (fun _ _ _ => ?_) ?_ _
    | split

theorem leaveLoadQueue_within (h : s.changesOnly L σ) (hl : [.load, .signals] ⊆ L) (b : Bell) :
    s.changesOnly L (σ.leaveLoadQueue b) := by
  unfold leaveLoadQueue
  repeat' first
    | with_reducible exact h
    | with_reducible assumption
    | exact List.Subset.trans (by decide) hl
    | with_reducible apply signal_within | with_reducible apply modLoad_within
    | split
    | dsimp only

theorem endOverride_within (h : s.changesOnly L σ) (hl : [.lights, .link, .signals] ⊆ L) (c : Circuit) (time : Nat) :
    s.changesOnly L (σ.endOverride c time) := by
  unfold endOverride
  repeat' first
    | with_reducible exact h
    | with_reducible assumption
    | exact List.Subset.trans (by decide) hl
    | with_reducible apply rewant_within | with_reducible apply raiseAll_within | with_reducible apply modCircuit_within
    | split

theorem takeStep_within (h : s.changesOnly L σ) (hl : [.lights, .link, .signals] ⊆ L) (x : PlanStep) (time : Nat) :
    s.changesOnly L (σ.takeStep x time) := by
  unfold takeStep
  repeat' first
    | with_reducible exact h
    | with_reducible assumption
    | exact List.Subset.trans (by decide) hl
    | with_reducible apply endOverride_within | with_reducible apply modCircuit_within
    | with_reducible refine changesOnly.foldl (fun _ _ _ => ?_) ?_ _

theorem takeRingSteps_within (h : s.changesOnly L σ) (hl : [.lights, .link, .signals] ⊆ L) (starts : Bool) :
    s.changesOnly L (σ.takeRingSteps starts) := by
  unfold takeRingSteps
  repeat' first
    | with_reducible exact h
    | with_reducible assumption
    | exact List.Subset.trans (by decide) hl
    | with_reducible apply takeStep_within
    | with_reducible refine changesOnly.foldl (fun _ _ _ => ?_) ?_ _

theorem applyPassed_within (h : s.changesOnly L σ) (hl : [.lights] ⊆ L) (l : List TimelineStep) :
    s.changesOnly L (σ.applyPassed l) := by
  unfold applyPassed
  repeat' first
    | with_reducible exact h
    | with_reducible assumption
    | exact List.Subset.trans (by decide) hl
    | with_reducible apply modCircuit_within
    | with_reducible refine changesOnly.foldl (fun _ _ _ => ?_) ?_ _

theorem rewantAll_within (h : s.changesOnly L σ) (hl : [.lights, .link, .signals] ⊆ L) (time : Circuit → Nat) (quiet : Bool) :
    s.changesOnly L (σ.rewantAll time quiet) := by
  unfold rewantAll
  repeat' first
    | with_reducible exact h
    | with_reducible assumption
    | exact List.Subset.trans (by decide) hl
    | with_reducible apply rewant_within
    | with_reducible refine changesOnly.foldl (fun _ _ _ => ?_) ?_ _

theorem fallbackNotice_within (h : s.changesOnly L σ) (hl : [.link] ⊆ L) (before quiet : Bool) :
    s.changesOnly L (σ.fallbackNotice before quiet) := by
  unfold fallbackNotice
  repeat' first
    | with_reducible exact h
    | with_reducible assumption
    | exact List.Subset.trans (by decide) hl
    | with_reducible apply raiseAll_within
    | split

theorem buildTimeline_within (h : s.changesOnly L σ) (hl : [.lights, .link, .signals] ⊆ L) (quiet : Bool) :
    s.changesOnly L (σ.buildTimeline quiet) := by
  unfold buildTimeline
  repeat' first
    | with_reducible exact h
    | with_reducible assumption
    | exact List.Subset.trans (by decide) hl
    | with_reducible apply rewantAll_within | with_reducible apply applyPassed_within | with_reducible apply modLights_within
    | split

theorem takeDue_within (h : s.changesOnly L σ) (hl : [.lights, .link, .signals] ⊆ L) (m : Nat) :
    s.changesOnly L (σ.takeDue m) := by
  unfold takeDue
  repeat' first
    | with_reducible exact h
    | with_reducible assumption
    | exact List.Subset.trans (by decide) hl
    | with_reducible apply takeStep_within | with_reducible apply modLights_within
    | with_reducible refine changesOnly.foldl (fun _ _ _ => ?_) ?_ _

theorem endOverrides_within (h : s.changesOnly L σ) (hl : [.lights, .link, .signals] ⊆ L) (ends : Nat → Bool) :
    s.changesOnly L (σ.endOverrides ends) := by
  unfold endOverrides
  repeat' first
    | with_reducible exact h
    | with_reducible assumption
    | exact List.Subset.trans (by decide) hl
    | with_reducible apply endOverride_within
    | with_reducible refine changesOnly.foldl (fun _ _ _ => ?_) ?_ _
    | split

theorem takeLightMinute_within (h : s.changesOnly L σ) (hl : [.lights, .link, .signals] ⊆ L) (m : HeldMinute) :
    s.changesOnly L (σ.takeLightMinute m) := by
  unfold takeLightMinute
  repeat' first
    | with_reducible exact h
    | with_reducible assumption
    | exact List.Subset.trans (by decide) hl
    | with_reducible apply endOverrides_within | with_reducible apply takeDue_within
    | split

theorem lightMinute_within (h : s.changesOnly L σ) (hl : [.lights, .link, .signals] ⊆ L) (m : HeldMinute) :
    s.changesOnly L (σ.lightMinute m) := by
  unfold lightMinute
  repeat' first
    | with_reducible exact h
    | with_reducible assumption
    | exact List.Subset.trans (by decide) hl
    | with_reducible apply takeLightMinute_within | with_reducible apply modLights_within
    | split

theorem takeHeldMinutes_within (h : s.changesOnly L σ) (hl : [.lights, .link, .signals] ⊆ L) :
    s.changesOnly L (σ.takeHeldMinutes) := by
  unfold takeHeldMinutes
  repeat' first
    | with_reducible exact h
    | with_reducible assumption
    | exact List.Subset.trans (by decide) hl
    | with_reducible apply takeLightMinute_within | with_reducible apply modLights_within
    | with_reducible refine changesOnly.foldl (fun _ _ _ => ?_) ?_ _

theorem lightHandOver_within (h : s.changesOnly L σ) (hl : [.lights, .link, .signals] ⊆ L) (d : Date) (plan : Option PlanNo) (valid : Option Bool) (quiet : Bool) :
    s.changesOnly L (σ.lightHandOver d plan valid quiet) := by
  unfold lightHandOver
  repeat' first
    | with_reducible exact h
    | with_reducible assumption
    | exact List.Subset.trans (by decide) hl
    | with_reducible apply takeHeldMinutes_within | with_reducible apply buildTimeline_within | with_reducible apply fallbackNotice_within
    | with_reducible apply modLights_within

theorem lightTimeChange_within (h : s.changesOnly L σ) (hl : [.lights, .link, .signals] ⊆ L) (t u : LocalTime) :
    s.changesOnly L (σ.lightTimeChange t u) := by
  unfold lightTimeChange
  repeat' first
    | with_reducible exact h
    | with_reducible assumption
    | exact List.Subset.trans (by decide) hl
    | with_reducible apply endOverrides_within | with_reducible apply buildTimeline_within

theorem ringCrossing_within (h : s.changesOnly L σ) (hl : [.lights, .link, .signals] ⊆ L) (before : Nat) :
    s.changesOnly L (σ.ringCrossing before) := by
  unfold ringCrossing
  repeat' first
    | with_reducible exact h
    | with_reducible assumption
    | exact List.Subset.trans (by decide) hl
    | with_reducible apply takeRingSteps_within
    | split

theorem slotRunHears_within (h : s.changesOnly L σ) (hl : [.swing, .signals] ⊆ L) (b : Bell) (x : SwingState) :
    s.changesOnly L (σ.slotRunHears b x) := by
  unfold slotRunHears
  repeat' first
    | with_reducible exact h
    | with_reducible assumption
    | exact List.Subset.trans (by decide) hl
    | with_reducible apply signal_within | with_reducible apply modSwing_within
    | split

theorem setSwing_within (h : s.changesOnly L σ) (hl : [.bells, .swing, .lights, .link, .signals] ⊆ L) (b : Bell) (f : SwingRec → SwingRec) (quiet : Bool) :
    s.changesOnly L (σ.setSwing b f quiet) := by
  unfold setSwing
  repeat' first
    | with_reducible exact h
    | with_reducible assumption
    | exact List.Subset.trans (by decide) hl
    | with_reducible apply slotRunHears_within | with_reducible apply ringCrossing_within | with_reducible apply changeDemands_within
    | with_reducible apply raiseAll_within | with_reducible apply modSwingRec_within | with_reducible apply modBell_within
    | with_reducible apply signal_within
    | split

theorem toStarting_within (h : s.changesOnly L σ) (hl : [.bells, .swing, .lights, .link, .signals] ⊆ L) (b : Bell) :
    s.changesOnly L (σ.toStarting b) := by
  unfold toStarting
  repeat' first
    | with_reducible exact h
    | with_reducible assumption
    | exact List.Subset.trans (by decide) hl
    | with_reducible apply setSwing_within

theorem toRinging_within (h : s.changesOnly L σ) (hl : [.bells, .swing, .lights, .link, .signals] ⊆ L) (b : Bell) :
    s.changesOnly L (σ.toRinging b) := by
  unfold toRinging
  repeat' first
    | with_reducible exact h
    | with_reducible assumption
    | exact List.Subset.trans (by decide) hl
    | with_reducible apply setSwing_within

theorem toSettling_within (h : s.changesOnly L σ) (hl : [.bells, .swing, .lights, .link, .signals] ⊆ L) (b : Bell) (quiet : Bool) :
    s.changesOnly L (σ.toSettling b quiet) := by
  unfold toSettling
  repeat' first
    | with_reducible exact h
    | with_reducible assumption
    | exact List.Subset.trans (by decide) hl
    | with_reducible apply setSwing_within

theorem testRest_within (h : s.changesOnly L σ) (hl : [.bells, .swing, .lights, .link, .signals] ⊆ L) (b : Bell) :
    s.changesOnly L (σ.testRest b) := by
  unfold testRest
  repeat' first
    | with_reducible exact h
    | with_reducible assumption
    | exact List.Subset.trans (by decide) hl
    | with_reducible apply toSettling_within
    | split

theorem toStopping_within (h : s.changesOnly L σ) (hl : [.bells, .swing, .lights, .link, .signals] ⊆ L) (b : Bell) (cause : Option SwingCause) (quiet : Bool) :
    s.changesOnly L (σ.toStopping b cause quiet) := by
  unfold toStopping
  repeat' first
    | with_reducible exact h
    | with_reducible assumption
    | exact List.Subset.trans (by decide) hl
    | with_reducible apply testRest_within | with_reducible apply setSwing_within

theorem toIdle_within (h : s.changesOnly L σ) (hl : [.bells, .swing, .lights, .link, .signals] ⊆ L) (b : Bell) (cause : Option SwingCause) (quiet : Bool) :
    s.changesOnly L (σ.toIdle b cause quiet) := by
  unfold toIdle
  repeat' first
    | with_reducible exact h
    | with_reducible assumption
    | exact List.Subset.trans (by decide) hl
    | with_reducible apply setSwing_within

theorem giveUp_within (h : s.changesOnly L σ) (hl : [.bells, .swing, .lights, .load, .link, .signals] ⊆ L) (b : Bell) (cause : SwingCause) :
    s.changesOnly L (σ.giveUp b cause) := by
  unfold giveUp
  repeat' first
    | with_reducible exact h
    | with_reducible assumption
    | exact List.Subset.trans (by decide) hl
    | with_reducible apply toIdle_within | with_reducible apply leaveLoadQueue_within

theorem swingFaults_within (h : s.changesOnly L σ) (hl : [.bells, .swing, .lights, .load, .link, .signals] ⊆ L) (b : Bell) (cause : SwingFault) :
    s.changesOnly L (σ.swingFaults b cause) := by
  unfold swingFaults
  repeat' first
    | with_reducible exact h
    | with_reducible assumption
    | exact List.Subset.trans (by decide) hl
    | with_reducible apply setSwing_within | with_reducible apply leaveLoadQueue_within | with_reducible apply raiseAll_within

theorem bringDown_within (h : s.changesOnly L σ) (hl : [.bells, .swing, .lights, .load, .link, .signals] ⊆ L) (b : Bell) (cause : SwingCause) :
    s.changesOnly L (σ.bringDown b cause) := by
  unfold bringDown
  repeat' first
    | with_reducible exact h
    | with_reducible assumption
    | exact List.Subset.trans (by decide) hl
    | with_reducible apply giveUp_within | with_reducible apply toStopping_within
    | split

theorem toParking_within (h : s.changesOnly L σ) (hl : [.bells, .engine, .players, .clavier, .swing, .lights, .link, .signals] ⊆ L) (b : Bell) (origin : Origin) (minutes : Option Nat) :
    s.changesOnly L (σ.toParking b origin minutes) := by
  unfold toParking
  repeat' first
    | with_reducible exact h
    | with_reducible assumption
    | exact List.Subset.trans (by decide) hl
    | with_reducible apply setSwing_within | with_reducible apply purge_within | with_reducible apply signal_within
    | split
    | dsimp only

theorem joinLoadQueue_within (h : s.changesOnly L σ) (hl : [.bells, .swing, .lights, .load, .link, .signals] ⊆ L) (b : Bell) :
    s.changesOnly L (σ.joinLoadQueue b) := by
  unfold joinLoadQueue
  repeat' first
    | with_reducible exact h
    | with_reducible assumption
    | exact List.Subset.trans (by decide) hl
    | with_reducible apply toIdle_within | with_reducible apply raiseFor_within | with_reducible apply modLoad_within
    | split

theorem toWaitLoad_within (h : s.changesOnly L t) (hl : [.bells, .swing, .lights, .load, .link, .signals] ⊆ L) (b : Bell) : s.changesOnly L (t.toWaitLoad b) := by
  unfold toWaitLoad
  dsimp only
  have c := setSwing_within h (List.Subset.trans (by decide) hl) b (fun r => { r with state := .waitLoad }) false
  split
  · split
    · rename_i e
      exact toStarting_within (makeRoom_within c (List.Subset.trans (by decide) hl) e)
        (List.Subset.trans (by decide) hl) _
    · exact joinLoadQueue_within c (List.Subset.trans (by decide) hl) _
  · exact joinLoadQueue_within c (List.Subset.trans (by decide) hl) _

theorem admitHeads_within (h : s.changesOnly L t) (hl : [.bells, .swing, .lights, .load, .link, .signals] ⊆ L) (n : Nat) : s.changesOnly L (t.admitHeads n) := by
  induction n generalizing t with
  | zero => exact h
  | succ n ih =>
    unfold admitHeads
    split
    · exact h
    · split
      · rename_i e
        exact ih (toStarting_within (modLoad_within (makeRoom_within h (List.Subset.trans (by decide) hl) e)
          (List.Subset.trans (by decide) hl) _) (List.Subset.trans (by decide) hl) _)
      · exact h

theorem reevaluate_within (h : s.changesOnly L σ) (hl : [.bells, .swing, .lights, .load, .link, .signals] ⊆ L) :
    s.changesOnly L (σ.reevaluate) := by
  unfold reevaluate
  repeat' first
    | with_reducible exact h
    | with_reducible assumption
    | exact List.Subset.trans (by decide) hl
    | with_reducible apply admitHeads_within | with_reducible apply restoreLights_within

theorem modRun_within (h : s.changesOnly L σ) (hl : [.swing] ⊆ L) (id : Nat) (f : SlotRun → SlotRun) :
    s.changesOnly L (σ.modRun id f) := by
  unfold modRun
  repeat' first
    | with_reducible exact h
    | with_reducible assumption
    | exact List.Subset.trans (by decide) hl
    | with_reducible apply modSwing_within

theorem takeBells_within (h : s.changesOnly L t) (hl : [.bells, .engine, .players, .clavier, .swing, .lights, .link, .signals] ⊆ L) (id : Nat) (bs : List Bell) :
    s.changesOnly L (t.takeBells id bs) := by
  induction bs generalizing t with
  | nil => exact modRun_within h (List.Subset.trans (by decide) hl) _ _
  | cons b bs ih =>
    unfold takeBells
    split
    · exact ih (raiseAll_within (modRun_within h (List.Subset.trans (by decide) hl) _ _)
        (List.Subset.trans (by decide) hl) _)
    · exact toParking_within (modRun_within h (List.Subset.trans (by decide) hl) _ _)
        (List.Subset.trans (by decide) hl) _ _ _

theorem slotNext_within (h : s.changesOnly L σ) (hl : [.bells, .engine, .players, .clavier, .swing, .lights, .link, .signals] ⊆ L) (id : Nat) :
    s.changesOnly L (σ.slotNext id) := by
  unfold slotNext
  repeat' first
    | with_reducible exact h
    | with_reducible assumption
    | exact List.Subset.trans (by decide) hl
    | with_reducible apply takeBells_within | with_reducible apply modRun_within
    | split

theorem recordSlot_within (h : s.changesOnly L σ) (hl : [.swing] ⊆ L) (x : SlotRecord) :
    s.changesOnly L (σ.recordSlot x) := by
  unfold recordSlot
  repeat' first
    | with_reducible exact h
    | with_reducible assumption
    | exact List.Subset.trans (by decide) hl
    | with_reducible apply modSwing_within

theorem endRun_within (h : s.changesOnly L σ) (hl : [.swing] ⊆ L) (r : SlotRun) :
    s.changesOnly L (σ.endRun r) := by
  unfold endRun
  repeat' first
    | with_reducible exact h
    | with_reducible assumption
    | exact List.Subset.trans (by decide) hl
    | with_reducible apply recordSlot_within | with_reducible apply modSwing_within

theorem slotRunEnds_within (h : s.changesOnly L σ) (hl : [.bells, .swing, .lights, .load, .link, .signals] ⊆ L) (r : SlotRun) :
    s.changesOnly L (σ.slotRunEnds r) := by
  unfold slotRunEnds
  repeat' first
    | with_reducible exact h
    | with_reducible assumption
    | exact List.Subset.trans (by decide) hl
    | with_reducible apply endRun_within | with_reducible apply bringDown_within
    | with_reducible refine changesOnly.foldl (fun _ _ _ => ?_) ?_ _
    | split

theorem startSlot_within (h : s.changesOnly L σ) (hl : [.bells, .engine, .players, .clavier, .swing, .lights, .link, .signals] ⊆ L) (d : Date) (number : Nat) (x : RingSlot) :
    s.changesOnly L (σ.startSlot d number x) := by
  unfold startSlot
  repeat' first
    | with_reducible exact h
    | with_reducible assumption
    | exact List.Subset.trans (by decide) hl
    | with_reducible apply recordSlot_within | with_reducible apply slotNext_within | with_reducible apply raiseAll_within
    | with_reducible apply modSwing_within
    | split

theorem actOnMinute_within (h : s.changesOnly L σ) (hl : [.bells, .engine, .players, .clavier, .swing, .lights, .link, .signals] ⊆ L) (d : Date) (m : Nat) :
    s.changesOnly L (σ.actOnMinute d m) := by
  unfold actOnMinute
  repeat' first
    | with_reducible exact h
    | with_reducible assumption
    | exact List.Subset.trans (by decide) hl
    | with_reducible apply startSlot_within | with_reducible apply recordSlot_within | with_reducible apply raiseAll_within
    | with_reducible apply modSwing_within
    | with_reducible refine changesOnly.foldl (fun _ _ _ => ?_) ?_ _
    | split
    | dsimp only

theorem swingMinute_within (h : s.changesOnly L σ) (hl : [.bells, .engine, .players, .clavier, .swing, .lights, .link, .signals] ⊆ L) (d : Date) (m : Nat) (valid : Bool) :
    s.changesOnly L (σ.swingMinute d m valid) := by
  unfold swingMinute
  repeat' first
    | with_reducible exact h
    | with_reducible assumption
    | exact List.Subset.trans (by decide) hl
    | with_reducible apply actOnMinute_within | with_reducible apply modSwing_within
    | split

theorem swingHandOver_within (h : s.changesOnly L σ) (hl : [.bells, .engine, .players, .clavier, .swing, .lights, .link, .signals] ⊆ L) (d : Date) (slots : List RingSlot) :
    s.changesOnly L (σ.swingHandOver d slots) := by
  unfold swingHandOver
  repeat' first
    | with_reducible exact h
    | with_reducible assumption
    | exact List.Subset.trans (by decide) hl
    | with_reducible apply actOnMinute_within | with_reducible apply modSwing_within
    | with_reducible refine changesOnly.foldl (fun _ _ _ => ?_) ?_ _

theorem swingEdge_within (h : s.changesOnly L σ) (hl : [.bells, .swing, .lights, .link, .signals] ⊆ L) (b : Bell) :
    s.changesOnly L (σ.swingEdge b) := by
  unfold swingEdge
  repeat' first
    | with_reducible exact h
    | with_reducible assumption
    | exact List.Subset.trans (by decide) hl
    | with_reducible apply testRest_within | with_reducible apply modSwingRec_within
    | split
    | dsimp only

theorem swingRest_within (h : s.changesOnly L σ) (hl : [.bells, .swing, .lights, .link, .signals] ⊆ L) (b : Bell) :
    s.changesOnly L (σ.swingRest b) := by
  unfold swingRest
  repeat' first
    | with_reducible exact h
    | with_reducible assumption
    | exact List.Subset.trans (by decide) hl
    | with_reducible apply toStopping_within | with_reducible apply testRest_within
    | split

theorem swingLockOut_within (h : s.changesOnly L σ) (hl : [.bells, .swing, .lights, .load, .link, .signals] ⊆ L) :
    s.changesOnly L (σ.swingLockOut) := by
  unfold swingLockOut
  repeat' first
    | with_reducible exact h
    | with_reducible assumption
    | exact List.Subset.trans (by decide) hl
    | with_reducible apply bringDown_within
    | with_reducible refine changesOnly.foldl (fun _ _ _ => ?_) ?_ _

theorem swingAllStop_within (h : s.changesOnly L σ) (hl : [.bells, .swing, .lights, .load, .link, .signals] ⊆ L) :
    s.changesOnly L (σ.swingAllStop) := by
  unfold swingAllStop
  repeat' first
    | with_reducible exact h
    | with_reducible assumption
    | exact List.Subset.trans (by decide) hl
    | with_reducible apply endRun_within | with_reducible apply bringDown_within
    | with_reducible refine changesOnly.foldl (fun _ _ _ => ?_) ?_ _

theorem swingFirstState_within (h : s.changesOnly L σ) (hl : [.bells, .swing, .lights, .link, .signals] ⊆ L) (b : Bell) :
    s.changesOnly L (σ.swingFirstState b) := by
  unfold swingFirstState
  repeat' first
    | with_reducible exact h
    | with_reducible assumption
    | exact List.Subset.trans (by decide) hl
    | with_reducible apply toIdle_within | with_reducible apply toStopping_within | with_reducible apply toSettling_within
    | split

theorem hammerReported_within (h : s.changesOnly L σ) (hl : [.bells, .swing, .lights, .load, .link, .signals] ⊆ L) (b : Bell) :
    s.changesOnly L (σ.hammerReported b) := by
  unfold hammerReported
  repeat' first
    | with_reducible exact h
    | with_reducible assumption
    | exact List.Subset.trans (by decide) hl
    | with_reducible apply toWaitLoad_within | with_reducible apply swingFaults_within
    | split

theorem deliver_within (h : s.changesOnly L t) (hl : [.bells, .engine, .players, .clavier, .swing, .lights, .load, .link, .signals] ⊆ L) (x : Signal) : s.changesOnly L (deliver x t) := by
  cases x with
  | hammer b => exact hammerReported_within h (List.Subset.trans (by decide) hl) b
  | loadFell => exact reevaluate_within h (List.Subset.trans (by decide) hl)
  | slotNext id => exact slotNext_within h (List.Subset.trans (by decide) hl) id

theorem settleFor_within (h : s.changesOnly L t) (hl : [.bells, .engine, .players, .clavier, .swing, .lights, .load, .link, .signals] ⊆ L) (n : Nat) : s.changesOnly L (t.settleFor n) := by
  induction n generalizing t with
  | zero => exact h
  | succ n ih =>
    unfold settleFor
    split
    · exact h
    · exact ih (deliver_within (clearSignals_within h (List.Subset.trans (by decide) hl) _) hl _)

/-- What the deliveries of the signals between the blocks can change. -/
theorem settle_within (h : s.changesOnly L t) (hl : [.bells, .engine, .players, .clavier, .swing, .lights, .load, .link, .signals] ⊆ L) : s.changesOnly L t.settle := settleFor_within h hl _

theorem advanceQuarter_within (h : s.changesOnly L σ) (hl : [.players, .store] ⊆ L) :
    s.changesOnly L (σ.advanceQuarter) := by
  unfold advanceQuarter
  repeat' first
    | with_reducible exact h
    | with_reducible assumption
    | exact List.Subset.trans (by decide) hl
    | with_reducible apply endQuarterRun_within | with_reducible apply modPlayers_within
    | split
    | dsimp only

theorem chimeLost_within (h : s.changesOnly L σ) (hl : [.engine, .link] ⊆ L) (reason : DropReason) :
    s.changesOnly L (σ.chimeLost reason) := by
  unfold chimeLost
  repeat' first
    | with_reducible exact h
    | with_reducible assumption
    | exact List.Subset.trans (by decide) hl
    | with_reducible apply lose_within

theorem chimeNotHeld_within (h : s.changesOnly L σ) (hl : [.engine, .link] ⊆ L) (q : Quarter) :
    s.changesOnly L (σ.chimeNotHeld q) := by
  unfold chimeNotHeld
  split
  · exact h
  · exact chimeLost_within h hl _

theorem testFourthQuarter_within (h : s.changesOnly L σ) (hl : [.engine, .players, .link, .store] ⊆ L) :
    s.changesOnly L (σ.testFourthQuarter) := by
  unfold testFourthQuarter
  repeat' first
    | with_reducible exact h
    | with_reducible assumption
    | exact List.Subset.trans (by decide) hl
    | with_reducible apply chimeNotHeld_within | with_reducible apply advanceQuarter_within | with_reducible apply modPlayers_within
    | split

theorem handQuarter_within (h : s.changesOnly L σ) (hl : [.bells, .claims, .engine, .players, .clavier, .link, .store, .signals] ⊆ L) :
    s.changesOnly L (σ.handQuarter) := by
  unfold handQuarter
  repeat' first
    | with_reducible exact h
    | with_reducible assumption
    | exact List.Subset.trans (by decide) hl
    | with_reducible apply advanceQuarter_within | with_reducible apply arbitrate_within | with_reducible apply plan_within
    | with_reducible apply modPlayers_within
    | split
    | dsimp only

theorem beginQuarterRun_within (h : s.changesOnly L σ) (hl : [.players, .store] ⊆ L) (r : QuarterRun) :
    s.changesOnly L (σ.beginQuarterRun r) := by
  unfold beginQuarterRun
  repeat' first
    | with_reducible exact h
    | with_reducible assumption
    | exact List.Subset.trans (by decide) hl
    | with_reducible apply endQuarterRun_within | with_reducible apply modPlayers_within
    | split

theorem quarterChime_within (h : s.changesOnly L σ) (hl : [.engine, .players, .link, .store] ⊆ L) (p : Program) (q : Quarter) (minute count : Nat) :
    s.changesOnly L (σ.quarterChime p q minute count) := by
  unfold quarterChime
  repeat' first
    | with_reducible exact h
    | with_reducible assumption
    | exact List.Subset.trans (by decide) hl
    | with_reducible apply beginQuarterRun_within | with_reducible apply chimeLost_within | with_reducible apply advanceQuarter_within
    | split

theorem prepareFourthQuarter_within (h : s.changesOnly L σ) (hl : [.engine, .players, .link, .store] ⊆ L) (p : Program) (h : HourAhead) :
    s.changesOnly L (σ.prepareFourthQuarter p h) := by
  unfold prepareFourthQuarter
  repeat' first
    | with_reducible exact h
    | with_reducible assumption
    | exact List.Subset.trans (by decide) hl
    | with_reducible apply beginQuarterRun_within | with_reducible apply testFourthQuarter_within | with_reducible apply chimeLost_within
    | split

theorem planHourStrike_within (h : s.changesOnly L σ) (hl : [.players] ⊆ L) (p : Program) (h : HourAhead) :
    s.changesOnly L (σ.planHourStrike p h) := by
  unfold planHourStrike
  repeat' first
    | with_reducible exact h
    | with_reducible assumption
    | exact List.Subset.trans (by decide) hl
    | with_reducible apply modPlayers_within
    | split

theorem silentHour_within (h : s.changesOnly L σ) (hl : [.engine, .link] ⊆ L) (p : Program) :
    s.changesOnly L (σ.silentHour p) := by
  unfold silentHour
  repeat' first
    | with_reducible exact h
    | with_reducible assumption
    | exact List.Subset.trans (by decide) hl
    | with_reducible apply chimeLost_within
    | split

theorem takeHourAhead_within (h : s.changesOnly L σ) (hl : [.engine, .players, .link, .store] ⊆ L) (p : Program) (h : HourAhead) :
    s.changesOnly L (σ.takeHourAhead p h) := by
  unfold takeHourAhead
  repeat' first
    | with_reducible exact h
    | with_reducible assumption
    | exact List.Subset.trans (by decide) hl
    | with_reducible apply silentHour_within | with_reducible apply planHourStrike_within | with_reducible apply prepareFourthQuarter_within
    | split

theorem takeQuarter_within (h : s.changesOnly L σ) (hl : [.engine, .players, .link, .store] ⊆ L) (p : Program) (q : QuarterInstant) (count : Nat) :
    s.changesOnly L (σ.takeQuarter p q count) := by
  unfold takeQuarter
  repeat' first
    | with_reducible exact h
    | with_reducible assumption
    | exact List.Subset.trans (by decide) hl
    | with_reducible apply quarterChime_within
    | split

theorem chimeAnnounced_within (h : s.changesOnly L σ) (hl : [.engine, .players, .link, .store] ⊆ L) (x : HeldAnnouncement) :
    s.changesOnly L (σ.chimeAnnounced x) := by
  unfold chimeAnnounced
  repeat' first
    | with_reducible exact h
    | with_reducible assumption
    | exact List.Subset.trans (by decide) hl
    | with_reducible apply takeQuarter_within | with_reducible apply takeHourAhead_within | with_reducible apply modPlayers_within
    | split

theorem chimeWithdrawn_within (h : s.changesOnly L σ) (hl : [.players, .store] ⊆ L) (h : HourAhead) :
    s.changesOnly L (σ.chimeWithdrawn h) := by
  unfold chimeWithdrawn
  repeat' first
    | with_reducible exact h
    | with_reducible assumption
    | exact List.Subset.trans (by decide) hl
    | with_reducible apply endQuarterRun_within | with_reducible apply modPlayers_within
    | split
    | dsimp only

theorem chimeHandOver_within (h : s.changesOnly L σ) (hl : [.engine, .players, .link, .store] ⊆ L) (p : Program) (date : Bool) :
    s.changesOnly L (σ.chimeHandOver p date) := by
  unfold chimeHandOver
  repeat' first
    | with_reducible exact h
    | with_reducible assumption
    | exact List.Subset.trans (by decide) hl
    | with_reducible apply chimeAnnounced_within | with_reducible apply requestFetch_within | with_reducible apply assignBufferWhenFree_within
    | with_reducible apply modPlayers_within
    | with_reducible refine changesOnly.foldl (fun _ _ _ => ?_) ?_ _
    | split
    | dsimp only

theorem handBlow_within (h : s.changesOnly L σ) (hl : [.bells, .claims, .engine, .players, .clavier, .link, .signals] ⊆ L) (r : HourRun) :
    s.changesOnly L (σ.handBlow r) := by
  unfold handBlow
  repeat' first
    | with_reducible exact h
    | with_reducible assumption
    | exact List.Subset.trans (by decide) hl
    | with_reducible apply arbitrate_within | with_reducible apply plan_within | with_reducible apply hourOutcome_within
    | with_reducible apply modPlayers_within
    | split

theorem handHour_within (h : s.changesOnly L σ) (hl : [.bells, .claims, .engine, .players, .clavier, .link, .signals] ⊆ L) :
    s.changesOnly L (σ.handHour) := by
  unfold handHour
  repeat' first
    | with_reducible exact h
    | with_reducible assumption
    | exact List.Subset.trans (by decide) hl
    | with_reducible apply handBlow_within
    | split

theorem deferTests_within (h : s.changesOnly L σ) (hl : [.bells, .claims, .engine, .players, .clavier, .link, .signals] ⊆ L) :
    s.changesOnly L (σ.deferTests) := by
  unfold deferTests
  repeat' first
    | with_reducible exact h
    | with_reducible assumption
    | exact List.Subset.trans (by decide) hl
    | with_reducible apply handBlow_within | with_reducible apply modPlayers_within
    | split

theorem deferExpires_within (h : s.changesOnly L σ) (hl : [.players, .link] ⊆ L) :
    s.changesOnly L (σ.deferExpires) := by
  unfold deferExpires
  repeat' first
    | with_reducible exact h
    | with_reducible assumption
    | exact List.Subset.trans (by decide) hl
    | with_reducible apply raiseAll_within | with_reducible apply modPlayers_within
    | split

theorem advanceRequest_within (h : s.changesOnly L σ) (hl : [.players, .link] ⊆ L) :
    s.changesOnly L (σ.advanceRequest) := by
  unfold advanceRequest
  repeat' first
    | with_reducible exact h
    | with_reducible assumption
    | exact List.Subset.trans (by decide) hl
    | with_reducible apply modRequest_within | with_reducible apply completeRequest_within
    | split

theorem handTune_within (h : s.changesOnly L σ) (hl : [.bells, .claims, .engine, .players, .clavier, .link, .signals] ⊆ L) :
    s.changesOnly L (σ.handTune) := by
  unfold handTune
  repeat' first
    | with_reducible exact h
    | with_reducible assumption
    | exact List.Subset.trans (by decide) hl
    | with_reducible apply advanceRequest_within | with_reducible apply arbitrate_within | with_reducible apply plan_within
    | with_reducible apply modPlayers_within
    | split

theorem handOverNext_within (h : s.changesOnly L σ) (hl : [.bells, .claims, .engine, .players, .clavier, .link, .store, .signals] ⊆ L) (k : RunKind) :
    s.changesOnly L (σ.handOverNext k) := by
  unfold handOverNext
  repeat' first
    | with_reducible exact h
    | with_reducible assumption
    | exact List.Subset.trans (by decide) hl
    | with_reducible apply handTune_within | with_reducible apply handHour_within | with_reducible apply handQuarter_within
    | with_reducible apply testFourthQuarter_within
    | split

theorem stopRequest_within (h : s.changesOnly L σ) (hl : [.players, .link] ⊆ L) (cause : EndCause) :
    s.changesOnly L (σ.stopRequest cause) := by
  unfold stopRequest
  repeat' first
    | with_reducible exact h
    | with_reducible assumption
    | exact List.Subset.trans (by decide) hl
    | with_reducible apply modRequest_within | with_reducible apply finishRequest_within
    | split

theorem playFetched_within (h : s.changesOnly L σ) (hl : [.players, .link] ⊆ L) (result : Except Status Tune) :
    s.changesOnly L (σ.playFetched result) := by
  unfold playFetched
  repeat' first
    | with_reducible exact h
    | with_reducible assumption
    | exact List.Subset.trans (by decide) hl
    | with_reducible apply advanceRequest_within | with_reducible apply finishRequest_within | with_reducible apply modPlayers_within
    | split

theorem tollStrikes_within (h : s.changesOnly L σ) (hl : [.bells, .claims, .engine, .players, .clavier, .link, .signals] ⊆ L) (p : Port) :
    s.changesOnly L (σ.tollStrikes p) := by
  unfold tollStrikes
  repeat' first
    | with_reducible exact h
    | with_reducible assumption
    | exact List.Subset.trans (by decide) hl
    | with_reducible apply arbitrate_within | with_reducible apply plan_within | with_reducible apply completeToll_within
    | with_reducible apply modToll_within
    | split

theorem playersAllStop_within (h : s.changesOnly L σ) (hl : [.players, .link, .store] ⊆ L) :
    s.changesOnly L (σ.playersAllStop) := by
  unfold playersAllStop
  repeat' first
    | with_reducible exact h
    | with_reducible assumption
    | exact List.Subset.trans (by decide) hl
    | with_reducible apply stopRequest_within | with_reducible apply modToll_within | with_reducible apply endQuarterRun_within
    | with_reducible apply raise_within | with_reducible apply modPlayers_within
    | with_reducible refine changesOnly.foldl (fun _ _ _ => ?_) ?_ _
    | split

theorem modKey_within (h : s.changesOnly L σ) (hl : [.clavier] ⊆ L) (k : Fin 32) (f : Key → Key) :
    s.changesOnly L (σ.modKey k f) := by
  unfold modKey
  repeat' first
    | with_reducible exact h
    | with_reducible assumption
    | exact List.Subset.trans (by decide) hl
    | with_reducible apply modClavier_within

theorem setCondition_within (h : s.changesOnly L σ) (hl : [.clavier] ⊆ L) (k : Fin 32) (x : KeyCondition) :
    s.changesOnly L (σ.setCondition k x) := by
  unfold setCondition
  repeat' first
    | with_reducible exact h
    | with_reducible assumption
    | exact List.Subset.trans (by decide) hl
    | with_reducible apply modKey_within

theorem bellKey_within (h : s.changesOnly L σ) (hl : [.bells, .engine, .clavier, .link] ⊆ L) (b : Bell) :
    s.changesOnly L (σ.bellKey b) := by
  unfold bellKey
  repeat' first
    | with_reducible exact h
    | with_reducible assumption
    | exact List.Subset.trans (by decide) hl
    | with_reducible apply plan_within | with_reducible apply modClavier_within

theorem functionKey_within (h : s.changesOnly L σ) (hl : [.clavier, .link] ⊆ L) (key : Nat) :
    s.changesOnly L (σ.functionKey key) := by
  unfold functionKey
  repeat' first
    | with_reducible exact h
    | with_reducible assumption
    | exact List.Subset.trans (by decide) hl
    | with_reducible apply raise_within | with_reducible apply modClavier_within
    | split
    | dsimp only

theorem register_within (h : s.changesOnly L σ) (hl : [.bells, .engine, .clavier, .link] ⊆ L) (k : Fin 32) :
    s.changesOnly L (σ.register k) := by
  unfold register
  repeat' first
    | with_reducible exact h
    | with_reducible assumption
    | exact List.Subset.trans (by decide) hl
    | with_reducible apply functionKey_within | with_reducible apply bellKey_within | with_reducible apply setCondition_within
    | split

theorem lockoutArbiter_within (h : s.changesOnly L t) (hl : [.bells, .engine, .clavier, .link] ⊆ L) (closed opened : List (Fin 32)) :
    s.changesOnly L (t.lockoutArbiter closed opened) := by
  have all (x : KeyCondition) (ks : List (Fin 32)) {u : State} (g : s.changesOnly L u) :
      s.changesOnly L (ks.foldl (fun s k => setCondition k x s) u) :=
    .foldl (fun _ _ g => setCondition_within g (List.Subset.trans (by decide) hl) _ _) g ks
  have put (x : Arbiter) {u : State} (g : s.changesOnly L u) :
      s.changesOnly L (u.modClavier fun c => { c with arbiter := x }) :=
    modClavier_within g (List.Subset.trans (by decide) hl) _
  have reg (k : Fin 32) {u : State} (g : s.changesOnly L u) : s.changesOnly L (u.register k) :=
    register_within g (List.Subset.trans (by decide) hl) k
  unfold lockoutArbiter
  dsimp only
  split
  · split
    · exact h
    · exact reg _ (put _ h)
    · exact put _ (all _ _ h)
  · split
    · exact put _ (all _ _ h)
    · exact all _ _ h
  · split
    · exact put _ (all _ _ h)
    · exact reg _ (put _ (all _ _ h))
    · exact put _ (all _ _ h)

theorem allStop_within (h : s.changesOnly L σ) (hl : [.bells, .engine, .players, .clavier, .swing, .lights, .load, .link, .store, .signals] ⊆ L) :
    s.changesOnly L (σ.allStop) := by
  unfold allStop
  repeat' first
    | with_reducible exact h
    | with_reducible assumption
    | exact List.Subset.trans (by decide) hl
    | with_reducible apply playersAllStop_within | with_reducible apply swingAllStop_within | with_reducible apply purge_within
    | with_reducible apply modClavier_within

theorem scanClavier_within (h : s.changesOnly L σ) (hl : [.bells, .claims, .engine, .players, .clavier, .swing, .lights, .load, .link, .store, .signals] ⊆ L) (keys : BitVec 32) (pedal : Bool) :
    s.changesOnly L (σ.scanClavier keys pedal) := by
  unfold scanClavier
  repeat' first
    | with_reducible exact h
    | with_reducible assumption
    | exact List.Subset.trans (by decide) hl
    | with_reducible apply allStop_within | with_reducible apply lockoutArbiter_within | with_reducible apply register_within
    | with_reducible apply arbitrate_within | with_reducible apply modClavier_within
    | with_reducible refine changesOnly.foldl (fun _ _ _ => ?_) ?_ _
    | split
    | dsimp only

theorem changeMode_within (h : s.changesOnly L σ) (hl : [.clavier] ⊆ L) (m : KeyMode) :
    s.changesOnly L (σ.changeMode m) := by
  unfold changeMode
  repeat' first
    | with_reducible exact h
    | with_reducible assumption
    | exact List.Subset.trans (by decide) hl
    | with_reducible apply modClavier_within
    | split

theorem changeDial_within (h : s.changesOnly L σ) (hl : [.dials, .link] ⊆ L) (n : Train) (f : Dial → Dial) :
    s.changesOnly L (σ.changeDial n f) := by
  unfold changeDial
  repeat' first
    | with_reducible exact h
    | with_reducible assumption
    | exact List.Subset.trans (by decide) hl
    | with_reducible apply raiseAll_within | with_reducible apply modDial_within
    | split
    | dsimp only

theorem evaluateDial_within (h : s.changesOnly L σ) (hl : [.dials, .link] ⊆ L) (n : Train) :
    s.changesOnly L (σ.evaluateDial n) := by
  unfold evaluateDial
  repeat' first
    | with_reducible exact h
    | with_reducible assumption
    | exact List.Subset.trans (by decide) hl
    | with_reducible apply changeDial_within

theorem evaluateDials_within (h : s.changesOnly L σ) (hl : [.dials, .link] ⊆ L) :
    s.changesOnly L (σ.evaluateDials) := by
  unfold evaluateDials
  repeat' first
    | with_reducible exact h
    | with_reducible assumption
    | exact List.Subset.trans (by decide) hl
    | with_reducible apply evaluateDial_within
    | with_reducible refine changesOnly.foldl (fun _ _ _ => ?_) ?_ _

theorem dialCatchesUp_within (h : s.changesOnly L σ) (hl : [.dials, .link] ⊆ L) (n : Train) :
    s.changesOnly L (σ.dialCatchesUp n) := by
  unfold dialCatchesUp
  repeat' first
    | with_reducible exact h
    | with_reducible assumption
    | exact List.Subset.trans (by decide) hl
    | with_reducible apply changeDial_within | with_reducible apply modDial_within
    | split

theorem dialImpulseEnds_within (h : s.changesOnly L σ) (hl : [.dials] ⊆ L) (n : Train) :
    s.changesOnly L (σ.dialImpulseEnds n) := by
  unfold dialImpulseEnds
  repeat' first
    | with_reducible exact h
    | with_reducible assumption
    | exact List.Subset.trans (by decide) hl
    | with_reducible apply modDial_within

theorem dropDials_within (h : s.changesOnly L σ) (hl : [.dials] ⊆ L) :
    s.changesOnly L (σ.dropDials) := by
  unfold dropDials
  repeat' first
    | with_reducible exact h
    | with_reducible assumption
    | exact List.Subset.trans (by decide) hl
    | with_reducible apply modDials_within

theorem markUncertain_within (h : s.changesOnly L σ) (hl : [.dials, .link] ⊆ L) :
    s.changesOnly L (σ.markUncertain) := by
  unfold markUncertain
  repeat' first
    | with_reducible exact h
    | with_reducible assumption
    | exact List.Subset.trans (by decide) hl
    | with_reducible apply raiseAll_within | with_reducible apply modDials_within
    | split
    | dsimp only

theorem handOver_within (h : s.changesOnly L σ) (hl : [.bells, .engine, .players, .clavier, .swing, .lights, .link, .store, .signals] ⊆ L) (valid : Option Bool) (quiet : Bool) :
    s.changesOnly L (σ.handOver valid quiet) := by
  unfold handOver
  repeat' first
    | with_reducible exact h
    | with_reducible assumption
    | exact List.Subset.trans (by decide) hl
    | with_reducible apply chimeHandOver_within | with_reducible apply swingHandOver_within | with_reducible apply lightHandOver_within
    | split

theorem dateChange_within (h : s.changesOnly L σ) (hl : [.calendar, .bells, .engine, .players, .clavier, .swing, .lights, .link, .store, .signals] ⊆ L) (quiet : Bool) :
    s.changesOnly L (σ.dateChange quiet) := by
  unfold dateChange
  repeat' first
    | with_reducible exact h
    | with_reducible assumption
    | exact List.Subset.trans (by decide) hl
    | with_reducible apply handOver_within | with_reducible apply modCal_within

theorem rerunChoice_within (h : s.changesOnly L σ) (hl : [.calendar, .bells, .engine, .players, .clavier, .swing, .lights, .link, .store, .signals] ⊆ L) :
    s.changesOnly L (σ.rerunChoice) := by
  unfold rerunChoice
  repeat' first
    | with_reducible exact h
    | with_reducible assumption
    | exact List.Subset.trans (by decide) hl
    | with_reducible apply handOver_within | with_reducible apply modCal_within
    | split

theorem count_within (h : s.changesOnly L σ) (hl : [.timekeeper] ⊆ L) :
    s.changesOnly L (σ.count) := by
  unfold count
  repeat' first
    | with_reducible exact h
    | with_reducible assumption
    | exact List.Subset.trans (by decide) hl
    | with_reducible apply modTk_within

theorem giveHourAhead_within (h : s.changesOnly L σ) (hl : [.timekeeper, .engine, .players, .link, .store] ⊆ L) :
    s.changesOnly L (σ.giveHourAhead) := by
  unfold giveHourAhead
  repeat' first
    | with_reducible exact h
    | with_reducible assumption
    | exact List.Subset.trans (by decide) hl
    | with_reducible apply chimeAnnounced_within | with_reducible apply modTk_within
    | split
    | dsimp only

theorem withdrawHourAhead_within (h : s.changesOnly L σ) (hl : [.timekeeper, .players, .store] ⊆ L) :
    s.changesOnly L (σ.withdrawHourAhead) := by
  unfold withdrawHourAhead
  repeat' first
    | with_reducible exact h
    | with_reducible assumption
    | exact List.Subset.trans (by decide) hl
    | with_reducible apply chimeWithdrawn_within | with_reducible apply modTk_within
    | split

theorem recordMissed_within (h : s.changesOnly L σ) (hl : [.timekeeper, .link] ⊆ L) (after : Nat) :
    s.changesOnly L (σ.recordMissed after) := by
  unfold recordMissed
  repeat' first
    | with_reducible exact h
    | with_reducible assumption
    | exact List.Subset.trans (by decide) hl
    | with_reducible apply raiseAll_within | with_reducible apply modTk_within
    | split
    | dsimp only

theorem correct_within (h : s.changesOnly L σ) (hl : [.timekeeper, .calendar, .dials, .bells, .engine, .players, .clavier, .swing, .lights, .link, .store, .signals] ⊆ L) (before : LocalTime) (record setValid : Bool) :
    s.changesOnly L (σ.correct before record setValid) := by
  unfold correct
  repeat' first
    | with_reducible exact h
    | with_reducible assumption
    | exact List.Subset.trans (by decide) hl
    | with_reducible apply recordMissed_within | with_reducible apply withdrawHourAhead_within | with_reducible apply giveHourAhead_within
    | with_reducible apply dateChange_within | with_reducible apply evaluateDials_within | with_reducible apply lightTimeChange_within
    | with_reducible apply raiseAll_within
    | split

theorem setInForce_within (h : s.changesOnly L σ) (hl : [.timekeeper] ⊆ L) :
    s.changesOnly L (σ.setInForce) := by
  unfold setInForce
  repeat' first
    | with_reducible exact h
    | with_reducible assumption
    | exact List.Subset.trans (by decide) hl
    | with_reducible apply modTk_within

theorem evaluateDst_within (h : s.changesOnly L σ) (hl : [.timekeeper, .calendar, .dials, .bells, .engine, .players, .clavier, .swing, .lights, .link, .store, .signals] ⊆ L) :
    s.changesOnly L (σ.evaluateDst) := by
  unfold evaluateDst
  repeat' first
    | with_reducible exact h
    | with_reducible assumption
    | exact List.Subset.trans (by decide) hl
    | with_reducible apply setInForce_within | with_reducible apply correct_within
    | split
    | dsimp only

theorem stepTime_within (h : s.changesOnly L σ) (hl : [.timekeeper, .calendar, .dials, .bells, .engine, .players, .clavier, .swing, .lights, .link, .store, .signals] ⊆ L) (c : Counters) :
    s.changesOnly L (σ.stepTime c) := by
  unfold stepTime
  repeat' first
    | with_reducible exact h
    | with_reducible assumption
    | exact List.Subset.trans (by decide) hl
    | with_reducible apply setInForce_within | with_reducible apply correct_within | with_reducible apply modTk_within

theorem quarterReached_within (h : s.changesOnly L σ) (hl : [.timekeeper, .engine, .players, .link, .store] ⊆ L) (t : LocalTime) :
    s.changesOnly L (σ.quarterReached t) := by
  unfold quarterReached
  repeat' first
    | with_reducible exact h
    | with_reducible assumption
    | exact List.Subset.trans (by decide) hl
    | with_reducible apply chimeAnnounced_within | with_reducible apply modTk_within
    | split
    | dsimp only

theorem minuteReached_within (h : s.changesOnly L σ) (hl : [.bells, .engine, .players, .clavier, .swing, .lights, .link, .signals] ⊆ L) (t : LocalTime) :
    s.changesOnly L (σ.minuteReached t) := by
  unfold minuteReached
  repeat' first
    | with_reducible exact h
    | with_reducible assumption
    | exact List.Subset.trans (by decide) hl
    | with_reducible apply swingMinute_within | with_reducible apply lightMinute_within

theorem tapsReached_within (h : s.changesOnly L σ) (hl : [.link] ⊆ L) (t : LocalTime) :
    s.changesOnly L (σ.tapsReached t) := by
  unfold tapsReached
  repeat' first
    | with_reducible exact h
    | with_reducible assumption
    | exact List.Subset.trans (by decide) hl
    | with_reducible apply raise_within
    | with_reducible refine changesOnly.foldl (fun _ _ _ => ?_) ?_ _
    | split

theorem boundaries_within (h : s.changesOnly L σ) (hl : [.timekeeper, .calendar, .dials, .bells, .engine, .players, .clavier, .swing, .lights, .link, .store, .signals] ⊆ L) :
    s.changesOnly L (σ.boundaries) := by
  unfold boundaries
  repeat' first
    | with_reducible exact h
    | with_reducible assumption
    | exact List.Subset.trans (by decide) hl
    | with_reducible apply tapsReached_within | with_reducible apply minuteReached_within | with_reducible apply quarterReached_within
    | with_reducible apply evaluateDst_within | with_reducible apply giveHourAhead_within | with_reducible apply dateChange_within
    | with_reducible apply evaluateDials_within
    | split
    | dsimp only

theorem tick_within (h : s.changesOnly L t) (hl : [.timekeeper, .calendar, .dials, .bells, .engine, .players, .clavier, .swing, .lights, .link, .store, .signals] ⊆ L) : s.changesOnly L t.tick := by
  unfold tick
  dsimp only
  have c := count_within h (List.Subset.trans (by decide) hl)
  exact ite_within (boundaries_within c (List.Subset.trans (by decide) hl)) c

theorem startStages_within (h : s.changesOnly L t) (hl : [.timekeeper, .calendar, .dials, .bells, .engine, .players, .clavier, .swing, .lights, .link, .store, .signals] ⊆ L) : s.changesOnly L t.startStages := by
  unfold startStages
  dsimp only
  repeat' first
    | with_reducible exact h
    | exact List.Subset.trans (by decide) hl
    | with_reducible apply evaluateDials_within | with_reducible apply dateChange_within
    | with_reducible apply giveHourAhead_within
    | with_reducible refine ite_within ?_ ?_
    | with_reducible apply recordMissed_within | with_reducible apply raiseAll_within
    | with_reducible apply setInForce_within

theorem ropeDemand_within (h : s.changesOnly L σ) (hl : [.bells, .link, .signals] ⊆ L) (b : Bell) (present : Bool) :
    s.changesOnly L (σ.ropeDemand b present) := by
  unfold ropeDemand
  repeat' first
    | with_reducible exact h
    | with_reducible assumption
    | exact List.Subset.trans (by decide) hl
    | with_reducible apply changeDemands_within

theorem takeClaim_within (h : s.changesOnly L σ) (hl : [.bells, .claims, .engine, .players, .clavier, .link, .signals] ⊆ L) (p : Port) (k : ClaimKind) (b : Bell) :
    s.changesOnly L (σ.takeClaim p k b) := by
  unfold takeClaim
  repeat' first
    | with_reducible exact h
    | with_reducible assumption
    | exact List.Subset.trans (by decide) hl
    | with_reducible apply ropeDemand_within | with_reducible apply purge_within | with_reducible apply setClaim_within
    | split
    | dsimp only

theorem endClaim_within (h : s.changesOnly L σ) (hl : [.bells, .claims, .link, .signals] ⊆ L) (b : Bell) :
    s.changesOnly L (σ.endClaim b) := by
  unfold endClaim
  repeat' first
    | with_reducible exact h
    | with_reducible assumption
    | exact List.Subset.trans (by decide) hl
    | with_reducible apply ropeDemand_within | with_reducible apply setClaim_within
    | split

theorem giveUpClaim_within (h : s.changesOnly L σ) (hl : [.bells, .claims, .link, .signals] ⊆ L) (b : Bell) :
    s.changesOnly L (σ.giveUpClaim b) := by
  unfold giveUpClaim
  repeat' first
    | with_reducible exact h
    | with_reducible assumption
    | exact List.Subset.trans (by decide) hl
    | with_reducible apply endClaim_within | with_reducible apply setClaim_within
    | split

theorem claimLapses_within (h : s.changesOnly L σ) (hl : [.bells, .claims, .link, .signals] ⊆ L) (b : Bell) :
    s.changesOnly L (σ.claimLapses b) := by
  unfold claimLapses
  repeat' first
    | with_reducible exact h
    | with_reducible assumption
    | exact List.Subset.trans (by decide) hl
    | with_reducible apply giveUpClaim_within | with_reducible apply raise_within
    | split

theorem claimAtRest_within (h : s.changesOnly L σ) (hl : [.bells, .claims, .link, .signals] ⊆ L) (b : Bell) :
    s.changesOnly L (σ.claimAtRest b) := by
  unfold claimAtRest
  repeat' first
    | with_reducible exact h
    | with_reducible assumption
    | exact List.Subset.trans (by decide) hl
    | with_reducible apply endClaim_within | with_reducible apply raise_within
    | split

theorem cutCommit_within (h : s.changesOnly L σ) (hl : [.store] ⊆ L) :
    s.changesOnly L (σ.cutCommit) := by
  unfold cutCommit
  repeat' first
    | with_reducible exact h
    | with_reducible assumption
    | exact List.Subset.trans (by decide) hl
    | with_reducible apply modStore_within
    | split

theorem deliverBell_within (h : s.changesOnly L σ) (hl : [.bells, .claims, .swing, .lights, .link, .signals] ⊆ L) (old : BellRec) (b : Bell) :
    s.changesOnly L (σ.deliverBell old b) := by
  unfold deliverBell
  repeat' first
    | with_reducible exact h
    | with_reducible assumption
    | exact List.Subset.trans (by decide) hl
    | with_reducible apply claimAtRest_within | with_reducible apply swingRest_within | with_reducible apply swingEdge_within
    | with_reducible apply hammerSensors_within
    | split
    | dsimp only

theorem lockoutDemands_within (h : s.changesOnly L σ) (hl : [.bells, .link, .signals] ⊆ L) (present : Bool) :
    s.changesOnly L (σ.lockoutDemands present) := by
  unfold lockoutDemands
  repeat' first
    | with_reducible exact h
    | with_reducible assumption
    | exact List.Subset.trans (by decide) hl
    | with_reducible apply changeDemands_within
    | with_reducible refine changesOnly.foldl (fun _ _ _ => ?_) ?_ _

theorem deliverLockout_within (h : s.changesOnly L σ) (hl : [.bells, .swing, .lights, .load, .link, .signals] ⊆ L) (before : Option Bool) :
    s.changesOnly L (σ.deliverLockout before) := by
  unfold deliverLockout
  repeat' first
    | with_reducible exact h
    | with_reducible assumption
    | exact List.Subset.trans (by decide) hl
    | with_reducible apply lockoutDemands_within | with_reducible apply swingLockOut_within | with_reducible apply raiseAll_within
    | split
    | dsimp only

theorem meetDemand_within (h : s.changesOnly L σ) (hl : [.bells, .link, .signals] ⊆ L) (b : Bell) :
    s.changesOnly L (σ.meetDemand b) := by
  unfold meetDemand
  repeat' first
    | with_reducible exact h
    | with_reducible assumption
    | exact List.Subset.trans (by decide) hl
    | with_reducible apply enterParking_within
    | split

theorem firstStates_within (h : s.changesOnly L σ) (hl : [.bells, .swing, .lights, .link, .signals] ⊆ L) :
    s.changesOnly L (σ.firstStates) := by
  unfold firstStates
  repeat' first
    | with_reducible exact h
    | with_reducible assumption
    | exact List.Subset.trans (by decide) hl
    | with_reducible apply meetDemand_within | with_reducible apply lockoutDemands_within | with_reducible apply swingFirstState_within
    | with_reducible apply hammerFirstState_within
    | with_reducible refine changesOnly.foldl (fun _ _ _ => ?_) ?_ _
    | split

theorem deliverScan_within (h : s.changesOnly L σ) (hl : [.bells, .claims, .swing, .lights, .load, .link, .signals] ⊆ L) (old : BellTable) :
    s.changesOnly L (σ.deliverScan old) := by
  unfold deliverScan
  repeat' first
    | with_reducible exact h
    | with_reducible assumption
    | exact List.Subset.trans (by decide) hl
    | with_reducible apply firstStates_within | with_reducible apply deliverLockout_within | with_reducible apply deliverBell_within
    | with_reducible refine changesOnly.foldl (fun _ _ _ => ?_) ?_ _
    | split
    | dsimp only

theorem receive_within (h : s.changesOnly L σ) (hl : [.link] ⊆ L) (p : Port) (x : Receiver) :
    s.changesOnly L (σ.receive p x) := by
  unfold receive
  repeat' first
    | with_reducible exact h
    | with_reducible assumption
    | exact List.Subset.trans (by decide) hl
    | with_reducible apply modPort_within

theorem discardFrame_within (h : s.changesOnly L σ) (hl : [.link] ⊆ L) (p : Port) (x : LinkError) :
    s.changesOnly L (σ.discardFrame p x) := by
  unfold discardFrame
  repeat' first
    | with_reducible exact h
    | with_reducible assumption
    | exact List.Subset.trans (by decide) hl
    | with_reducible apply receive_within | with_reducible apply linkError_within

theorem readByte_within (h : s.changesOnly L σ) (hl : [.link] ⊆ L) (p : Port) (b : Byte) :
    s.changesOnly L (σ.readByte p b) := by
  unfold readByte
  repeat' first
    | with_reducible exact h
    | with_reducible assumption
    | exact List.Subset.trans (by decide) hl
    | with_reducible apply discardFrame_within | with_reducible apply receive_within | with_reducible apply modPort_within
    | split

theorem byteArrives_within (h : s.changesOnly L σ) (hl : [.link] ⊆ L) (p : Port) (b : Byte) (stopBit : Bool) :
    s.changesOnly L (σ.byteArrives p b stopBit) := by
  unfold byteArrives
  repeat' first
    | with_reducible exact h
    | with_reducible assumption
    | exact List.Subset.trans (by decide) hl
    | with_reducible apply readByte_within | with_reducible apply discardFrame_within
    | split

theorem gap_within (h : s.changesOnly L σ) (hl : [.link] ⊆ L) (p : Port) :
    s.changesOnly L (σ.gap p) := by
  unfold gap
  repeat' first
    | with_reducible exact h
    | with_reducible assumption
    | exact List.Subset.trans (by decide) hl
    | with_reducible apply discardFrame_within
    | split

theorem takeFrame_within (h : s.changesOnly L σ) (hl : [.link] ⊆ L) (p : Port) (parts snapshot : Bool) :
    s.changesOnly L (σ.takeFrame p parts snapshot) := by
  unfold takeFrame
  repeat' first
    | with_reducible exact h
    | with_reducible assumption
    | exact List.Subset.trans (by decide) hl
    | with_reducible apply modPort_within

theorem complete_within (h : s.changesOnly L σ) (hl : [.link] ⊆ L) (p : Port) (code : Byte) (x : Status) (payload : List Byte) :
    s.changesOnly L (σ.complete p code x payload) := by
  unfold complete
  repeat' first
    | with_reducible exact h
    | with_reducible assumption
    | exact List.Subset.trans (by decide) hl
    | with_reducible apply raise_within | with_reducible apply modPort_within

theorem pulseEnds_within (h : s.changesOnly L σ) (hl : [.bells, .claims, .engine, .players, .clavier, .link, .signals] ⊆ L) (k : HammerSlot) :
    s.changesOnly L (σ.pulseEnds k) := by
  unfold pulseEnds
  repeat' first
    | with_reducible exact h
    | with_reducible assumption
    | exact List.Subset.trans (by decide) hl
    | with_reducible apply arbitrate_within | with_reducible apply pulseEnded_within | with_reducible apply modEngine_within
    | split

theorem lateDrops_within (h : s.changesOnly L σ) (hl : [.engine, .players, .clavier, .link] ⊆ L) :
    s.changesOnly L (σ.lateDrops) := by
  unfold lateDrops
  repeat' first
    | with_reducible exact h
    | with_reducible assumption
    | exact List.Subset.trans (by decide) hl
    | with_reducible apply dropEntry_within
    | split

theorem startEnds_within (h : s.changesOnly L σ) (hl : [.bells, .swing, .lights, .load, .link, .signals] ⊆ L) (b : Bell) :
    s.changesOnly L (σ.startEnds b) := by
  unfold startEnds
  repeat' first
    | with_reducible exact h
    | with_reducible assumption
    | exact List.Subset.trans (by decide) hl
    | with_reducible apply swingFaults_within | with_reducible apply toRinging_within
    | split

theorem pulseMissed_within (h : s.changesOnly L σ) (hl : [.bells, .swing, .lights, .load, .link, .signals] ⊆ L) (b : Bell) :
    s.changesOnly L (σ.pulseMissed b) := by
  unfold pulseMissed
  repeat' first
    | with_reducible exact h
    | with_reducible assumption
    | exact List.Subset.trans (by decide) hl
    | with_reducible apply swingFaults_within
    | split

theorem durationEnds_within (h : s.changesOnly L σ) (hl : [.bells, .swing, .lights, .link, .signals] ⊆ L) (b : Bell) :
    s.changesOnly L (σ.durationEnds b) := by
  unfold durationEnds
  repeat' first
    | with_reducible exact h
    | with_reducible assumption
    | exact List.Subset.trans (by decide) hl
    | with_reducible apply toStopping_within
    | split

theorem quietReached_within (h : s.changesOnly L σ) (hl : [.bells, .swing, .lights, .link, .signals] ⊆ L) (b : Bell) :
    s.changesOnly L (σ.quietReached b) := by
  unfold quietReached
  repeat' first
    | with_reducible exact h
    | with_reducible assumption
    | exact List.Subset.trans (by decide) hl
    | with_reducible apply testRest_within

theorem stopTimesOut_within (h : s.changesOnly L σ) (hl : [.bells, .swing, .lights, .load, .link, .signals] ⊆ L) (b : Bell) :
    s.changesOnly L (σ.stopTimesOut b) := by
  unfold stopTimesOut
  repeat' first
    | with_reducible exact h
    | with_reducible assumption
    | exact List.Subset.trans (by decide) hl
    | with_reducible apply swingFaults_within
    | split

theorem settleEnds_within (h : s.changesOnly L σ) (hl : [.bells, .swing, .lights, .link, .signals] ⊆ L) (b : Bell) :
    s.changesOnly L (σ.settleEnds b) := by
  unfold settleEnds
  repeat' first
    | with_reducible exact h
    | with_reducible assumption
    | exact List.Subset.trans (by decide) hl
    | with_reducible apply toIdle_within
    | split

theorem staggerEnds_within (h : s.changesOnly L σ) (hl : [.bells, .engine, .players, .clavier, .swing, .lights, .link, .signals] ⊆ L) :
    s.changesOnly L (σ.staggerEnds) := by
  unfold staggerEnds
  repeat' first
    | with_reducible exact h
    | with_reducible assumption
    | exact List.Subset.trans (by decide) hl
    | with_reducible apply slotNext_within
    | split

theorem slotEnds_within (h : s.changesOnly L σ) (hl : [.bells, .swing, .lights, .load, .link, .signals] ⊆ L) :
    s.changesOnly L (σ.slotEnds) := by
  unfold slotEnds
  repeat' first
    | with_reducible exact h
    | with_reducible assumption
    | exact List.Subset.trans (by decide) hl
    | with_reducible apply slotRunEnds_within
    | split

theorem rampMoves_within (h : s.changesOnly L σ) (hl : [.lights, .signals] ⊆ L) (c : Circuit) :
    s.changesOnly L (σ.rampMoves c) := by
  unfold rampMoves
  repeat' first
    | with_reducible exact h
    | with_reducible assumption
    | exact List.Subset.trans (by decide) hl
    | with_reducible apply watchReservation_within | with_reducible apply modCircuit_within
    | split

theorem loadWaitExpires_within (h : s.changesOnly L σ) (hl : [.bells, .swing, .lights, .load, .link, .signals] ⊆ L) (b : Bell) :
    s.changesOnly L (σ.loadWaitExpires b) := by
  unfold loadWaitExpires
  repeat' first
    | with_reducible exact h
    | with_reducible assumption
    | exact List.Subset.trans (by decide) hl
    | with_reducible apply giveUp_within | with_reducible apply raiseFor_within
    | split

theorem unfitHammer_within (h : s.changesOnly L σ) (hl : [.bells, .engine, .players, .clavier, .link, .signals] ⊆ L) (b : Bell) :
    s.changesOnly L (σ.unfitHammer b) := by
  unfold unfitHammer
  repeat' first
    | with_reducible exact h
    | with_reducible assumption
    | exact List.Subset.trans (by decide) hl
    | with_reducible apply purge_within | with_reducible apply setHammer_within | with_reducible apply modBell_within

theorem fitHammer_within (h : s.changesOnly L σ) (hl : [.bells, .link, .signals] ⊆ L) (b : Bell) :
    s.changesOnly L (σ.fitHammer b) := by
  unfold fitHammer
  repeat' first
    | with_reducible exact h
    | with_reducible assumption
    | exact List.Subset.trans (by decide) hl
    | with_reducible apply enterParking_within | with_reducible apply enterUnparking_within
    | split

theorem takeLatches_within (h : s.changesOnly L σ) (hl : [.bells] ⊆ L) :
    s.changesOnly L (σ.takeLatches) := by
  unfold takeLatches
  repeat' first
    | with_reducible exact h
    | with_reducible assumption
    | exact List.Subset.trans (by decide) hl
    | with_reducible apply modBells_within

theorem setDirectory_within (h : s.changesOnly L σ) (hl : [.store] ⊆ L) (t : TuneSlot) (e : DirEntry) :
    s.changesOnly L (σ.setDirectory t e) := by
  unfold setDirectory
  repeat' first
    | with_reducible exact h
    | with_reducible assumption
    | exact List.Subset.trans (by decide) hl
    | with_reducible apply modStore_within

theorem readEnds_within (h : s.changesOnly L σ) (hl : [.players, .link, .store] ⊆ L) (op : StoreOp) (result : Except Status Tune) :
    s.changesOnly L (σ.readEnds op result) := by
  unfold readEnds
  repeat' first
    | with_reducible exact h
    | with_reducible assumption
    | exact List.Subset.trans (by decide) hl
    | with_reducible apply complete_within | with_reducible apply playFetched_within | with_reducible apply clockFetchEnds_within
    | split

theorem storeOpEnds_within (h : s.changesOnly L σ) (hl : [.players, .link, .store] ⊆ L) (failed : Nat) :
    s.changesOnly L (σ.storeOpEnds failed) := by
  unfold storeOpEnds
  repeat' first
    | with_reducible exact h
    | with_reducible assumption
    | exact List.Subset.trans (by decide) hl
    | with_reducible apply readEnds_within | with_reducible apply setDirectory_within | with_reducible apply nextStoreOp_within
    | split

theorem commitEnds_within (h : s.changesOnly L σ) (hl : [.players, .link, .store] ⊆ L) (left : Option (List Byte)) :
    s.changesOnly L (σ.commitEnds left) := by
  unfold commitEnds
  repeat' first
    | with_reducible exact h
    | with_reducible assumption
    | exact List.Subset.trans (by decide) hl
    | with_reducible apply complete_within | with_reducible apply slotWritten_within | with_reducible apply nextStoreOp_within
    | with_reducible apply modStore_within
    | split

theorem abandons_within (h : s.changesOnly L σ) (hl : [.store] ⊆ L) :
    s.changesOnly L (σ.abandons) := by
  unfold abandons
  repeat' first
    | with_reducible exact h
    | with_reducible assumption
    | exact List.Subset.trans (by decide) hl
    | with_reducible apply modStore_within
    | split

/-- Every block that a start may change. -/
abbrev startBlocks : List Block :=
  [.power, .timekeeper, .calendar, .dials, .bells, .claims, .engine, .players, .clavier, .swing, .lights, .load, .link,
    .store, .signals]

theorem all_within (h : s.changesOnly L t) (hl : startBlocks ⊆ L) (hp : u.pending = t.pending) : s.changesOnly L u := by
  intro x hx
  cases x
  case pending => exact hp.trans (h .pending hx)
  all_goals exact absurd (hl (by decide)) hx

@[simp] theorem dropVolatile_pending (s : State) : s.dropVolatile.pending = s.pending := by
  unfold dropVolatile cutCommit dropDials
  dsimp only
  split <;> simp only [modDials_pending, modStore_pending]

theorem start_within (h : s.changesOnly L t) (hl : startBlocks ⊆ L) (mains : Bool) : s.changesOnly L (t.start mains) := by
  unfold start
  dsimp only
  apply settle_within _ (List.Subset.trans (by decide) hl)
  apply startStages_within _ (List.Subset.trans (by decide) hl)
  apply markUncertain_within _ (List.Subset.trans (by decide) hl)
  have c : s.changesOnly L ({ t.dropVolatile with power := .on }.raiseAll .claim) :=
    raiseAll_within (all_within h hl (by simp)) (List.Subset.trans (by decide) hl) _
  exact ite_within (raiseAll_within c (List.Subset.trans (by decide) hl) _) c

theorem coldStarts_within (h : s.changesOnly L t) (hl : startBlocks ⊆ L) : s.changesOnly L t.coldStarts := by
  unfold coldStarts
  have c : s.changesOnly L t.clearRetained := all_within h hl (by unfold clearRetained; rfl)
  exact start_within c hl _

theorem warmStarts_within (h : s.changesOnly L t) (hl : startBlocks ⊆ L) : s.changesOnly L t.warmStarts := by
  unfold warmStarts
  exact ite_within h (start_within h hl _)

theorem resets_within (h : s.changesOnly L t) (hl : startBlocks ⊆ L) : s.changesOnly L t.resets := by
  unfold resets
  exact ite_within (start_within (modLink_within h (List.Subset.trans (by decide) hl) _) hl _) h

theorem mainsFails_within (h : s.changesOnly L t) (hl : startBlocks ⊆ L) : s.changesOnly L t.mainsFails :=
  all_within h hl (by simp [mainsFails])

theorem supplyLost_within (h : s.changesOnly L t) (hl : startBlocks ⊆ L) : s.changesOnly L t.supplyLost :=
  all_within h hl (by simp [supplyLost])

theorem scanWorking_within (h : s.changesOnly L t) (hl : startBlocks ⊆ L) (matrix : BitVec 96) (lockout mains : Bool) :
    s.changesOnly L (t.scanWorking matrix lockout mains) := by
  unfold scanWorking
  dsimp only
  have c := modBells_within h (List.Subset.trans (by decide) hl) fun b => b.sample matrix lockout mains
  exact ite_within (mainsFails_within c hl)
    (settle_within (deliverScan_within c (List.Subset.trans (by decide) hl) _) (List.Subset.trans (by decide) hl))

theorem scanMains_within (h : s.changesOnly L t) (hl : startBlocks ⊆ L) (mains : Bool) :
    s.changesOnly L (t.scanMains mains) := by
  unfold scanMains
  dsimp only
  have c := modBells_within h (List.Subset.trans (by decide) hl) fun b => { b with mains := b.mains.sample mains }
  exact ite_within (warmStarts_within c hl) c

theorem keepSending_within (h : s.changesOnly L t) (hl : [.link] ⊆ L) (old : State) :
    s.changesOnly L (keepSending old t) := by
  simp only [keepSending, List.foldl]
  exact modPort_within (modPort_within (modPort_within h hl _ _) hl _ _) hl _ _

theorem responseGone_within (h : s.changesOnly L t) (hl : startBlocks ⊆ L) (p : Port) :
    s.changesOnly L (t.responseGone p) := by
  unfold responseGone
  split
  · dsimp only
    have c := modPort_within h (List.Subset.trans (by decide) hl) p fun r =>
      { r with response := none, restart := false, counters := { r.counters with sent := bump r.counters.sent } }
    exact ite_within (keepSending_within (start_within c hl _) (List.Subset.trans (by decide) hl) _) c
  · exact h

/-! ## Requests -/

theorem respond_within {a : Answer} (h : s.changesOnly L a.state) (hl : [.link] ⊆ L) (p : Port) (code : Byte) :
    s.changesOnly L (respond p code a) := modPort_within h hl _ _

/-- A request changes what its owner changes, and its port. -/
theorem request_within (h : s.changesOnly L t) (hl : [.link] ⊆ L) (p : Port) (code : Byte) (params : List Byte)
    {owner : State → Answer} (hf : ∀ u, s.changesOnly L u → s.changesOnly L (owner u).state) :
    s.changesOnly L (t.request p code params owner) := by
  unfold request
  split
  · dsimp only
    have c := takeFrame_within h hl p false false
    split
    · exact respond_within c hl _ _
    · exact respond_within (hf _ c) hl _ _
  · exact h

theorem parsed_within {α : Type} {r : Rd α} {params : List Byte} {owner : α → State → Answer}
    (hf : ∀ a u, s.changesOnly L u → s.changesOnly L (owner a u).state) :
    ∀ u, s.changesOnly L u → s.changesOnly L (parsed r params owner u).state := by
  intro u h
  unfold parsed
  split
  · exact hf _ _ h
  · exact h

/-- A read changes its port, and what it clears. -/
theorem read_within (h : s.changesOnly L t) (hl : [.link] ⊆ L) (p : Port) (code : Byte) (params : List Byte)
    (data : State → Option (List Byte)) {after : State → State} (hf : ∀ u, s.changesOnly L u → s.changesOnly L (after u)) :
    s.changesOnly L (t.read p code params data after) := by
  unfold read
  split
  · dsimp only
    have c := takeFrame_within h hl p false
      (((requestRow? code.toNat).any (fun row => row.read && row.fits params) && readPage params != 0) &&
        t.holdsSnapshot p code (readArgs params))
    split
    · exact respond_within c hl _ _
    · split
      · refine respond_within ?_ hl _ _
        unfold laterPage
        repeat' split
        all_goals exact c
      · split
        · exact respond_within (modPort_within (hf _ c) hl _ _) hl _ _
        · exact respond_within c hl _ _
  · exact h

theorem part_within (h : s.changesOnly L t) (hl : [.link] ⊆ L) (p : Port) (code : Byte) (params : List Byte)
    {owner : List Byte → State → Answer} (hf : ∀ x u, s.changesOnly L u → s.changesOnly L (owner x u).state) :
    s.changesOnly L (t.part p code params owner) := by
  unfold part
  split
  · dsimp only
    have c := takeFrame_within h hl p true false
    have d := modPort_within c hl p fun r => { r with parts := none }
    split
    · refine respond_within ?_ hl _ _
      unfold refuse
      dsimp only
      split <;> assumption
    · split
      · exact respond_within d hl _ _
      · split
        · exact respond_within (hf _ _ d) hl _ _
        · exact respond_within (modPort_within c hl _ _) hl _ _
  · exact h

end Sys2Proof.Machine.State
end

