-- ==== Sys2Proof/Laws/Ops.lean ====
section
/-! SUPPORT. What the shared operations do, one lemma for each case: the signals between the blocks, the taking of a request,
reads, planning, purging, and the responses that go on over a start. -/

namespace Sys2Proof.Machine.State

/-! ## Signals -/

theorem settleFor_of_quiet {s : State} (h : s.signals = []) (n : Nat) : s.settleFor n = s := by
  cases n with
  | zero => rfl
  | succ n => simp [settleFor, h]

/-- Without a signal nothing is delivered. -/
theorem settle_of_quiet {s : State} (h : s.signals = []) : s.settle = s := settleFor_of_quiet h _

/-- One signal of the list is delivered, and then the rest. -/
theorem settleFor_cons {s : State} {x : Signal} {rest : List Signal} (h : s.signals = x :: rest) (n : Nat) :
    s.settleFor (n + 1) = settleFor n (deliver x { s with signals := rest }) := by simp [settleFor, h]

/-! ## Requests -/

theorem port_takeFrame (s : State) (p : Port) (a b : Bool) :
    (s.takeFrame p a b).port p =
      { s.port p with
        waiting := (s.port p).waiting.tail
        counters := { (s.port p).counters with taken := bump (s.port p).counters.taken }
        parts := if a then (s.port p).parts else none
        snapshot := if b then (s.port p).snapshot else none } := by
  simp [takeFrame, port_modPort]

/-- The checks of the link controller do not depend on what taking the frame changes. -/
theorem check_takeFrame (s : State) (p : Port) (a b : Bool) (code : Byte) (params : List Byte) :
    (s.takeFrame p a b).check p code params = s.check p code params := by
  have h (r : Right) : (s.takeFrame p a b).holds p r = s.holds p r := by simp [holds, port_takeFrame]
  have k (x : Sect) : (s.takeFrame p a b).locked x = s.locked x := rfl
  have o : ((s.takeFrame p a b).port p).outstanding = (s.port p).outstanding := by rw [port_takeFrame]
  simp only [check, h, k, o]

/-- An answer given at once on the taken frame. -/
theorem respond_takeFrame (s : State) (p : Port) (code : Byte) (x : Status) (l : List Byte) :
    respond p code ⟨s.takeFrame p false false, x, l⟩ = s.answers p code x l := by
  simp [respond, takeFrame, answers, PortRec.answered]

/-- A request that is taken and passes the checks goes to its owner. -/
theorem request_accepted {s : State} {p : Port} {code : Byte} {params : List Byte} (h : s.accepts p code params)
    (owner : State → Answer) :
    s.request p code params owner = respond p code (owner (s.takeFrame p false false)) := by
  simp [request, h.1, check_takeFrame, h.2]

/-- A request that a check refuses changes nothing but its port. -/
theorem request_refused {s : State} {p : Port} {code : Byte} {params : List Byte} {x : Status}
    (h : s.takes p code params = true) (hc : s.check p code params = some x) (owner : State → Answer) :
    s.request p code params owner = s.answers p code x [] := by
  simp [request, h, check_takeFrame, hc, refuse, respond_takeFrame]

/-- A request that cannot be taken now changes nothing. -/
theorem request_not_taken {s : State} {p : Port} {code : Byte} {params : List Byte} (h : s.takes p code params = false)
    (owner : State → Answer) : s.request p code params owner = s := by simp [request, h]

/-- Page 0 of a read. -/
theorem read_accepted {s : State} {p : Port} {code : Byte} {params : List Byte} (h : s.accepts p code params)
    (h0 : readPage params = 0) {data : State → Option (List Byte)} {l : List Byte}
    (hd : data (s.takeFrame p false false) = some l) :
    s.read p code params data id = s.answersRead p code params l := by
  have e : (readPage params != 0) = false := by simp [h0]
  simp only [read, h.1, if_true, e, Bool.and_false, Bool.false_and, check_takeFrame, h.2, Bool.false_eq_true, if_false, hd]
  simp [respond, firstPage, takeFrame, answersRead, PortRec.answered, ok]

/-! ## Strikes -/

/-- A request that is dropped at its planning changes the loss counters and the notices only. -/
theorem plan_dropped {s : State} {r : StrikeRequest} {x : DropReason} (h : s.planned r = .dropped x) :
    s.plan r = s.lose x := by simp [plan, h]

/-- Losing a strike leaves the queue as it is. -/
@[simp] theorem lose_queue (s : State) (r : DropReason) : (s.lose r).engine.queue = s.engine.queue := by
  unfold lose
  split
  · simp [raiseAll, raise, modPort]
  · rfl

/-- Dropping an entry takes it out of the queue once. -/
theorem dropEntry_queue (s : State) (e : QueueEntry) (r : DropReason) :
    (s.dropEntry e r).engine.queue = s.engine.queue.erase e := by
  have h : (((s.modEngine fun g => { g with queue := g.queue.erase e }).lose r)).changesOnly
      [.players, .clavier, .link] (s.dropEntry e r) :=
    endOutcome_within (changesOnly.refl _ _) (fun _ h => h) _ _
  have g := h .engine (by decide)
  simp only [sameBlock] at g
  rw [g]
  simp

/-- An element that a filter keeps out of a list is not in the list that removing the others one by one leaves. -/
theorem foldl_erase_filter (f : QueueEntry → Bool) (l : List QueueEntry) :
    (l.filter f).foldl List.erase l = l.filter fun e => !f e := by
  induction l with
  | nil => rfl
  | cons a l ih =>
    by_cases h : f a
    · simp [h, ih]
    · have key : ∀ (k m : List QueueEntry), (∀ e ∈ k, e ≠ a) → k.foldl List.erase (a :: m) = a :: k.foldl List.erase m := by
        intro k
        induction k with
        | nil => intros; rfl
        | cons b k ihk =>
          intro m hk
          have hb : b ≠ a := hk b (by simp)
          have e : (a :: m).erase b = a :: m.erase b := by
            rw [List.erase_cons]
            simp [Ne.symm hb]
          simp only [List.foldl_cons, e]
          exact ihk _ fun e he => hk e (by simp [he])
      have hk : ∀ e ∈ l.filter f, e ≠ a := by
        intro e he ea
        subst ea
        simp [h] at he
      simp [h, key _ _ hk, ih]

/-- A purge leaves the entries that do not match, in their order. -/
theorem purge_queue (s : State) (f : QueueEntry → Bool) (r : DropReason) :
    (s.purge f r).engine.queue = s.engine.queue.filter fun e => !f e := by
  have h : ∀ (k : List QueueEntry) (t : State), (k.foldl (fun s e => s.dropEntry e r) t).engine.queue =
      k.foldl List.erase t.engine.queue := by
    intro k
    induction k with
    | nil => intros; rfl
    | cons e k ih =>
      intro t
      simp only [List.foldl_cons, ih, dropEntry_queue]
  rw [purge, h, foldl_erase_filter]

/-- An entry enters the queue once, and nothing leaves it. -/
theorem mem_insertEntry {x e : QueueEntry} {l : List QueueEntry} : x ∈ insertEntry e l ↔ x = e ∨ x ∈ l := by
  induction l with
  | nil => simp [insertEntry]
  | cons a l ih =>
    unfold insertEntry
    split
    · simp only [List.mem_cons, ih]
      tauto
    · simp [List.mem_cons]

theorem length_insertEntry (e : QueueEntry) (l : List QueueEntry) : (insertEntry e l).length = l.length + 1 := by
  induction l with
  | nil => rfl
  | cons a l ih =>
    unfold insertEntry
    split <;> simp [ih]

/-- The queue stays in ascending order of the fire times. -/
theorem pairwise_insertEntry {e : QueueEntry} {l : List QueueEntry} (h : l.Pairwise fun x y => x.fire ≤ y.fire) :
    (insertEntry e l).Pairwise fun x y => x.fire ≤ y.fire := by
  induction l with
  | nil => simp [insertEntry]
  | cons a l ih =>
    rw [List.pairwise_cons] at h
    unfold insertEntry
    split
    · rename_i hle
      rw [List.pairwise_cons]
      refine ⟨fun x hx => ?_, ih h.2⟩
      rcases mem_insertEntry.mp hx with rfl | hx
      · exact hle
      · exact h.1 x hx
    · rename_i hlt
      rw [List.pairwise_cons, List.pairwise_cons]
      refine ⟨fun x hx => ?_, h⟩
      rcases List.mem_cons.mp hx with rfl | hx
      · omega
      · have := h.1 x hx
        omega

/-! ## Responses over a start -/

/-- Over RESTART's warm start each port keeps the response that was being sent, and with it its mark (R177). -/
@[simp] theorem keepSending_port (old s : State) (q : Port) : (keepSending old s).port q =
    { s.port q with response := (old.port q).response, restart := (old.port q).restart } := by cases q <;> rfl

@[simp] theorem keepSending_locks (old s : State) : (keepSending old s).link.locks = s.link.locks := rfl

/-! ## Loads -/

/-- The largest level that fits a room consumes no more than it (R154). -/
theorem consumption_largestLevel (w room : Nat) : consumption w (largestLevel w room) ≤ room := by
  unfold consumption largestLevel
  split
  · simp_all
  · rename_i hw
    have h1 : min 255 (255 * room / w) ≤ 255 * room / w := Nat.min_le_right _ _
    have h2 : w * min 255 (255 * room / w) ≤ 255 * room :=
      (Nat.mul_le_mul_left w h1).trans (Nat.mul_div_le _ _)
    omega

/-- A lower level consumes no more. -/
theorem consumption_mono (w : Nat) {l m : Nat} (h : l ≤ m) : consumption w l ≤ consumption w m := by
  unfold consumption
  have := Nat.mul_le_mul_left w h
  omega

end Sys2Proof.Machine.State
end

