-- ==== Sys2Proof/Tests/Slice0.lean ====
section
/-! SUPPORT. Tests: an ill-formed command refused for each check of WellFormed, the data book's worked examples and numbers, and
for each statement with hypotheses a state and operands that meet them. -/

set_option maxRecDepth 100000

namespace Sys2Proof.Tests

open Machine

/-! ## WellFormed refuses -/

theorem test_wf_bell : Instr.wf (.claimLapse 25) = false ∧ Instr.wf (.startEnd 0) = false ∧
    Instr.wf (.claimLapse 24) = true := by decide

theorem test_wf_train : Instr.wf (.dialCatchUp 5) = false ∧ Instr.wf (.impulseEnd 0) = false := by decide

theorem test_wf_slot : Instr.wf (.pulseEnd 5) = false ∧ Instr.wf (.pulseEnd 4) = true := by decide

theorem test_wf_circuit : Instr.wf (.rampMove 9) = false ∧ Instr.wf (.rampMove 8) = true := by decide

theorem test_wf_frame : Instr.wf (.getTime .v (List.replicate 60 0)) = false ∧
    Instr.wf (.getTime .v (List.replicate 59 0)) = true := by decide

theorem test_wf_unknown : Instr.wf (.unknownRequest .v 0x11 [0]) = false ∧ Instr.wf (.unknownRequest .v 0x09 [0]) = true := by
  decide

theorem test_wf_part : Instr.wf (.requestPart .v 0x61 [2, 2]) = false ∧ Instr.wf (.requestPart .v 0x60 [1, 2]) = false ∧
    Instr.wf (.requestPart .v 0x63 [1, 2]) = true := by decide

theorem test_wf_page : Instr.wf (.readPage .v 0x11 [0]) = false ∧ Instr.wf (.readPage .v 0x10 [1]) = false ∧
    Instr.wf (.readPage .v 0x11 [1]) = true := by decide

theorem test_wf_clear_fault : Instr.wf (.clearFaultHammer .v [1, 1]) = false ∧ Instr.wf (.clearFaultSwing .v [1, 0]) = false := by
  decide

theorem test_wf_set_level : Instr.wf (.setLevel .v [1, 1]) = false ∧ Instr.wf (.setLevelRelease .v [1, 0]) = false := by decide

theorem test_wf_last_part : Instr.wf (.setPlan .v [1, 2]) = false ∧ Instr.wf (.setSolar .v [1, 4]) = false := by decide

theorem test_wf_commit : Instr.wf (.commitEnd (some (List.replicate 513 0))) = false := by decide

/-! ## A tower to test on: bell 1 has a hammer and a motor and hangs at rest, its hammer READY -/

/-- A sensor known to read `x`. -/
def known (x : Bool) : Sensor := { last := some x, state := some x, latch := false }

/-- The configuration of bell 1. -/
def config : BellConfig := { BellConfig.cold with hammer := true, motor := true }

/-- The record of bell 1. -/
def rested : BellRec :=
  { BellRec.atStart config with
    hammer := some .ready, sw := known false, rest := known true, home := known true, park := known false }

/-- The tower some time after a start: the time is valid, the image too, every bell IDLE, and the feeder carries 100 units. -/
def tower : State :=
  { State.reset with
    tk := { Timekeeper.cold with runCount := 200000, timeValid := true }
    bells :=
      { bells := (Table.replicate 24 (.atStart .cold)).set 0 rested
        lockout := known false, mains := known true, imageValid := true }
    swing := { State.reset.swing with recs := .replicate 24 { SwingRec.atStart with state := .idle } }
    load := { Load.cold with capacity := 100 } }

/-- The tower with bell 1's swing in a state, its motor line as given, and its hammer parked. -/
def swings (x : SwingRec) (motor : Bool) : State :=
  (tower.modSwingRec 0 fun _ => x).modBell 0 fun r =>
    { r with
      hammer := some .parked, motor := motor, home := known false, park := known true, rest := known false
      demands := { Demands.empty with swing := true } }

/-- A swing record in a state, with a timer that has been reached. -/
def timed (x : SwingState) : SwingRec := { SwingRec.atStart with state := x, timer := some 200000 }

/-- A request that is taken and passes every check. -/
theorem accepts_of {s : State} {p : Port} {code : Byte} {l : List Byte} (h : s.takes p code l = true)
    (k : s.check p code l = none) : s.accepts p code l := ⟨h, k⟩

/-! ## The data book's worked examples -/

/-- 11: the frame of GET-TIME, page 0. -/
theorem test_frame : frameOf [0x11, 0] = [0xC3, 0x02, 0x11, 0x00, 0xED] := by decide

/-- R171: 07h + 90h + 00h + C0h = 157h, and A9h makes it 200h. -/
theorem test_response_frame :
    Response.frame ⟨0x90, .ok, [0, 192, 0, 0, 0]⟩ = [0xC3, 7, 0x90, 0, 0, 192, 0, 0, 0, 0xA9] := by decide

/-- R182 on the names of R51 and of R122, and on a slot that is FREE. -/
theorem test_names : wReading (some true) = [0] ∧ wReading none = [2] ∧ wKeyState (some true) = [1] ∧
    (wHammerSlot 0 none).length = (wHammerSlot 0 (some ⟨1, .single, some .s, 2, 200032, 200100⟩)).length ∧
    (wHammerSlot 0 (some ⟨1, .single, some .s, 2, 200032, 200100⟩)).take 5 = [1, 2, 5, 2, 2] := by decide

theorem test_frame_received :
    (State.reset.runs ([0xC3, 0x02, 0x11, 0x00, 0xED].map fun b => .byteReceived .v b true)).map
      (fun s => (s.port .v).waiting) = some [[0x11, 0]] := by decide

/-- 01, "a slew": Δ = +192 ticks leaves 24,576 cycles, of which 12,288 ticks use half. -/
def slewing : State := tower.modTk fun k => { k with counters := ⟨20, 25, 1, 6, 10, 20, 7, 64⟩ }

theorem test_slew : (match exec (.setTime .s [20, 25, 1, 6, 10, 20, 8]) slewing with
    | .next t => (t.tk.slew, (t.port .s).response)
    | _ => (0, none)) = (24576, some ⟨0x90, .ok, [0, 192, 0, 0, 0]⟩) := by decide

/-- 01, "a forward step over quarters": four missed, the guard at index 40. -/
def beforeStep : State := tower.modTk fun k =>
  { k with counters := ⟨20, 25, 1, 6, 9, 7, 40, 200⟩, guard := some ⟨⟨2025, 1, 6⟩, 36⟩ }

theorem test_step : (match exec (.setTime .s [20, 25, 1, 6, 10, 3, 0]) beforeStep with
    | .next t => (t.tk.missedCount, t.tk.guard, t.tk.counters)
    | _ => (0, none, Counters.cold)) = (4, some ⟨⟨2025, 1, 6⟩, 40⟩, ⟨20, 25, 1, 6, 10, 3, 0, 0⟩) := by decide

/-- 01, "the daylight night": LAST Sunday of March and of October, standard hour 2, in 2025. -/
def northern : DstRule := { enabled := true, begins := ⟨3, .last, 0, 2⟩, ends := ⟨10, .last, 0, 2⟩ }

theorem test_daylight :
    northern.inForceAt ⟨20, 25, 3, 30, 1, 59, 59, 255⟩ = false ∧ northern.inForceAt ⟨20, 25, 3, 30, 2, 0, 0, 0⟩ = true ∧
      northern.inForceAt ⟨20, 25, 10, 26, 1, 59, 59, 255⟩ = true ∧ northern.inForceAt ⟨20, 25, 10, 26, 2, 0, 0, 0⟩ = false := by
  decide

/-- 02, "choosing across a spring". -/
def spring : Calendar :=
  { Calendar.cold with
    yearRefs := [⟨2023, 4, 9⟩, ⟨2024, 3, 31⟩, ⟨2025, 4, 20⟩, ⟨2026, 4, 5⟩]
    entries := (((((Calendar.cold.entries.set 0 (some ⟨.weekday 0, 2, 1⟩)).set 3 (some ⟨.fixed 12 25, 9, 7⟩)).set 4
      (some ⟨.yearRef (-7), 6, 3⟩)).set 5 (some ⟨.yearRef 0, 9, 2⟩)).set 6 (some ⟨.yearRef 39, 6, 4⟩)).set 9
      (some ⟨.fixed 12 25, 9, 5⟩) }

theorem test_choice : spring.choose ⟨2025, 4, 13⟩ = (3, some 4) ∧ spring.choose ⟨2025, 4, 20⟩ = (2, some 5) ∧
    spring.choose ⟨2025, 4, 21⟩ = (0, none) ∧ spring.choose ⟨2025, 5, 29⟩ = (4, some 6) ∧
    spring.choose ⟨2025, 12, 25⟩ = (7, some 3) := by decide

theorem test_year_refs : (addRef ⟨2027, 3, 28⟩ spring.yearRefs).map Date.year = [2024, 2025, 2026, 2027] := by decide

/-- 03, "daylight time ends" and "begins": D = 1320 holds, D = 120 catches up. -/
theorem test_dial_lag :
    let d : Dial := { Dial.cold with fitted := true, mode := .running, position := 360 }
    d.lagAt ⟨⟨2025, 10, 26⟩, 2, 0, 0, 0⟩ = 1320 ∧ d.stateFor 1320 = .holding ∧ d.stateFor 120 = .catching ∧
      d.demandsFor 1320 = false ∧ d.demandsFor 120 = true := by decide

/-- 06, "the fourth quarter": the offsets at tempo 80. -/
def fourNotes : List Note := [⟨3, 0, 2⟩, ⟨1, 128, 2⟩, ⟨2, 128, 2⟩, ⟨5, 256, 2⟩]

theorem test_offsets : [0, 1, 2, 3].map (noteOffset fourNotes 80) = [0, 160, 320, 640] ∧ tuneDuration fourNotes 80 = 640 := by
  decide

/-- 06, "five blows for four slots": at 1002 the arbiter chooses bell 13 of the two clavier entries. -/
def fiveBlows : State :=
  (tower.modTk fun k => { k with runCount := 1002 }).modEngine fun g =>
    { g with
      rotation := 9
      queue := [⟨.tune, none, 8, 2, none, 0, 1032, 1000⟩, ⟨.quarter, none, 1, 2, none, 0, 1032, 1000⟩,
        ⟨.toll, some .v, 5, 2, none, 0, 1033, 1001⟩, ⟨.clavier, some .c, 3, 2, none, 0, 1034, 1002⟩,
        ⟨.clavier, some .c, 12, 2, none, 0, 1034, 1002⟩] }

theorem test_arbiter : fiveBlows.choose.map QueueEntry.bell = some 12 := by decide

/-- 06: bell 5's first hour blow meets a deficit of 44 and slips by it. -/
def hourBell : State :=
  (tower.modBell 4 fun _ =>
    { rested with config := { config with lead := 60, recovery := 300 }, horizon := some 300000 }).modTk fun k =>
      { k with runCount := 299000 }

theorem test_slip :
    hourBell.planned ⟨.hour, none, 4, 3, 300256, .slip, 64, none, 0⟩ = .queued 300300 300240 44 0 ∧
      hourBell.planned ⟨.hour, none, 4, 3, 300256, .slip, 32, none, 0⟩ = .dropped .recovery := by decide

/-- 10, "the sunset of 20 March". -/
def sun : Table 24 SolarPoint :=
  ((Lights.cold.solar.set 5 ⟨380, 1090⟩).set 6 ⟨358, 1112⟩).set 3 ⟨360, 1040⟩ |>.set 4 ⟨360, 1062⟩

theorem test_sun : solarMinute sun SolarPoint.sunset ⟨2024, 2, 24⟩ = 1053 ∧ clampMinute (1320 + 60 + 120) = 1439 ∧
    solarMinute sun SolarPoint.sunset ⟨2025, 3, 20⟩ = 1096 ∧ solarMinute sun SolarPoint.sunrise ⟨2025, 3, 20⟩ = 374 := by
  decide

/-- 10, "shedding for a bell". -/
theorem test_consumption : consumption 160 64 = 41 ∧ consumption 240 128 = 121 ∧ largestLevel 240 229 = 243 ∧
    largestLevel 160 41 = 65 ∧ largestLevel 160 150 = 239 := by decide

/-- A circuit at level 255. -/
def lit (weight rank floor : Nat) : CircuitRec :=
  { CircuitRec.atStart ⟨weight, rank, floor, 255⟩ with wanted := 255, granted := 255, current := 255 }

def feeder : State :=
  (tower.modLoad fun l => { l with capacity := 600, reserve := 40 }).modLights fun g =>
    { g with circuits := (g.circuits.set 0 (lit 240 1 0)).set 1 (lit 160 2 64) }

theorem test_shed : feeder.committed = 440 ∧ feeder.free = 160 ∧
    (feeder.makeRoom 220).map (fun s => (s.committed, (s.circuit 0).shed, (s.circuit 1).shed, (s.circuit 1).current)) =
      some (321, false, true, 64) := by decide

/-- 11: the CRC's parameters, on the digits 1 to 9, have the published check value 29B1h. -/
theorem test_crc : crc16 [0x31, 0x32, 0x33, 0x34, 0x35, 0x36, 0x37, 0x38, 0x39] = 0x29B1 := by decide

/-- 11: the note layout, gap 5 = 1 · 4 + 1, class 3. -/
theorem test_note : wNote ⟨7, 5, 3⟩ = [7, 1, 0x42] ∧ noteOf 7 1 0x42 = ⟨7, 5, 3⟩ := by decide

/-- R51: a reading that repeats the one before it is taken. -/
theorem test_debounce : (Sensor.unknown.sample true).state = none ∧
    ((Sensor.unknown.sample true).sample true).state = some true ∧
    (((known false).sample true).sample true).latch = true := by decide

/-- 09, "a bell rung for a wedding": SWING-START on bell 1 for 15 minutes sends the bell and its hammer to PARKING. -/
theorem test_swing_start : (match exec (.swingStart .s [1, 0, 0, 0, 15, 0]) tower with
    | .next t => (t.swingState 0, (t.swingRec 0).minutes, (t.bell 0).hammer, (t.port .s).response)
    | _ => (.unreported, none, none, none)) =
      (.parking, some 15, some .parking, some ⟨0xD8, .ok, [1, 0, 0, 0]⟩) := by decide

/-- 09: a bell with four edges enters RINGING at its start end; with one it faults with STALL. -/
theorem test_start_end :
    (match exec (.startEnd 1) (swings { timed .starting with edges := 4, lastPulse := some 199800 } true) with
      | .next t => (t.swingState 0, t.motorLine 0, (t.swingRec 0).timer)
      | _ => (.unreported, false, none)) = (.ringing, true, some 200824) ∧
    (match exec (.startEnd 1) (swings { timed .starting with edges := 1, lastPulse := some 199800 } true) with
      | .next t => (t.swingState 0, t.motorLine 0, (t.swingRec 0).fault)
      | _ => (.unreported, false, none)) = (.fault, false, some .stall) := by decide

/-- R134's first conditions. -/
theorem test_start_refused : tower.startRefusal 1 (some .s) = some .noMotor ∧ tower.startRefusal 0 (some .s) = none := by
  decide

/-- R118: an available bell's strike is queued for now, granted at once, and its line is driven. -/
theorem test_strike : (match exec (.strike .s [1, 2, 0]) tower with
    | .next t => (t.hammerLine 0, t.engine.queue, (t.bell 0).lastOnset)
    | _ => (false, [], none)) = (true, [], some 200032) := by decide

/-- 08, "two keys together": two keys in one scan contend. -/
def keyed : State := tower.modClavier fun c =>
  { c with keys := c.keys.map fun k => { k with last := some true, state := some false, condition := .opened } }

theorem test_contended : (match exec (.clavierScan 3 false) keyed with
    | .next t => (t.clavier.arbiter, t.clavier.registered)
    | _ => (.free, 9)) = (.contended [0, 1], 0) := by decide

/-- The queue is first in, first out. -/
theorem test_step_takes_front : (match step { tower with pending := [.getTime .v [0], .lateDrop] } with
    | .next t => t.pending
    | _ => []) = [.lateDrop] := by decide

theorem test_no_word : tower.withFetchWord 8 0 = tower := rfl

/-! ## Witnesses: the hypotheses of each statement are met -/

/-- The tower while port S is being answered. -/
def answering : State := tower.modPort .s fun r => { r with response := some ⟨0x90, .ok, []⟩ }

/-- The tower with every section locked. -/
def shut : State := tower.modLink fun k => { k with locks := 0x3F }

theorem witness_StepTakesTheFrontCommand : tower.pending = [] := rfl

theorem witness_RefusedRequestsChangeNothing :
    (Instr.setMask .s [0, 0]).plainRequest? = some (.s, 0x02, [0, 0]) ∧ answering.takes .s 0x02 [0, 0] = false ∧
      (Instr.lock .v [1]).plainRequest? = some (.v, 0x07, [1]) ∧ tower.takes .v 0x07 [1] = true ∧
      tower.check .v 0x07 [1] = some .noRight ∧
      (∃ data, (Instr.getTime .v []).plainRead? = some (.v, 0x11, [], data)) ∧ tower.takes .v 0x11 [] = true ∧
      tower.check .v 0x11 [] = some .badValue :=
  ⟨rfl, by decide, rfl, by decide, by decide, ⟨_, rfl⟩, by decide, by decide⟩

theorem witness_RefusedRequestsChangeNothing_rows :
    ∃ row, requestRow? (0x40 : Byte).toNat = some row ∧ row.fits [] = false ∧ row.fits [1, 2, 3, 4, 5, 6] = true ∧
      row.right = some .bells ∧ tower.holds .v .bells = false ∧ (∀ r, row.right = some r → shut.holds .s r = true) ∧
      row.sect = some .bells ∧ shut.locked .bells = true :=
  ⟨_, rfl, by decide, by decide, rfl, by decide, fun r h => by cases h; decide, rfl, by decide⟩

theorem witness_PlainReadsReturnTheirData :
    (∃ data, (Instr.getTime .v [0]).plainRead? = some (.v, 0x11, [0], data)) ∧ tower.accepts .v 0x11 [0] ∧
      State.readPage [0] = 0 :=
  ⟨⟨_, rfl⟩, accepts_of (by decide) (by decide), rfl⟩

theorem witness_ReadsOfARecordAndLaterPages :
    tower.accepts .v 0x1D [47, 0] ∧ tower.accepts .v 0x1F [15, 0] ∧ tower.accepts .v 0x31 [24, 0] ∧
      tower.accepts .v 0x68 [7, 0] ∧ tower.accepts .v 0x33 [0, 0] ∧ tower.accepts .v 0x33 [1, 0] ∧
      (Date.mk 1900 1 1).inCalendar = true ∧ tower.accepts .v 0x21 (wDate ⟨1900, 1, 1⟩ ++ [0]) ∧
      (Date.mk 2999 12 31).inCalendar = true ∧ tower.accepts .v 0x21 (wDate ⟨2999, 12, 31⟩ ++ [0]) :=
  ⟨accepts_of (by decide) (by decide), accepts_of (by decide) (by decide), accepts_of (by decide) (by decide),
    accepts_of (by decide) (by decide), accepts_of (by decide) (by decide), accepts_of (by decide) (by decide), by decide,
    accepts_of (by decide) (by decide), by decide, accepts_of (by decide) (by decide)⟩

/-- The tower with a snapshot of GET-BELLS on port V. -/
def snapped : State := tower.modPort .v fun r => { r with snapshot := some ⟨0x32, [], List.replicate 300 7⟩ }

theorem witness_ReadsOfARecordAndLaterPages_pages :
    (∃ row, requestRow? (0x32 : Byte).toNat = some row ∧ row.read = true ∧ row.fits [1] = true ∧ row.fits [255] = true) ∧
      State.readPage [1] ≠ 0 ∧ snapped.takes .v 0x32 [1] = true ∧
      (snapped.port .v).snapshot = some ⟨0x32, State.readArgs [1], List.replicate 300 7⟩ ∧
      tower.takes .v 0x32 [255] = true ∧ tower.holdsSnapshot .v 0x32 (State.readArgs [255]) = false :=
  ⟨⟨_, rfl, rfl, by decide, by decide⟩, by decide, by decide, rfl, by decide, by decide⟩

theorem witness_FramesAreReceivedOrDiscarded :
    tower.power = .on ∧ (tower.port .v).receiver = .hunt ∧
      (tower.port .v).fifo + (List.replicate 60 (1 : Byte)).length + 3 ≤ Config.fifo ∧ (0 : Byte) ≠ 0xC3 := by decide

/-- The tower with port V's receiver in a state, and bodies that wait on it. -/
def receiving (x : Receiver) (waiting : List (List Byte)) : State :=
  tower.modPort .v fun r => { r with receiver := x, waiting := waiting }

theorem witness_FramesAreReceivedOrDiscarded_errors :
    Config.fifo ≤ ((receiving .length [List.replicate 60 0]).port .v).fifo ∧
      ((receiving .length []).port .v).fifo < Config.fifo ∧ (60 < (61 : Byte).toNat) ∧
      (1 + ([(5 : Byte)].map BitVec.toNat).sum + (0 : Byte).toNat) % 256 ≠ 0 ∧
      ((receiving (.check 1 [5]) []).port .v).receiver = .check 1 [5] ∧
      ((receiving .length []).port .v).receiver ≠ .hunt := by decide

/-- The tower with parts of a SET-PLAN on port S. -/
def parted (n : Nat) : State := tower.modPort .s fun r => { r with parts := some ⟨0x61, 4, List.replicate n [0]⟩ }

theorem witness_PartsAreGatheredInSequence :
    tower.accepts .s 0x61 [1, 4] ∧ (1 : Byte).toNat < (4 : Byte).toNat ∧
      (tower.port .s).parts.any (fun x => x.code == 0x61) = false ∧
      (parted 2).accepts .s 0x61 [3, 4] ∧ ((parted 2).port .s).parts = some ⟨0x61, 4, [[0], [0]]⟩ ∧
      (parted 1).accepts .s 0x61 [3, 4] ∧ ((parted 1).port .s).parts = some ⟨0x61, 4, [[0]]⟩ ∧
      requestRow? (0x09 : Byte).toNat = none ∧ tower.takes .s 0x09 [] = true :=
  ⟨accepts_of (by decide) (by decide), by decide, by decide, accepts_of (by decide) (by decide), rfl,
    accepts_of (by decide) (by decide), rfl, rfl, by decide⟩

theorem witness_LinkRequestsWriteTheirFields :
    tower.accepts .s 0x01 [] ∧ tower.accepts .s 0x02 [0xFF, 0x3F] ∧ readAll rMask [0xFF, 0x3F] = some 0x3FFF ∧
      tower.accepts .s 0x05 [0, 0, 0, 0, 0, 2] ∧ readAll rSetRights [0, 0, 0, 0, 0, 2] = some ⟨0, 0, 0x200⟩ ∧
      tower.accepts .s 0x07 [0x3F] ∧ readAll rLock [0x3F] = some 0x3F ∧ tower.accepts .s 0x08 [] ∧
      (answering.port .s).response = some ⟨0x90, .ok, []⟩ ∧ (answering.port .s).restart = false :=
  ⟨accepts_of (by decide) (by decide), accepts_of (by decide) (by decide), by decide, accepts_of (by decide) (by decide),
    by decide, accepts_of (by decide) (by decide), by decide, accepts_of (by decide) (by decide), rfl, rfl⟩

/-- The tower while mains is absent. -/
def dark : State := { tower with power := .absent }

theorem witness_WarmStartKeepsTheRetainedStore :
    dark.power ≠ .on ∧ tower.power = .on ∧
      (let s := answering.modPort .s fun r => { r with restart := true }
       (s.port .s).response.isSome = true ∧ (s.port .s).restart = true) := by decide

/-- RESTART's response on S is about to have gone while V's is still being sent. -/
def restarting : State :=
  (answering.modPort .s fun r => { r with restart := true }).modPort .v fun r => { r with response := some ⟨0x91, .ok, [1]⟩ }

/-- R177: the warm start takes S's response away and leaves V's. -/
theorem test_restart_keeps_sending : (match exec (.responseSent .s) restarting with
    | .next t => ((t.port .s).response, (t.port .v).response, (t.port .v).counters.taken, (t.port .s).restart)
    | _ => (none, none, 1, true)) = (none, some ⟨0x91, .ok, [1]⟩, 0, false) := by decide

theorem witness_LossOfSupplyReleasesEveryLine : tower.power = .on := rfl

theorem witness_TickBetweenBoundariesOnlyCounts :
    tower.signals = [] ∧ tower.tk.counters ≠ .final ∧ tower.tk.counters.tick < 255 ∧ dark.power ≠ .on ∧
      (tower.modTk fun k => { k with counters := .final }).tk.counters = .final := by decide

theorem witness_CountersAdvanceByOneTick :
    Counters.legal ⟨29, 99, 12, 31, 23, 59, 59, 254⟩ = true ∧ Counters.mk 29 99 12 31 23 59 59 254 ≠ .final ∧
      Counters.legal ⟨19, 0, 2, 28, 23, 59, 59, 255⟩ = true ∧ (Date.mk 1 12 31).inCalendar = true := by decide

/-- The tower one tick before the quarter past of its first hour. -/
def quarterPast : State := tower.modTk fun k => { k with counters := ⟨20, 0, 1, 1, 0, 14, 59, 255⟩ }

theorem witness_QuarterInstantsMoveTheGuard :
    quarterPast.power = .on ∧ quarterPast.tk.counters.tick = 255 ∧ quarterPast.tk.counters.second = 59 ∧
      quarterPast.tk.counters.minute = 14 := by decide

/-- The tower one tick before a minute of its first day, with Q1's tune held, a plan, a ringing slot and a fitted train. -/
def before (hour minute : Nat) (silentEnd : Nat) : State :=
  let p : Program := { Program.cold with
    tunes := (Program.cold.tunes.set 0 (some 3)).set 3 (some 3), hourOn := true, silentEnd := silentEnd }
  let tune : Buffer := ⟨.valid, some 3, some ⟨64, .slip, [⟨1, 0, 2⟩]⟩, none, none⟩
  (((((tower.modTk fun k =>
    { k with counters := ⟨20, 0, 1, 1, hour, minute, 59, 255⟩, taps := k.taps.set .v .min15 }).modPlayers fun y =>
      { y with program := some p, buffers := (y.buffers.set 0 tune).set 3 tune }).modSwing fun w =>
        { w with day := some (⟨2000, 1, 1⟩, [⟨15, 1, 60, 0⟩]) }).modLights fun g =>
          { g with handDate := some ⟨2000, 1, 1⟩, timelineDate := some ⟨2000, 1, 1⟩
                   timeline := [⟨15, ⟨.clock 15, 1, 255, 0⟩, false⟩] }).modDial 0 fun d => { d with fitted := true })

theorem witness_QuarterInstantsMoveTheGuard_boundaries :
    (∀ m ∈ [14, 58, 59], (before 0 m 0).power = .on ∧ (before 0 m 0).tk.counters.tick = 255 ∧
      (before 0 m 0).tk.counters ≠ .final ∧ (before 0 m 0).tk.timeValid = true ∧
      (before 0 m 0).tk.dstRule.inForceAt (before 0 m 0).tk.counters.advance = (before 0 m 0).tk.dstInForce) ∧
    (let s := before 0 14 0
     let l := s.tk.counters.advance.toLocal false
     l.quarter.laterThan s.tk.guard = true ∧ (s.players.program.any fun p => (p.tunes.get 0).isSome) = true ∧
      (s.players.program.any fun p => !p.silentAt l.minuteOfDay) = true ∧
      s.bufferNotes 0 = some [⟨1, 0, 2⟩] ∧ firstNote? [⟨1, 0, 2⟩] = some (0, 0) ∧ s.swing.held = [] ∧
      s.swing.guard = none ∧ s.swing.runs.length < 8 ∧ l.minuteOfDay = 15 ∧ s.tk.taps.get .v = .min15) ∧
    (let s := before 0 58 0
     let l := s.tk.counters.advance.toLocal false
     l.nextHour.laterThan s.tk.guard = true ∧ s.bufferNotes 3 = some [⟨1, 0, 2⟩] ∧ (s.config 0).lead ≤ 255 ∧
      (s.players.program.any fun p => p.hourOn && !p.silentAt 60) = true ∧ s.engine.queue = []) ∧
    ((before 0 58 1439).players.program.any fun p => p.silentAt 60) = true ∧
    ((before 0 14 1439).players.program.any fun p => p.silentAt 15) = true ∧
    ((before 23 59 0).tk.counters.advance.toLocal false).minuteOfDay = 0 ∧
    (before 23 59 0).engine.losses.silent + 2 ≤ 65535 ∧
    northern.inForceAt (Counters.advance ⟨20, 25, 3, 30, 1, 59, 59, 255⟩) ≠ false := by decide

/-- At the first quarter past, the chime's run starts, the slot starts, its step is taken and V's tap raises TICK. -/
theorem test_quarter_past : (match exec .tickEnd (before 0 14 0) with
    | .next t => (t.players.quarterRun.map QuarterRun.start, t.swing.runs.length, t.lights.timeline.all TimelineStep.done,
        t.tk.guard)
    | _ => (none, 0, false, none)) = (some 200001, 1, true, some ⟨⟨2000, 1, 1⟩, 1⟩) := by decide

/-- At minute 59 the hour strike is planned 15,360 ticks ahead; a withdrawal of it ends the run prepared from it. -/
theorem test_hour_ahead : (match exec .tickEnd (before 0 58 0) with
    | .next t => (t.players.hourRun.map HourRun.instant, t.players.quarterRun.bind QuarterRun.ahead,
        t.withdrawHourAhead.players.quarterRun, (t.chimeWithdrawn ⟨⟨2000, 1, 1⟩, 2, 5⟩).players.quarterRun.isSome)
    | _ => (none, none, none, false)) = (some 215361, some 215361, none, true) := by decide

/-- One tick before standard hour 2 of the last Sunday of March 2025, the daylight flag not yet set. -/
def springNight : State := tower.modTk fun k =>
  { k with counters := ⟨20, 25, 3, 30, 1, 59, 59, 255⟩, dstRule := northern, guard := some ⟨⟨2025, 3, 30⟩, 7⟩ }

theorem witness_QuarterInstantsMoveTheGuard_daylight :
    let u := springNight.tk.counters.advance
    ¬(u.second ≠ 0 ∨ u.minute ≠ 0 ∨ springNight.tk.dstRule.inForceAt u = springNight.tk.dstInForce) ∧
      springNight.power = .on ∧ springNight.tk.counters.tick = 255 := by decide

/-- R11, R14: local time goes from 2:00 to 3:00; 2:00 is reached, and the four quarters after it are missed. -/
theorem test_spring_night : (match exec .tickEnd springNight with
    | .next t => (t.localTime.hour, t.tk.guard, t.tk.missedCount, t.tk.lastMissed)
    | _ => (0, none, 0, none)) = (3, some ⟨⟨2025, 3, 30⟩, 12⟩, 4, some ⟨⟨2025, 3, 30⟩, 12⟩) := by decide

theorem witness_LawOfTheGuard : ∃ t, exec .tickEnd quarterPast = .next t := ⟨_, rfl⟩

theorem witness_SetTimeSlewsOrSteps :
    tower.accepts .s 0x10 [20, 0, 1, 1, 0, 0, 2] ∧
      readAll rSetTime [20, 0, 1, 1, 0, 0, 2] = some ⟨20, 0, 1, 1, 0, 0, 2, 0⟩ ∧ tower.tk.timeValid = true ∧
      (Counters.mk 20 0 1 1 0 0 2 0).ticks = tower.tk.counters.ticks + 512 ∧
      tower.accepts .s 0x10 [20, 0, 1, 1, 0, 0, 3] ∧
      readAll rSetTime [20, 0, 1, 1, 0, 0, 3] = some ⟨20, 0, 1, 1, 0, 0, 3, 0⟩ ∧
      tower.tk.counters.ticks + 512 < (Counters.mk 20 0 1 1 0 0 3 0).ticks :=
  ⟨accepts_of (by decide) (by decide), by decide, rfl, by decide, accepts_of (by decide) (by decide), by decide, by decide⟩

theorem witness_DaylightRuleAndTaps :
    tower.accepts .s 0x12 [1, 3, 1, 0, 0, 2, 10, 1, 0, 0, 2] ∧
      readAll rSetDst [1, 3, 1, 0, 0, 2, 10, 1, 0, 0, 2] = some northern ∧
      northern.inForceAt tower.tk.counters = tower.tk.dstInForce ∧
      northern.inForceAt ⟨20, 25, 7, 1, 0, 0, 0, 0⟩ ≠ tower.tk.dstInForce ∧ tower.accepts .v 0x14 [4] ∧
      readAll rSetTick [4] = some .min15 :=
  ⟨accepts_of (by decide) (by decide), by decide, by decide, by decide, accepts_of (by decide) (by decide), by decide⟩

/-- R10, R14: a rule set in summer, at 0:00 standard time of 1 July, takes local time to 1:00 over four quarters. -/
theorem test_set_dst_misses : (match exec (.setDst .s [1, 3, 1, 0, 0, 2, 10, 1, 0, 0, 2])
      (tower.modTk fun k => { k with counters := ⟨20, 25, 7, 1, 0, 0, 0, 0⟩, guard := some ⟨⟨2025, 7, 1⟩, 0⟩ }) with
    | .next t => (t.tk.guard, t.tk.missedCount, t.tk.lastMissed)
    | _ => (none, 0, none)) = (some ⟨⟨2025, 7, 1⟩, 4⟩, 4, some ⟨⟨2025, 7, 1⟩, 4⟩) := by decide

/-- The tower with an hour-ahead outstanding, and a chime and an hour strike from it. -/
def ahead : State := (tower.modTk fun k => { k with hourAhead := some ⟨⟨2000, 1, 1⟩, 1, 210000⟩ }).modPlayers fun y =>
  { y with
    quarterRun := some ⟨7, 3, 206000, 64, .slip, 64, 0, 0, .zero, false, 205000, some 210000, 0⟩
    hourRun := some
      ⟨8, 1, 210000, 1, 0, 640, 3, .slip, 64, .drop, 210000, 0, 0, .planned, false, none, 0, 0, 0, 209456⟩ }

theorem witness_SetTimeSlewsOrSteps_hour_ahead :
    ahead.accepts .s 0x10 [20, 0, 1, 1, 0, 0, 3] ∧ ahead.accepts .s 0x10 [20, 0, 1, 1, 0, 59, 50] ∧
      ahead.tk.hourAhead = some ⟨⟨2000, 1, 1⟩, 1, 210000⟩ ∧ ahead.players.held = [] ∧
      (ahead.players.quarterRun.any fun r => r.ahead == some 210000) = true ∧
      (ahead.players.hourRun.any fun r => r.instant == 210000) = true ∧
      ahead.accepts .s 0x12 [1, 1, 1, 0, 0, 0, 10, 1, 0, 0, 2] :=
  ⟨accepts_of (by decide) (by decide), accepts_of (by decide) (by decide), rfl, rfl, by decide, by decide,
    accepts_of (by decide) (by decide)⟩

/-- R15, R107: a step out of the minute before the hour ends the runs; a step to 00:59:50 gives the hour-ahead anew. -/
theorem test_withdrawn :
    (match exec (.setTime .s [20, 0, 1, 1, 0, 0, 3]) ahead with
      | .next t => t.tk.hourAhead.isNone && t.players.quarterRun.isNone && t.players.hourRun.isNone
      | _ => false) = true ∧
    (match exec (.setTime .s [20, 0, 1, 1, 0, 59, 50]) ahead with
      | .next t => t.tk.hourAhead
      | _ => none) = some ⟨⟨2000, 1, 1⟩, 1, 202560⟩ := by decide

theorem witness_GetTimeAnswersTheTowerTime : tower.takes .c 0x11 [0] = true := by decide

theorem witness_FixedAndWeekdayEntriesMatch :
    (Date.mk 2000 2 29).inCalendar = true ∧ (EntryKind.fixed 2 29).matchesDate [] ⟨2000, 2, 29⟩ = true ∧
      isLeap 2000 = true ∧ (Date.mk 2025 12 31).inCalendar = true := by decide

theorem witness_NthEntriesMatchOneDateInEachYear :
    (Date.mk 2025 3 30).inCalendar = true ∧ (EntryKind.nth .last 0 3).matchesDate [] ⟨2025, 3, 30⟩ = true ∧
      (EntryKind.nth (.nth 4) 6 12).matchesDate [] ⟨2025, 12, 27⟩ = true := by decide

theorem witness_ChoiceTakesTheHighestRank :
    spring.matching ⟨2025, 4, 21⟩ = [] ∧ spring.matching ⟨2025, 12, 25⟩ ≠ [] := by decide

/-- R23: 31 March 2024 is day 91 of 366, so offsets of -90 and 275 lie in the year, and -91 and 276 outside it. -/
theorem witness_ChoiceTakesTheHighestRank_refs :
    spring.yearRefs.Pairwise (fun x y => x.year < y.year) ∧ (⟨2024, 3, 31⟩ : Date) ∈ spring.yearRefs ∧
      (⟨2024, 3, 31⟩ : Date).ordinal = 91 ∧ (EntryKind.yearRef (-90)).matchesDate spring.yearRefs ⟨2024, 1, 1⟩ = true ∧
      (EntryKind.yearRef 275).matchesDate spring.yearRefs ⟨2024, 12, 31⟩ = true ∧
      (EntryKind.yearRef (-91)).matchesDate spring.yearRefs ⟨2023, 12, 31⟩ = false ∧
      (EntryKind.yearRef 0).matchesDate spring.yearRefs ⟨2022, 3, 31⟩ = false := by decide

/-- The tower whose year references and day in force are those of the example. -/
def inSpring : State := tower.modCal fun _ =>
  { spring with day := some { date := ⟨2025, 4, 21⟩, program := 0, winner := none, valid := true } }

theorem witness_CalendarEditsRerunTheChoice :
    inSpring.accepts .s 0x18 (wDate ⟨2027, 3, 28⟩) ∧ readAll rDate (wDate ⟨2027, 3, 28⟩) = some ⟨2027, 3, 28⟩ ∧
      inSpring.accepts .s 0x19 (le 2 2025) ∧ readAll rYear (le 2 2025) = some 2025 ∧
      (∃ d ∈ inSpring.cal.yearRefs, d.year = 2025) ∧ readAll rYear (le 2 1900) = some 1900 ∧
      (∀ d ∈ inSpring.cal.yearRefs, d.year ≠ 1900) ∧
      inSpring.accepts .s 0x1A (le 1 7 ++ wOr 7 wEntry (some ⟨.fixed 4 21, 1, 8⟩)) ∧
      readAll rSetEntry (le 1 7 ++ wOr 7 wEntry (some ⟨.fixed 4 21, 1, 8⟩)) = some (7, some ⟨.fixed 4 21, 1, 8⟩) ∧
      inSpring.accepts .s 0x1B (le 1 0 ++ wProgram .cold) ∧
      readAll rSetProgram (le 1 0 ++ wProgram .cold) = some (0, .cold) ∧
      readAll rSetProgram (le 1 15 ++ wProgram .cold) = some (15, .cold) ∧
      inSpring.cal.yearRefs.length ≤ 4 ∧ inSpring.cal.yearRefs.Pairwise (fun x y => x.year < y.year) :=
  ⟨accepts_of (by decide) (by decide), by decide, accepts_of (by decide) (by decide), by decide, by decide, by decide,
    by decide, accepts_of (by decide) (by decide), by decide, accepts_of (by decide) (by decide), by decide, by decide,
    by decide, by decide⟩

/-- R27: an entry for the day in force changes its program, which is handed over; one that does not match changes nothing. -/
theorem test_edit_hands_over :
    let s := inSpring.modCal fun c => { c with programs := c.programs.set 8 { Program.cold with plan := some 3, tempo := 99 } }
    (match exec (.setEntry .s (le 1 7 ++ wOr 7 wEntry (some ⟨.fixed 4 21, 1, 8⟩))) s with
      | .next t => (t.cal.day.map DayInForce.program, t.players.program.map Program.tempo, t.lights.plan)
      | _ => (none, none, none)) = (some 8, some 99, some 3) ∧
    (match exec (.setEntry .s (le 1 7 ++ wOr 7 wEntry (some ⟨.fixed 4 22, 1, 8⟩))) s with
      | .next t => (t.cal.day.map DayInForce.program, t.lights.plan, (t.port .s).response.map fun x => x.payload.getLast?)
      | _ => (none, none, none)) = (some 0, none, some (some 0)) := by decide

/-- The tower with a dial train. -/
def dialled (d : Dial) : State := tower.modDial 0 fun _ => d

/-- A fitted train. -/
def train : Dial := { Dial.cold with fitted := true }

/-- A train with an impulse in flight that has reached its end. -/
def pulsed : Dial :=
  { train with mode := .running, state := .inStep, inFlight := true, impulse := some ⟨.a, 200000⟩, catchUp := 200256 }

theorem witness_DialsMoveByHandSetsAndImpulses :
    (dialled train).accepts .s 0x29 [1, 0x9F, 5, 1, 0] ∧ readAll rSetDial [1, 0x9F, 5, 1, 0] = some (0, 1439, some .a) ∧
      ((dialled train).dial 0).fitted = true ∧ ((dialled train).dial 0).mode = .unset ∧
      ((dialled { train with mode := .stopped, state := .stopped }).dial 0).mode = .stopped ∧
      ((dialled pulsed).dial 0).impulse.isSome = true ∧
      (dialled pulsed).accepts .s 0x28 [1, 0, 0, 1, 0, 2, 240, 0] ∧
      readAll rSetDialConfig [1, 0, 0, 1, 0, 2, 240, 0] = some (0, ⟨false, 256, 512, 240⟩) ∧
      readAll rSetDialConfig [4, 1, 128, 0, 128, 1, 0xD0, 2] = some (3, ⟨true, 128, 384, 720⟩) :=
  ⟨accepts_of (by decide) (by decide), by decide, rfl, rfl, rfl, rfl, accepts_of (by decide) (by decide), by decide, by decide⟩

theorem witness_DialsMoveByHandSetsAndImpulses_unfitted :
    tower.accepts .s 0x29 [4, 0, 0, 0, 0] ∧ readAll rSetDial [4, 0, 0, 0, 0] = some (3, 0, none) ∧ (tower.dial 3).fitted = false :=
  ⟨accepts_of (by decide) (by decide), by decide, rfl⟩

theorem witness_DialsMoveByHandSetsAndImpulses_instants :
    (dialled pulsed).now < ((dialled pulsed).dial 0).catchUp ∧
      (let s := dialled { train with mode := .running, state := .inStep, lag := some 1, demanded := true, catchUp := 200000 }
       (s.dial 0).catchUp ≤ s.now ∧ (s.dial 0).state ≠ .catching ∧ (s.dial 0).demanded = true ∧ (s.dial 0).impulse = none) ∧
      (let s := dialled { train with mode := .running, state := .catching, lag := some 9, demanded := true, catchUp := 200000 }
       (s.dial 0).catchUp ≤ s.now ∧ (s.dial 0).state = .catching) ∧
      ((dialled pulsed).dial 0).impulse = some ⟨.a, 200000⟩ ∧ 200000 ≤ (dialled pulsed).now := by decide

/-- A CATCHING train two half-minutes behind 0:00:30, one tick before that half-minute and its catch-up instant. -/
def catching : State := (dialled { train with
    mode := .running, state := .catching, position := 1439, lag := some 1, catchUp := 200001 }).modTk fun k =>
  { k with counters := ⟨20, 0, 1, 1, 0, 0, 29, 255⟩ }

/-- R37: the half-minute begins the impulse and leaves D = 2; the catch-up instant then finds D = 1, IN-STEP, and begins none. -/
theorem test_half_minute_then_catch_up : (catching.runs [.tickEnd]).map (fun s =>
      ((s.dial 0).lag, (s.dial 0).state, (s.dial 0).impulse.isSome, (s.dial 0).catchUpDue)) =
        some (some 2, .catching, true, true) ∧
    (catching.runs [.tickEnd, .dialCatchUp 1]).map (fun s =>
      ((s.dial 0).lag, (s.dial 0).state, (s.dial 0).catchUp, (s.dial 0).catchUpDue)) =
        some (some 1, .inStep, 200513, false) := by decide

theorem witness_DialsMoveByHandSetsAndImpulses_due :
    (let s := dialled { pulsed with state := .catching, catchUpDue := true }
     s.now < (s.dial 0).catchUp ∧ (s.dial 0).state = .catching ∧ (s.dial 0).catchUpDue = true) ∧
    (let d := { train with mode := .running, state := .catching, position := 1400, catchUp := 200000 }
     (d.evaluate ⟨⟨2000, 1, 1⟩, 0, 0, 0, 0⟩ true 200000).state = .catching) := by decide

theorem witness_DialsAreStoppedAndReleased :
    (dialled pulsed).takes .s 0x2A [1] = true ∧ (dialled pulsed).takes .s 0x2B [1] = true ∧
      (dialled pulsed).holds .s .clock = true ∧ (dialled pulsed).holds .v .clock = false ∧
      (dialled pulsed).takes .s 0x2A [5] = true ∧ ((dialled pulsed).dial 3).fitted = false ∧
      ((dialled pulsed).dial 0).mode = .running ∧ ((dialled train).dial 0).mode = .unset := by decide

theorem witness_LawOfTheDialTrains :
    (dialled pulsed).dialLaw ∧ ∃ t, exec (.impulseEnd 1) (dialled pulsed) = .next t :=
  ⟨by unfold State.dialLaw; decide, _, rfl⟩

theorem witness_LawOfTheDialTrains_begins :
    let s := dialled { train with mode := .running, state := .inStep, lag := some 1, demanded := true, catchUp := 200000 }
    s.dialLaw ∧ (s.dial 0).impulse = none ∧
      ∃ t, exec (.dialCatchUp 1) s = .next t ∧ (t.dial 0).impulse = some ⟨.a, 200256⟩ :=
  ⟨by unfold State.dialLaw; decide, rfl, _, rfl, by decide⟩

/-- The tower whose mains-present input last read `x`, debounced to `y`. -/
def supplied (power : Power) (x y : Bool) : State :=
  { tower with power := power, bells := { tower.bells with mains := ⟨some x, some y, false⟩ } }

theorem witness_SensorScanDebounces :
    (known true).last = some true ∧ Sensor.unknown.last ≠ some true ∧
      ((supplied .on false true).bells.mains.sample false).state = some false ∧
      (supplied .on false true).bells.mains.state ≠ some false ∧
      ((supplied .on true true).bells.mains.sample true).state ≠ some false ∧
      ((supplied .absent false false).bells.mains.sample true).state ≠ some true ∧
      ((supplied .absent true false).bells.mains.sample true).state = some true ∧
      (supplied .off true true).power = .off := by decide

/-- The tower with bell 1's hammer in a state. -/
def hammered (h : Hammer) (f : BellRec → BellRec) : State := tower.modBell 0 fun r => f { r with hammer := some h }

/-- A sensor debounced to `x` whose latest reading was the other. -/
def changing (x : Bool) : Sensor := { last := some !x, state := some x, latch := false }

/-- Bell 1's hammer is PARKING under a ROPE claim's demand, and its PARK is about to be debounced true. -/
def arriving : State := hammered .parking fun r =>
  { r with home := known false, park := changing false, demands := { Demands.empty with rope := true } }

/-- Bell 1 swings in a state, and its SW is about to be debounced true. -/
def speaking (x : SwingState) : State := (swings (timed x) true).modBell 0 fun r => { r with sw := changing false }

/-- The tower about to be scanned with the lock-out the other way round. -/
def locking (on : Bool) : State := tower.modBells fun t => { t with lockout := changing on }

/-- A tower one reading short of a valid image, every sensor but the lock-out known. -/
def blind : State :=
  { tower with
    bells :=
      { tower.bells with
        bells := (Table.replicate 24 { BellRec.atStart .cold with
          sw := known false, rest := known false, home := known false, park := known false }).set 0 { rested with hammer := none }
        lockout := ⟨some false, none, false⟩, imageValid := false }
    swing := State.reset.swing }

theorem witness_SensorScanDebounces_hammer :
    arriving.onlySensorsOf (arriving.debounced 10 false true) 0 ∧ arriving.swingState 0 = .idle ∧ arriving.claim 0 = none ∧
      (arriving.bell 0).hammer = some .parking ∧ ((arriving.debounced 10 false true).bell 0).park.state = some true := by
  refine ⟨⟨rfl, rfl, rfl, ?_, by decide⟩, rfl, rfl, rfl, rfl⟩
  unfold State.sameSensors; decide

/-- R56: PARK ends PARKING in PARKED, the demand holding it there. -/
theorem test_hammer_arrives : (match exec (.sensorScan 10 false true) arriving with
    | .next t => ((t.bell 0).hammer, (t.bell 0).timer)
    | _ => (none, some 0)) = (some .parked, none) := by decide

theorem witness_SensorScanDebounces_swing :
    ∀ x ∈ [SwingState.starting, .ringing, .stopping, .settling],
      (speaking x).onlySensorsOf ((speaking x).debounced 9 false true) 0 ∧ (speaking x).demandLaw ∧
        ((speaking x).swingRec 0).state = x := by
  intro x hx
  simp only [List.mem_cons, List.not_mem_nil, or_false] at hx
  rcases hx with rfl | rfl | rfl | rfl <;>
  · refine ⟨⟨rfl, rfl, rfl, ?_, by decide⟩, ?_, rfl⟩
    · unfold State.sameSensors; decide
    · unfold State.demandLaw; decide

/-- R138: a swing pulse in RINGING sets the deadline afresh. -/
theorem test_swing_pulse : (match exec (.sensorScan 9 false true) (speaking .ringing) with
    | .next t => ((t.swingRec 0).lastPulse, (t.swingRec 0).timer)
    | _ => (none, none)) = (some 200000, some (200000 + config.pulseTimeout * 256)) := by decide

/-- Bell 1 swings in a state with its hammer PARKED, and its PARK is about to be debounced false. -/
def losing (x : SwingState) : State :=
  (swings (timed x) (x == .starting || x == .ringing)).modBell 0 fun r => { r with park := changing true }

/-- Bell 1 waits in PARKING, and its PARK is about to be debounced true beside its HOME. -/
def conflicting : State := (swings (timed .parking) false).modBell 0 fun r =>
  { r with hammer := some .parking, home := known true, park := changing false }

theorem witness_SensorScanDebounces_lost :
    (∀ x ∈ [SwingState.waitLoad, .starting, .ringing],
      (losing x).onlySensorsOf ((losing x).debounced 0 false true) 0 ∧ (losing x).demandLaw ∧ (losing x).motorLaw ∧
        ((losing x).swingRec 0).state = x ∧ (losing x).load.queue.length < 8 ∧ (losing x).claim 0 = none) ∧
      conflicting.onlySensorsOf (conflicting.debounced 12 false true) 0 ∧ conflicting.demandLaw ∧ conflicting.motorLaw ∧
        (conflicting.swingRec 0).state = .parking := by
  refine ⟨fun x hx => ?_, ⟨rfl, rfl, rfl, ?_, by decide⟩, ?_, ?_, rfl⟩
  · simp only [List.mem_cons, List.not_mem_nil, or_false] at hx
    rcases hx with rfl | rfl | rfl <;>
    · refine ⟨⟨rfl, rfl, rfl, ?_, by decide⟩, ?_, ?_, rfl, by decide, rfl⟩
      · unfold State.sameSensors; decide
      · unfold State.demandLaw; decide
      · unfold State.motorLaw; decide
  · unfold State.sameSensors; decide
  · unfold State.demandLaw; decide
  · unfold State.motorLaw; decide

/-- R142: a hammer that leaves PARKED takes a ringing bell to FAULT with HAMMER-LOST, its motor released. -/
theorem test_hammer_lost : (match exec (.sensorScan 0 false true) (losing .ringing) with
    | .next t => ((t.bell 0).cause, (t.swingRec 0).fault, t.swingState 0, t.motorLine 0)
    | _ => (none, none, .idle, true)) = (some .parkLost, some .hammerLost, .fault, false) := by decide

/-- R142: a hammer that faults while its bell waits in PARKING takes it to FAULT with PARK-FAULT. -/
theorem test_park_fault : (match exec (.sensorScan 12 false true) conflicting with
    | .next t => ((t.bell 0).cause, (t.swingRec 0).fault, (t.swingRec 0).lastCause)
    | _ => (none, none, none)) = (some .sensorConflict, some .parkFault, some (.fault .parkFault)) := by decide

theorem witness_SensorScanDebounces_releasing :
    let s := (tower.setClaim 0 (some ⟨.v, .rope, some 300000, true⟩)).modBell 0 fun r => { r with rest := changing false }
    s.claim 0 = some ⟨.v, .rope, some 300000, true⟩ ∧ ((s.debounced 6 false true).bell 0).rest.state = some true ∧
      (s.bell 0).rest.state = some false ∧ ((s.debounced 4 false true).bell 0).rest.state = some false := by decide

theorem witness_SensorScanDebounces_lockout :
    ∀ on : Bool, (∀ b, (locking on).sameSensors ((locking on).debounced 6 (!on) true) b) ∧
      (locking on).bells.imageValid = true ∧ (locking on).signals = [] ∧ (locking on).bells.lockout.state = some on ∧
      ((locking on).debounced 6 (!on) true).bells.lockout.state = some !on ∧ (locking on).load.queue = [] ∧
      (locking on).demandLaw := by
  intro on
  cases on <;> refine ⟨?_, rfl, rfl, rfl, rfl, rfl, ?_⟩ <;> first
    | (unfold State.sameSensors; decide)
    | (unfold State.demandLaw; decide)

theorem witness_SensorScanDebounces_first :
    blind.bells.imageValid = false ∧ blind.signals = [] ∧ blind.load.queue = [] ∧ blind.swingState 0 = .unreported ∧
      (blind.bell 0).hammer = none ∧
      ∃ t, exec (.sensorScan 6 false true) blind = .next t ∧ t.bells.imageValid = true ∧ t.swingState 0 = .settling ∧
        t.swingState 1 = .idle :=
  ⟨rfl, rfl, rfl, rfl, rfl, _, rfl, by decide⟩

/-- The bytes of a SET-BELL of bell 1. -/
def bellBytes (c : BellConfig) : List Byte := wBell 0 ++ wBellConfig c

theorem witness_SetBellReplacesTheConfiguration :
    tower.accepts .s 0x30 (bellBytes config) ∧ readAll rSetBell (bellBytes config) = some (0, config) ∧
      tower.signals = [] ∧ (swings (timed .ringing) true).accepts .s 0x30 (bellBytes config) ∧
      (swings (timed .ringing) true).swingState 0 ≠ .idle ∧ tower.swingState 0 = .idle ∧ tower.pulsing 0 = false ∧
      (∀ e ∈ tower.engine.queue, e.bell ≠ 0) ∧ tower.accepts .s 0x30 (bellBytes .cold) ∧
      readAll rSetBell (bellBytes .cold) = some (0, .cold) ∧ (tower.config 0).hammer = true ∧
      tower.accepts .s 0x30 (wBell 23 ++ wBellConfig config) ∧
      readAll rSetBell (wBell 23 ++ wBellConfig config) = some (23, config) ∧ (tower.config 23).hammer = false :=
  ⟨accepts_of (by decide) (by decide), by decide, rfl, accepts_of (by decide) (by decide), by decide, by decide, by decide,
    by decide, accepts_of (by decide) (by decide), by decide, rfl, accepts_of (by decide) (by decide), by decide, rfl⟩

theorem witness_ParkTimerFaultsTheHammer :
    (let s := hammered .parking fun r => { r with timer := some 200000 }
     (s.bell 0).timer = some 200000 ∧ 200000 ≤ s.now ∧ (s.bell 0).hammer = some .parking) ∧
      tower.signals = [] ∧ (tower.bell 0).timer = none ∧
      (let s := conflicting.modBell 0 fun r => { r with timer := some 200000 }
       (s.bell 0).hammer = some .parking ∧ s.swingState 0 = .parking ∧ s.signals = []) := by decide

theorem witness_ClearFaultOfAHammer :
    (let s := hammered .fault id
     s.takes .s 0x34 [1, 0] = true ∧ s.holds .s .bells = true ∧ s.holds .v .bells = false ∧
      (s.bell 0).hammer = some .fault ∧ (s.bell 0).home.state = some true ∧ (s.bell 0).park.state ≠ some true ∧
      s.swingState 0 = .idle ∧ s.signals = []) ∧
    (let s := hammered .fault fun r => { r with park := known true }
     s.takes .s 0x34 [1, 0] = true ∧ (s.bell 0).home.state = some true ∧ (s.bell 0).park.state = some true) ∧
    tower.takes .s 0x34 [25, 0] = true ∧ (tower.bell 0).hammer ≠ some .fault := by decide

theorem witness_ClearFaultOfASwing :
    (let s := (swings (timed .fault) false).modBell 0 fun r => { r with rest := known true }
     s.takes .s 0x34 [1, 1] = true ∧ s.holds .s .swing = true ∧ s.swingState 0 = .fault ∧
      (s.bell 0).rest.state = some true ∧ s.signals = []) ∧
    (swings (timed .fault) false).swingState 0 = .fault ∧
    ((swings (timed .fault) false).bell 0).rest.state ≠ some true ∧ tower.swingState 0 ≠ .fault ∧
    (tower.modPort .v fun r => { r with rights := 0 }).holds .v .swing = false := by decide

theorem witness_RecordsReadBackAsWritten :
    BellConfig.cold.legal = true ∧ BellConfig.legal ⟨true, true, 255, 1023, ⟨[64, 64, 64, 64], rfl⟩, 1000, 1000, 60, 10, 120, 600, 10⟩ = true ∧
      (Date.mk 2999 12 31).inCalendar = true ∧ (1 ≤ 2 ∧ 29 ≤ longestMonth 2) ∧ Program.cold.slots.length ≤ 4 ∧
      128 ≤ Program.cold.hourInterval := by decide

/-- The tower with a claim on bell 1. -/
def claimed (k : ClaimKind) (expiry : Nat) : State := tower.setClaim 0 (some ⟨.v, k, some expiry, false⟩)

theorem witness_ClaimsAreAllOrNothing :
    (claimed .chime 300000).claim 0 = some ⟨.v, .chime, some 300000, false⟩ ∧ Port.v ≠ .s ∧
      (swings (timed .ringing) true).swingState 0 ≠ .idle ∧ tower.lockedOut = false ∧
      (tower.modBells fun t => { t with lockout := known true }).lockedOut = true ∧
      (claimed .chime 300000).accepts .s 0x38 [1, 0, 0, 0] ∧ readAll rClaim [1, 0, 0, 0] = some (1, .chime) ∧
      ((claimed .chime 300000).claimRefusal .s .chime 0).isSome = true ∧ (0 : Bell) ∈ bellsOf 1 ∧
      tower.accepts .v 0x38 [1, 0, 0x80, 1] ∧ readAll rClaim [1, 0, 0x80, 1] = some (0x800001, .rope) ∧
      (∀ b ∈ bellsOf 0x800001, tower.claimRefusal .v .rope b = none) ∧ tower.demandLaw :=
  ⟨rfl, by decide, by decide, by decide, by decide, accepts_of (by decide) (by decide), by decide, by decide, by decide,
    accepts_of (by decide) (by decide), by decide, by decide, by unfold State.demandLaw; decide⟩

theorem witness_ClaimsAreRenewedReleasedAndLapse :
    (claimed .rope 200000).accepts .v 0x39 [1, 0, 0] ∧ (claimed .rope 200000).accepts .v 0x3A [1, 0, 0] ∧
      readAll rBells [1, 0, 0] = some 1 ∧ (claimed .rope 200000).claim 0 = some ⟨.v, .rope, some 200000, false⟩ ∧
      200000 ≤ (claimed .rope 200000).now ∧ (claimed .rope 200001).now < 200001 ∧ tower.signals = [] :=
  ⟨accepts_of (by decide) (by decide), accepts_of (by decide) (by decide), by decide, rfl, by decide, by decide, rfl⟩

theorem witness_SetClaimHoldIsClamped :
    tower.takes .v 0x3B [61, 0] = true ∧ tower.holds .v .claim = true ∧
      (tower.modPort .v fun r => { r with rights := 0 }).holds .v .claim = false := by decide

/-! ### Strikes -/

/-- A strike of bell 1 with an onset. -/
def request (onset : Nat) (policy : Policy) (allowance : Nat) : StrikeRequest :=
  ⟨.single, some .s, 0, 2, onset, policy, allowance, none, 0⟩

/-- The tower whose bell 1 has a planning horizon. -/
def promised : State := tower.modBell 0 fun r => { r with horizon := some 200032 }

/-- An entry of bell 1. -/
def entry (fire : Nat) : QueueEntry := ⟨.single, some .s, 0, 2, none, 0, fire + 32, fire⟩

/-- The tower with entries in its queue. -/
def queued (l : List QueueEntry) : State := tower.modEngine fun g => { g with queue := l }

theorem witness_StrikesArePlanned :
    tower.availability none 1 = some .noHammer ∧ tower.availability (some .s) 0 = none ∧
      promised.horizon 0 = some 200032 ∧ 200032 + (promised.config 0).recovery - 200287 = 1 ∧
      (queued (List.replicate 48 (entry 300000))).engine.queue.length = 48 ∧
      (queued (List.replicate 48 (entry 300000))).availability (some .s) 0 = none ∧
      (queued (List.replicate 47 (entry 300000))).engine.queue.length < 48 ∧
      tower.now + (tower.config 0).lead ≤ (request 200032 .slip 64).onset ∧
      (request 200031 .slip 64).onset < tower.now + (tower.config 0).lead := by decide

/-- R65: the tower's bells answer yes and NO-HAMMER; a claim of port V answers CLAIMED to others and yes to V. -/
theorem witness_StrikesArePlanned_availability :
    (tower.bells.imageValid = true ∧ tower.swingState 0 ≠ .unreported ∧ (tower.bell 1).hammer = some .absent ∧
      tower.bells.lockout.state ≠ some true ∧ tower.swingState 0 = .idle ∧ (tower.bell 0).hammer = some .ready) ∧
    (tower.setClaim 0 (some ⟨.v, .chime, some 300000, false⟩)).availability (some .s) 0 = some .claimed ∧
    (tower.setClaim 0 (some ⟨.v, .chime, some 300000, false⟩)).availability (some .v) 0 = none ∧
    (hammered .fault id).availability none 0 = some .hammerFault ∧
    (hammered .parking id).availability none 0 = some .interlock ∧ State.reset.availability none 0 = some .interlock := by
  decide

/-- A pulse of another bell. -/
def otherPulse : BusySlot := ⟨1, .single, some .s, 2, 200032, 200100⟩

theorem witness_StrikesArePlanned_requests :
    tower.accepts .s 0x4C [2, 2, 0] ∧ readAll rStrike [2, 2, 0] = some (1, 2) ∧ tower.engine.queue = [] ∧
      tower.availability (some .s) 1 = some .noHammer ∧ tower.accepts .s 0x4C [1, 2, 0] ∧
      readAll rStrike [1, 2, 0] = some (0, 2) ∧ tower.horizon 0 = none ∧ tower.freeSlot = some 0 ∧
      tower.pulsing 0 = false ∧ (tower.bell 0).home.state = some true ∧
      (tower.modEngine fun g => { g with slots := .replicate 4 (some otherPulse) }).freeSlot = none ∧
      tower.accepts .s 0x40 [1, 2, 3, 4, 5, 7] ∧ readAll rPriorities [1, 2, 3, 4, 5, 7] = some ⟨1, 2, 3, 4, 5, 7⟩ :=
  ⟨accepts_of (by decide) (by decide), by decide, rfl, by decide, accepts_of (by decide) (by decide), by decide, by decide,
    by decide, by decide, by decide, by decide, accepts_of (by decide) (by decide), by decide⟩

theorem witness_GrantsDriveTheHammer :
    (queued [entry 200000]).engine.queue = [entry 200000] ∧ (queued [entry 200000]).eligible (entry 200000) = true ∧
      (queued [entry 199992]).eligible (entry 199992) = true ∧ (queued [entry 200000]).freeSlot = some 0 ∧
      (queued [entry 200000]).signals = [] ∧ (queued [entry 200000]).availability (some .s) 0 = none ∧
      ((queued [entry 200000]).bell 0).home.state = some true ∧
      (∀ e ∈ (queued [entry 200001]).engine.queue, (queued [entry 200001]).eligible e = false) ∧
      (let s := (queued [entry 200000]).modBells fun t => { t with lockout := known true }
       s.availability (some .s) 0 = some .interlock) ∧
      (((queued [entry 200000]).modBell 0 fun r => { r with home := known false }).bell 0).home.state ≠ some true := by
  decide

/-- 06, "five blows for four slots": at 1002 the fourth slot is free, and key 13's entry is preferred to every other. -/
theorem witness_GrantsDriveTheHammer_several :
    let s := (fiveBlows.modEngine fun g =>
      { g with slots := (Table.replicate 4 (some ⟨1, .single, some .s, 2, 1032, 1005⟩)).set 3 none })
    let e : QueueEntry := ⟨.clavier, some .c, 12, 2, none, 0, 1034, 1002⟩
    e ∈ s.engine.queue ∧ s.eligible e = true ∧ s.freeSlot = some 3 ∧ s.signals = [] ∧ 3 ≤ s.engine.queue.length ∧
      s.engine.queue.all (fun x => !s.eligible x || x == e || s.prefers e x) = true := by decide

/-- A pulse of bell 1 that ends now. -/
def pulse : BusySlot := ⟨0, .single, some .s, 2, 200020, 200000⟩

/-- The tower with that pulse in slot 1. -/
def struck : State := tower.modEngine fun g => { g with slots := g.slots.set 0 (some pulse) }

theorem witness_PulsesEndAndLateEntriesDrop :
    struck.engine.slots.get 0 = some pulse ∧ pulse.ends ≤ struck.now ∧ struck.driverLaw ∧ struck.signals = [] ∧
      struck.engine.queue = [] ∧
      (let s := (struck.modBell 0 fun r => { r with demands := { r.demands with lockout := true } })
       (s.bell 0).hammer = some .ready ∧ s.demanded 0 = true ∧ s.sensorConflict 0 = false ∧
        (s.bell 0).park.state ≠ some true) ∧
      (queued [entry 199991]).engine.queue.head? = some (entry 199991) ∧
      (entry 199991).fire + 9 ≤ (queued [entry 199991]).now ∧
      (∀ e ∈ (queued [entry 199992]).engine.queue, (queued [entry 199992]).now < e.fire + 9) := by
  refine ⟨rfl, by decide, ?_, rfl, rfl, by decide, rfl, by decide, by decide⟩
  intro j k x y hj hk hb
  have h : ∀ k : HammerSlot, k ≠ 0 → struck.engine.slots.get k = none := by decide
  by_cases j0 : j = 0
  · by_cases k0 : k = 0
    · exact j0.trans k0.symm
    · rw [h k k0] at hk; cases hk
  · rw [h j j0] at hj; cases hj

/-- The tower with an entry of bell 1 due and the bell's last onset recovered. -/
def due : State := (queued [entry 200000]).modBell 0 fun r => { r with lastOnset := some 199776 }

theorem witness_LawOfRecovery :
    ∃ t x, exec .entryDue due = .next t ∧ t.engine.slots.get 0 = some x ∧ due.engine.slots.get 0 ≠ some x ∧
      (due.bell x.bell).lastOnset = some 199776 :=
  ⟨_, ⟨0, .single, some .s, 2, 200032, 200012⟩, rfl, by decide, by decide, by decide⟩

theorem witness_LawOfTheHammerLine :
    due.configLaw ∧ due.driverLaw ∧
      ∃ t x, exec .entryDue due = .next t ∧ t.engine.slots.get 0 = some x ∧ due.engine.slots.get 0 ≠ some x := by
  refine ⟨by unfold State.configLaw; decide, ?_, _, ⟨0, .single, some .s, 2, 200032, 200012⟩, rfl, by decide, by decide⟩
  intro j k x y hj
  have h : ∀ k : HammerSlot, due.engine.slots.get k = none := by decide
  rw [h j] at hj; cases hj

theorem witness_LawOfTheStrikeQueue :
    (let s := { queued [entry 200000] with pending := [.entryDue] }
     s.strikeQueueLaw ∧ s.hammerLaw ∧ s.loadQueueLaw ∧ ∃ t, step s = .next t) :=
  ⟨by unfold State.strikeQueueLaw; decide, by unfold State.hammerLaw; decide, by unfold State.loadQueueLaw; decide, _, rfl⟩

theorem witness_LossesRaiseLoss :
    tower.engine.losses.read .late < 65535 ∧
      (tower.modEngine fun g => { g with losses := { g.losses with late := 65535 } }).engine.losses.read .late = 65535 ∧
      tower.takes .v 0x42 [0] = true := by decide

theorem witness_LossesRaiseLoss_commands :
    ∃ t, exec .lateDrop (queued [entry 199991]) = .next t ∧
      t.engine.losses.read .late ≠ (queued [entry 199991]).engine.losses.read .late := ⟨_, rfl, by decide⟩

/-! ### The chime players -/

/-- A tune of two notes on bell 1. -/
def tune : Tune := ⟨64, .slip, [⟨1, 0, 2⟩, ⟨1, 512, 2⟩]⟩

/-- A quarter run that plays it from a running count on. -/
def quarter (start : Nat) (started : Bool) : QuarterRun :=
  ⟨7, 0, start, 64, .slip, 64, 0, 0, .zero, started, 200000, none, start - 544⟩

/-- The tower with a quarter run, its buffer VALID or not. -/
def chiming (r : QuarterRun) (valid : Bool) : State := tower.modPlayers fun y =>
  { y with
    quarterRun := some r
    buffers := y.buffers.set 0 ⟨if valid then .valid else .failed, some 3, if valid then some tune else none, none, none⟩ }

theorem witness_NotesAreHandedOverInTurn :
    (∀ n ∈ [200544, 200545], (chiming (quarter n true) true).quarterNotes (quarter n true) = tune.notes) ∧
      tune.notes[(quarter 200544 true).next]? = some ⟨1, 0, 2⟩ ∧ bellOf? 1 = some 0 ∧
      (chiming (quarter 200544 true) true).players.quarterRun = some (quarter 200544 true) ∧
      (quarter 200544 true).handAt ≤ tower.now ∧ tower.now < (quarter 200545 true).handAt ∧
      tower.signals = [] ∧ (chiming (quarter 300000 false) false).bufferNotes 0 = none ∧
      (quarter 300000 false).testAt ≤ tower.now := by decide

/-- An hour strike of three blows on bell 1. -/
def hour (state : HourState) (testAt instant : Nat) : HourRun :=
  ⟨8, 3, instant, 3, 0, 640, 3, .slip, 64, .defer, 200544, 0, 0, state, false, some .interlock, testAt, 0, 0, 200000⟩

/-- The tower with an hour strike. -/
def striking (r : HourRun) : State := tower.modPlayers fun y => { y with hourRun := some r }

/-- A request player's run of the tune, playing or being fetched. -/
def playing (fetched : Bool) : RequestRun :=
  ⟨9, .v, 12, some 64, some .slip, 32, 200544, if fetched then some tune else none, 0, 0, .zero, 0, none, 200000⟩

/-- The tower with that run in a state. -/
def tuned (state : PlayerState) : State := tower.modPlayers fun y =>
  { y with request := ⟨state, some (playing (state != .fetching)), none⟩ }

theorem witness_NotesAreHandedOverInTurn_runs :
    (hour .planned 0 200544).state ≠ .deferred ∧ (hour .planned 0 200544).next + 1 < (hour .planned 0 200544).count ∧
      (hour .planned 0 200544).firstOpen = false ∧ (hour .planned 0 200544).handAt ≤ tower.now ∧
      (striking (hour .planned 0 200544)).players.hourRun = some (hour .planned 0 200544) ∧ tower.engine.queue = [] ∧
      { hour .striking 0 200544 with next := 1, firstOpen := true }.busy = .defer ∧
      (tuned .playing).players.request.run = some (playing true) ∧ (playing true).tune = some tune ∧
      tune.notes[(playing true).next]? = some ⟨1, 0, 2⟩ ∧ (playing true).handAt ≤ tower.now := by decide

/-- The note after the first is the next one of a bell; after the last there is none; a rest between two is passed over. -/
theorem witness_NotesAreHandedOverInTurn_next :
    nextNoteAt tune.notes 1 1 0 ∧ noNoteFrom tune.notes 2 ∧ nextNoteAt [⟨1, 0, 2⟩, ⟨0, 9, 1⟩, ⟨2, 9, 1⟩] 1 2 1 := by
  refine ⟨⟨by decide, by decide, fun j n h k => by omega⟩, fun j n h k => ?_, ⟨by decide, by decide, fun j n h k e => ?_⟩⟩
  · rw [List.getElem?_eq_none (by simpa [tune] using h)] at k
    cases k
  · obtain rfl : j = 1 := by omega
    cases e; decide

/-- The tower with its lock-out on, which drops every blow INTERLOCK. -/
def shutOff (r : HourRun) : State := (striking r).modBells fun t => { t with lockout := known true }

theorem witness_NotesAreHandedOverInTurn_drops :
    (∀ k ∈ [0, 1, 2], (shutOff { hour .striking 0 200544 with next := k }).planned
        { source := .hour, port := none, bell := 0, cls := 3, onset := 200544 + k * 640, policy := .slip, allowance := 64
          run := some 8, index := k } = .dropped .interlock) ∧
      (tower.modEngine fun g => { g with slots := .replicate 4 (some otherPulse) }).freeSlot = none ∧
      ((striking (hour .planned 0 200544)).planned
        { source := .hour, port := none, bell := 0, cls := 3, onset := 200544, policy := .slip, allowance := 64
          run := some 8, index := 0 }).isQueued = true := by decide

/-- R109: the first blow dropped INTERLOCK defers the strike, and the last one ends it. -/
theorem test_hour_drops :
    (match exec (.noteHandOver .hour) (shutOff (hour .planned 0 200544)) with
      | .next t => t.players.hourRun.map fun r => (r.state, r.testAt)
      | _ => none) = some (.deferred, 200256) ∧
    (match exec (.noteHandOver .hour) (shutOff { hour .striking 0 200544 with next := 2 }) with
      | .next t => t.players.lastHour
      | _ => none) = some ⟨3, 0, 1, none⟩ := by decide

theorem witness_NotesAreHandedOverInTurn_prepared :
    (quarter 200544 false).started = false ∧ (quarter 200544 false).testAt ≤ tower.now ∧
      ((chiming (quarter 200544 false) true).bufferNotes 0).isSome = true ∧
      nextNoteAt ((chiming (quarter 200544 false) true).quarterNotes (quarter 200544 false)) 0 0 0 :=
  ⟨rfl, by decide, by decide, by decide, by decide, fun j n h k => by omega⟩

/-- The tower with a prepared chime at its test and its buffer in a state without a tune. -/
def untuned (x : BufferState) : State :=
  (chiming (quarter 200544 false) false).modBuffer 0 fun b => { b with state := x }

/-- R106: at the test a FAILED buffer loses the chime FETCH, and one that has become EMPTY loses nothing. -/
theorem test_chime_not_held : [BufferState.failed, .empty].map (fun x => match exec (.noteHandOver .quarter) (untuned x) with
    | .next t => (t.engine.losses.fetch, t.players.quarterRun.isNone)
    | _ => (9, false)) = [(1, true), (0, true)] := by decide

theorem witness_NotesAreHandedOverInTurn_untuned :
    ∀ x ∈ [BufferState.failed, .empty], (untuned x).bufferNotes 0 = none ∧ (untuned x).signals = [] ∧
      ((untuned x).players.buffers.get 0).state = x ∧ (untuned x).players.quarterRun = some (quarter 200544 false) := by
  decide

/-- R103: with the first note handed over, the instant of the second is fixed: 200544 + 512 - 32 - 512. -/
theorem test_hand_over : (match exec (.noteHandOver .quarter) (chiming (quarter 200544 true) true) with
    | .next t => t.players.quarterRun.map fun r => (r.next, r.handAt)
    | _ => none) = some (1, 200512) := by decide

theorem witness_DeferredStrikesRestartOrExpire :
    (let s := striking (hour .deferred 200000 46400)
     s.players.hourRun = some (hour .deferred 200000 46400) ∧ (hour .deferred 200000 46400).testAt ≤ s.now ∧
      s.availability none 0 = none ∧ (hour .deferred 200000 46400).instant + 153600 ≤ s.now) ∧
    (let s := (striking (hour .deferred 200000 46401)).modBells fun t => { t with lockout := known true }
     s.availability none 0 = some .interlock ∧ s.now < (hour .deferred 200000 46401).instant + 153600 ∧ s.signals = []) ∧
    tower.now < (hour .deferred 200001 46401).testAt := by decide

theorem witness_DeferredStrikesRestartOrExpire_goes_on :
    1 < (hour .deferred 200000 46400).count ∧ tower.engine.queue = [] ∧
      (striking (hour .deferred 200000 46400)).planned
        { source := .hour, port := none, bell := 0, cls := 3, onset := 200032, policy := .slip, allowance := 64
          run := some 8, index := 0 } = .queued 200032 200000 0 0 := by decide

/-- R110: the restart fires now, and blow 1 follows one interval after. -/
theorem test_defer_restarts : (match exec .deferTest (striking (hour .deferred 200000 100000)) with
    | .next t => (t.players.hourRun.map fun r => (r.state, r.start, r.next, r.handAt), t.hammerLine 0)
    | _ => (none, false)) = (some (.striking, 200032, 1, 200128), true) := by decide

theorem witness_TunesAreStartedAndStopped :
    tower.accepts .s 0x48 [12, 1, 0, 0, 2, 64, 0, 1, 0, 0, 0] ∧
      readAll rTunePlay [12, 1, 0, 0, 2, 64, 0, 1, 0, 0, 0] = some ⟨12, none, none, 64, none⟩ ∧
      tower.players.request.state = .idle ∧ (tuned .playing).accepts .s 0x48 [12, 1, 0, 0, 2, 64, 0, 1, 0, 0, 0] ∧
      (tuned .playing).players.request.state ≠ .idle ∧
      State.reset.accepts .s 0x48 [63, 0, 255, 0, 1, 255, 0, 0, 23, 59, 59] ∧ State.reset.tk.timeValid = false ∧
      readAll rTunePlay [63, 0, 255, 0, 1, 255, 0, 0, 23, 59, 59] = some ⟨63, some 255, some .drop, 255, some 86399⟩ ∧
      tower.accepts .s 0x49 [] ∧ (tuned .fetching).accepts .s 0x49 [] ∧ (tuned .fetching).players.request.state = .fetching ∧
      (tuned .waiting).accepts .s 0x49 [] ∧ (tuned .waiting).players.request.run = some (playing true) :=
  ⟨accepts_of (by decide) (by decide), by decide, rfl, accepts_of (by decide) (by decide), by decide,
    accepts_of (by decide) (by decide), rfl, by decide, accepts_of (by decide) (by decide),
    accepts_of (by decide) (by decide), rfl, accepts_of (by decide) (by decide), rfl⟩

/-- A toll of one blow left. -/
def toll (next : Nat) (remaining : Option Nat) : TollRun := ⟨10, 0, 2560, 3, remaining, next, 4, 4, 0, 0⟩

/-- The tower while port S tolls. -/
def tolling (r : TollRun) : State := tower.modPlayers fun y => { y with tolls := y.tolls.set .s (some r) }

theorem witness_TollsKeepTheirBeat :
    tower.accepts .s 0x4A [1, 60, 0, 0, 0, 4, 0] ∧
      readAll rTollStart [1, 60, 0, 0, 0, 4, 0] = some ⟨0, 60, 0, 4⟩ ∧
      (tolling (toll 200000 (some 1))).players.tolls.get .s = some (toll 200000 (some 1)) ∧
      (toll 200000 (some 1)).next ≤ tower.now ∧ (toll 200000 (some 1)).remaining ≠ some 0 ∧
      tower.now < (toll 200001 none).next ∧ (tolling (toll 200001 none)).signals = [] :=
  ⟨accepts_of (by decide) (by decide), by decide, rfl, by decide, by decide, by decide, rfl⟩

theorem witness_TollStopEndsThePortsToll :
    (tolling (toll 200000 none)).takes .s 0x4B [] = true ∧ (tolling (toll 200000 none)).holds .s .strike = true ∧
      (tolling (toll 200000 none)).players.tolls.get .s = some (toll 200000 none) ∧
      tower.players.tolls.get .s = none ∧ (tower.modPort .v fun r => { r with rights := 0 }).holds .v .strike = false ∧
      tower.engine.losses.stopped ≤ 65535 := by decide

/-! ### The clavier -/

theorem witness_SetClavierWritesTheSettings :
    tower.accepts .s 0x50 [1, 3, 3] ∧ readAll rSetClavier [1, 3, 3] = some (.rollover, 3, none) ∧
      tower.holds .s .admin = true ∧ none ≠ tower.clavier.binding ∧ shut.locked .admin = true ∧
      tower.locked .admin = false ∧ tower.accepts .v 0x50 [0, 2, 1] ∧ tower.holds .v .admin = false ∧
      (let s := tower.modClavier fun c => { c with queue := [⟨25, false, 0, 0, 0, 0, true⟩] }
       s.accepts .s 0x50 [0, 2, 0] ∧ s.clavier.queue ≠ []) ∧ readAll rSetClavier [0, 2, 0] = some (.lockout, 2, some .v) :=
  ⟨accepts_of (by decide) (by decide), by decide, by decide, by decide, by decide, by decide,
    accepts_of (by decide) (by decide), by decide, ⟨accepts_of (by decide) (by decide), by decide⟩, by decide⟩

/-- Key `k` alone closes in a scan of the tower whose keys are open. -/
def closesAlone (s : State) (keys : BitVec 32) (k : Fin 32) : Bool :=
  let closes (k : Fin 32) : Bool :=
    becameTrue (s.clavier.keys.get k).state ((s.clavier.keys.get k).sample (keys.getLsbD k.val)).state
  closes k && (List.finRange 32).all fun j => j == k || !closes j

/-- The tower whose clavier's keys were read closed once. -/
def onceClosed : State := keyed

theorem witness_ClavierScanRegistersKeys :
    onceClosed.power = .on ∧ closesAlone onceClosed 1 0 = true ∧ closesAlone onceClosed 0x800000 23 = true ∧
      closesAlone onceClosed 0x1000000 24 = true ∧ closesAlone onceClosed 0x40000000 30 = true ∧
      closesAlone onceClosed 0x80000000 allStopKey = true ∧ onceClosed.clavier.arbiter = .free ∧
      onceClosed.clavier.queue.length < 8 ∧ onceClosed.clavier.binding = some .c ∧
      8 ≤ (onceClosed.modClavier fun c =>
        { c with queue := List.replicate 8 ⟨25, false, 0, 0, 0, 0, true⟩ }).clavier.queue.length ∧
      (tuned .playing).players.request.run ≠ none := by decide

theorem witness_ClavierScanRegistersKeys_strikes :
    let x : StrikeRequest :=
      { source := .clavier, port := some .c, bell := 0, cls := 2, onset := 200032, policy := .slip, allowance := 64
        run := none, index := 0 }
    let full := onceClosed.modEngine fun g => { g with slots := .replicate 4 (some otherPulse) }
    onceClosed.planned x = .queued 200032 200000 0 0 ∧ full.planned x = .queued 200032 200000 0 0 ∧ full.freeSlot = none ∧
      full.signals = [] ∧ onceClosed.planned { x with bell := 1 } = .dropped .noHammer ∧
      onceClosed.availability onceClosed.clavier.binding 0 = none ∧ onceClosed.horizon 0 = none ∧
      onceClosed.engine.queue = [] ∧ onceClosed.freeSlot = some 0 ∧ onceClosed.pulsing 0 = false ∧
      (onceClosed.bell 0).home.state = some true ∧ onceClosed.clavier.cls = 2 := by decide

theorem witness_ClavierScanRegistersKeys_lockout :
    let closed (s : State) (keys : BitVec 32) : List (Fin 32) := (List.finRange 32).filter fun k =>
      becameTrue (s.clavier.keys.get k).state ((s.clavier.keys.get k).sample (keys.getLsbD k.val)).state
    closed onceClosed 3 = [0, 1] ∧ onceClosed.clavier.mode = .lockout ∧ closed onceClosed 0x40000001 = [0, 30] ∧
      (onceClosed.modClavier fun c => { c with arbiter := .held 30 }).clavier.arbiter = .held 30 ∧
      (onceClosed.modClavier fun c => { c with arbiter := .contended [2] }).clavier.arbiter = .contended [2] ∧
      (onceClosed.modClavier fun c => { c with mode := .rollover }).clavier.mode = .rollover := by decide

theorem witness_ReadKeysEmptiesTheQueue : tower.takes .v 0x51 [] = true := by decide

/-! ### Swing ringing -/

theorem witness_SwingsAreStartedAndStopped :
    tower.signals = [] ∧ tower.accepts .s 0x58 [0, 0, 0x80, 1, 0, 0] ∧
      readAll rSwingStart [0, 0, 0x80, 1, 0, 0] = some (0x800000, none) ∧ bellsOf 0x800000 = [23] ∧
      (tower.startRefusal 23 (some .s)).isSome = true ∧ tower.accepts .s 0x58 [1, 0, 0, 0, 180, 0] ∧
      readAll rSwingStart [1, 0, 0, 0, 180, 0] = some (1, some 180) ∧ bellsOf 1 = [0] ∧
      tower.startRefusal 0 (some .s) = none ∧ (tower.bell 0).hammer = some .ready ∧ tower.demanded 0 = false ∧
      (tower.bell 0).park.state ≠ some true ∧ tower.pulsing 0 = false ∧ struck.pulsing 0 = true ∧
      struck.startRefusal 0 (some .s) = none :=
  ⟨rfl, accepts_of (by decide) (by decide), by decide, by decide, by decide, accepts_of (by decide) (by decide), by decide,
    by decide, by decide, rfl, by decide, by decide, by decide, by decide, by decide⟩

/-- The tower with bell 2 like bell 1 but for its hammer, which is UNPARKING; bells 3 to 24 have no motor. -/
def pair : State := tower.modBell 1 fun _ => { rested with hammer := some .unparking, home := known false }

theorem witness_SwingsAreStartedAndStopped_sets :
    pair.accepts .s 0x58 [7, 0, 0, 0, 15, 0] ∧ readAll rSwingStart [7, 0, 0, 0, 15, 0] = some (7, some 15) ∧
      (bellsOf 7).filter (fun b => (pair.startRefusal b (some .s)).isNone) = [0, 1] ∧
      (bellsOf 7).filterMap (fun b => (pair.startRefusal b (some .s)).map fun x => (b, x)) = [(2, .noMotor)] ∧
      (∀ b ∈ [(0 : Bell), 1], ((pair.bell b).hammer = some .ready ∨ (pair.bell b).hammer = some .unparking) ∧
        pair.demanded b = false ∧ (pair.bell b).park.state ≠ some true) ∧
      pair.accepts .s 0x58 [0, 0, 0, 0, 15, 0] ∧ readAll rSwingStart [0, 0, 0, 0, 15, 0] = some (0, some 15) ∧ bellsOf 0 = [] :=
  ⟨accepts_of (by decide) (by decide), by decide, by decide, by decide, by decide, accepts_of (by decide) (by decide),
    by decide, by decide⟩

/-- R134: bells 1 and 2 are started, and bell 3 is refused NO-MOTOR. -/
theorem test_swing_start_set : (match exec (.swingStart .s [7, 0, 0, 0, 15, 0]) pair with
    | .next t => ((t.bell 0).hammer, (t.bell 1).hammer, (t.port .s).response.map Response.payload)
    | _ => (none, none, none)) = (some .parking, some .parking, some [3, 0, 0, 1, 3, 0]) := by decide

theorem witness_SwingsAreStartedAndStopped_parked :
    (let s := hammered .parked fun r => { r with home := known false, park := known true }
     s.accepts .s 0x58 [1, 0, 0, 1, 0, 0] ∧ s.startRefusal 0 (some .s) = none ∧ (s.bell 0).hammer = some .parked ∧
      s.load.queue = [] ∧ s.swing.runs = [] ∧ s.neededLoad 0 ≤ s.free) ∧
    (let s := (hammered .parked fun r => { r with config := { config with startLoad := 101 } })
     s.free < s.neededLoad 0 ∧ ∀ c, s.sheddable c = 0) :=
  ⟨⟨accepts_of (by decide) (by decide), by decide, rfl, rfl, rfl, by decide⟩, by decide, by decide⟩

/-- R135: a hammer already PARKED ends PARKING at once, and the motor starts. -/
theorem test_swing_start_parked : (match exec (.swingStart .s [1, 0, 0, 1, 0, 0])
      (hammered .parked fun r => { r with home := known false, park := known true }) with
    | .next t => (t.swingState 0, t.motorLine 0)
    | _ => (.idle, false)) = (.starting, true) := by decide

theorem witness_SwingsAreStartedAndStopped_stop :
    tower.accepts .s 0x59 [1, 0, 0] ∧ readAll rBells [1, 0, 0] = some 1 ∧ tower.swingState 0 = .idle ∧
      (let s := swings (timed .ringing) true
       s.accepts .s 0x59 [1, 0, 0] ∧ s.signals = [] ∧ s.swingState 0 = .ringing ∧ s.load.queue = [] ∧
        (s.bell 0).rest.state ≠ some true) ∧
      (let s := (swings { timed .waitLoad with origin := some (.port .v) } false).modLoad fun l =>
         { l with queue := [⟨0, 10, some .v, 210000⟩] }
       s.accepts .s 0x59 [1, 0, 0] ∧ s.swingState 0 = .waitLoad ∧ (∀ e ∈ s.load.queue, e.bell = 0) ∧ s.swing.runs = []) :=
  ⟨accepts_of (by decide) (by decide), by decide, rfl,
    ⟨accepts_of (by decide) (by decide), rfl, rfl, rfl, by decide⟩,
    ⟨accepts_of (by decide) (by decide), rfl, by decide, rfl⟩⟩

theorem witness_SwingsAreStartedAndStopped_settles :
    let s := (swings (timed .ringing) true).modBell 0 fun r => { r with rest := known true }
    s.accepts .s 0x59 [3, 0, 0] ∧ readAll rBells [3, 0, 0] = some 3 ∧ s.signals = [] ∧
      (bellsOf 3).filter (fun b => s.swingState b == .starting || s.swingState b == .ringing) = [0] ∧
      (s.bell 0).rest.state = some true ∧ s.quiet 0 = true ∧ s.load.queue = [] ∧ s.swing.runs = [] :=
  ⟨accepts_of (by decide) (by decide), by decide, rfl, by decide, by decide, by decide, rfl, rfl⟩

theorem witness_SwingTimersMoveTheBell :
    (∀ x ∈ [SwingState.starting, .ringing, .stopping, .settling],
      let s := swings { timed x with edges := 2, lastPulse := some 198977, durationEnd := some 200000 } true
      s.signals = [] ∧ s.load.queue = [] ∧ s.swing.runs = [] ∧ (s.bell 0).demands.swing = true ∧
        (s.swingRec 0).state = x ∧ (s.swingRec 0).timer = some 200000 ∧ 200000 ≤ s.now ∧
        (s.swingRec 0).durationEnd = some 200000 ∧ 200000 < 198977 + (s.config 0).pulseTimeout * 256 ∧
        198976 + (s.config 0).pulseTimeout * 256 ≤ 200000 ∧ 198977 + 512 ≤ s.now ∧
        ((s.modBell 0 fun r => { r with rest := known true }).bell 0).rest.state = some true) ∧
    (tower.swingRec 0).state = .idle := by decide

/-- A slot run of bells 1 and 2. -/
def ringing : SlotRun :=
  ⟨5, ⟨2000, 1, 1⟩, 1, 3, 15, 190000, 200000, [0, 1], none, some 200000, [], []⟩

/-- The tower with a slot run. -/
def slotted (r : SlotRun) : State := tower.modSwing fun w => { w with runs := [r] }

theorem witness_SlotRunsAndLoadWaitsEnd :
    (slotted ringing).signals = [] ∧ (slotted ringing).swing.runs = [ringing] ∧ ringing.nextAt = some 200000 ∧
      200000 ≤ (slotted ringing).now ∧ ringing.remaining = [0, 1] ∧ (slotted ringing).startRefusal 0 none = none ∧
      ((slotted ringing).bell 0).hammer = some .ready ∧ (slotted ringing).demanded 0 = false ∧
      ((slotted ringing).bell 0).park.state ≠ some true ∧
      (slotted { ringing with remaining := [1] }).startRefusal 1 none = some .noMotor ∧
      ringing.ends ≤ (slotted ringing).now ∧ (slotted ringing).load.queue = [] ∧
      (slotted { ringing with nextAt := some 200001, ends := 200001 }).now < 200001 := by decide

theorem witness_SlotRunsAndLoadWaitsEnd_bells :
    (let s := (swings { timed .ringing with origin := some (.slotRun 5) } true).modSwing fun w => { w with runs := [ringing] }
     (s.swingRec 0).origin = some (.slotRun ringing.id) ∧ s.swingState 0 = .ringing ∧
      (s.swingRec 1).origin ≠ some (.slotRun ringing.id)) ∧
    (let s := (swings (timed .waitLoad) false).modLoad fun l => { l with queue := [⟨0, 10, none, 200000⟩] }
     s.load.queue = [⟨0, 10, none, 200000⟩] ∧ 200000 ≤ s.now ∧ s.swing.runs = [] ∧ s.signals = []) ∧
    (∀ e ∈ tower.load.queue, e.bell = 0 → tower.now < e.expiry) := by decide

theorem witness_LawOfTheSwingMotor :
    (let s := { swings { timed .starting with edges := 2, lastPulse := some 199000 } true with pending := [.startEnd 1] }
     s.motorLaw ∧ s.demandLaw ∧ s.motorLine 0 = true ∧ ∃ t, step s = .next t) :=
  ⟨by unfold State.motorLaw; decide, by unfold State.demandLaw; decide, rfl, _, rfl⟩

/-! ### The tower load and the floodlights -/

/-- The feeder of the example with bell 1 in WAIT-LOAD for 60 units, at the head of the queue. -/
def waiting : State :=
  ((feeder.modSwingRec 0 fun _ => { timed .waitLoad with origin := some (.port .s) }).modBell 0 fun r =>
    { r with
      config := { config with startLoad := 60 }, hammer := some .parked
      demands := { Demands.empty with swing := true } }).modLoad fun l =>
    { l with capacity := 440, queue := [⟨0, 60, some .s, 200000⟩] }

theorem witness_LawOfTheTowerLoad :
    (let s := { waiting with pending := [.loadWaitExpiry 1] }
     s.loadLaw ∧ s.ranksLaw ∧ s.loadQueueLaw ∧ ∃ t, step s = .next t) :=
  ⟨by unfold State.loadLaw; decide, by unfold State.ranksLaw; decide, by unfold State.loadQueueLaw; decide, _, rfl⟩

theorem witness_LightAndStartsShareTheLoad :
    feeder.loadLaw ∧ feeder.ranksLaw ∧ (allCircuits.map feeder.sheddable).sum = 359 ∧ 160 ≤ feeder.free ∧
      feeder.free < 161 ∧ 519 ≤ feeder.free + 359 ∧ feeder.free + 359 < 520 ∧ feeder.signals = [] ∧
      feeder.accepts .s 0x60 (le 1 1 ++ wCircuitConfig ⟨400, 8, 0, 255⟩) ∧
      readAll rSetCircuit (le 1 1 ++ wCircuitConfig ⟨400, 8, 0, 255⟩) = some (0, ⟨400, 8, 0, 255⟩) ∧
      feeder.committed - feeder.reservation 0 + consumption 400 (max 255 255) ≤ feeder.load.capacity ∧
      waiting.load.capacity < waiting.committed - waiting.reservation 0 + consumption 400 (max 255 255) :=
  ⟨by unfold State.loadLaw; decide, by unfold State.ranksLaw; decide, by decide, by decide, by decide, by decide, by decide, rfl,
    accepts_of (by decide) (by decide), by decide, by decide, by decide⟩

theorem witness_LightAndStartsShareTheLoad_set_load :
    waiting.accepts .s 0x64 [0xF4, 1, 40, 0, 10, 0] ∧ readAll rSetLoad [0xF4, 1, 40, 0, 10, 0] = some (500, 40, 10) ∧
      40 + waiting.reservations + waiting.swingLoads = 440 ∧ 60 ≤ 500 - 440 ∧ waiting.free < 500 - 440 ∧
      waiting.load.queue = [⟨0, 60, some .s, 200000⟩] ∧ waiting.swing.runs = [] ∧ waiting.swingState 0 = .waitLoad ∧
      (waiting.bell 0).hammer = some .parked ∧ (waiting.bell 0).demands.swing = true ∧
      readAll rSetLoad [0xB7, 1, 40, 0, 10, 0] = some (439, 40, 10) :=
  ⟨accepts_of (by decide) (by decide), by decide, by decide, by decide, by decide, rfl, rfl, rfl, rfl, rfl, by decide⟩

/-- A circuit that ramps from a current to a granted level. -/
def ramping (current granted : Nat) : State := tower.modCircuit 0 fun r =>
  { r with current := current, granted := granted, wanted := granted, ramp := some ⟨current, 10, 200000⟩ }

theorem witness_LightAndStartsShareTheLoad_ramps :
    (∀ s ∈ [ramping 0 100, ramping 100 95], (s.circuit 0).ramp.any (fun x => decide (x.next ≤ s.now)) = true ∧
      s.signals = [] ∧ s.load.queue = [] ∧ (s.circuit 0).shed = false ∧ (s.circuit 0).wanted ≤ (s.circuit 0).granted) ∧
    ((ramping 0 100).circuit 0).current < ((ramping 0 100).circuit 0).granted ∧ (tower.circuit 0).ramp = none := by decide

/-- A start that waits for `need` units, with circuit 1 about to move down from a current level that its reservation holds. -/
def sinking (need : Nat) : State := (waiting.modCircuit 0 fun r =>
  { r with current := 255, granted := 0, wanted := 0, ramp := some ⟨255, 200, 200000⟩ }).modLoad fun l =>
    { l with queue := [⟨0, need, some .s, 200000⟩] }

/-- A shed circuit of weight 100 that moves down towards its floor, with no start waiting. -/
def shedding : State := (tower.modCircuit 0 fun r =>
  { r with config := ⟨100, 1, 0, 0⟩, current := 200, granted := 0, wanted := 150, shed := true
           ramp := some ⟨255, 50, 200000⟩ })

theorem witness_LightAndStartsShareTheLoad_falls :
    (∀ s ∈ [sinking 60, sinking 900, shedding],
      let u := s.modCircuit 0 CircuitRec.move
      s.signals = [] ∧ (s.circuit 0).ramp.any (fun x => decide (x.next ≤ s.now)) = true ∧
        u.reservation 0 < s.reservation 0) ∧
    (let u := (sinking 60).modCircuit 0 CircuitRec.move
     60 ≤ u.free + (allCircuits.map u.sheddable).sum ∧ (sinking 60).swing.runs = [] ∧ (sinking 60).swingState 0 = .waitLoad ∧
       ((sinking 60).bell 0).hammer = some .parked ∧ ((sinking 60).bell 0).demands.swing = true) ∧
    (let u := (sinking 900).modCircuit 0 CircuitRec.move
     u.free + (allCircuits.map u.sheddable).sum < 900) ∧
    shedding.loadLaw ∧ shedding.ranksLaw ∧ shedding.load.queue = [] ∧
    (∀ d, d ≠ 0 → (shedding.circuit d).shed = false ∧ (shedding.circuit d).wanted ≤ (shedding.circuit d).granted) :=
  ⟨by decide, by decide, by decide, by unfold State.loadLaw; decide, by unfold State.ranksLaw; decide, rfl, by decide⟩

/-- R167: the move admits the start that waits; the shed circuit is granted again, and goes up to what fits. -/
theorem test_ramp_falls :
    (match exec (.rampMove 1) (sinking 60) with
      | .next t => (t.swingState 0, t.load.queue.length)
      | _ => (.idle, 9)) = (.starting, 0) ∧
    (match exec (.rampMove 1) shedding with
      | .next t => ((t.circuit 0).shed, (t.circuit 0).granted)
      | _ => (true, 0)) = (false, 150) := by decide

/-- R167: a SET-LOAD that raises C by 10 and K by 10 restores a shed circuit that fits. -/
theorem test_set_load_raises_both : (match exec (.setLoad .s [110, 0, 10, 0, 10, 0]) (tower.modCircuit 0 fun r =>
      { r with config := ⟨50, 1, 0, 0⟩, wanted := 255, shed := true }) with
    | .next t => ((t.circuit 0).shed, (t.circuit 0).granted)
    | _ => (true, 0)) = (false, 255) := by decide

/-- A plan of one step. -/
def plan : List PlanStep := [⟨.sunset (-15), 3, 255, 10⟩]

/-- The bytes of the whole SET-PLAN of plan 0. -/
def planBytes : List Byte := le 1 0 ++ wList wStep plan

/-- The bytes of the whole SET-SOLAR of the cold table. -/
def solarBytes : List Byte := (Lights.cold.solar.rows.map fun x => le 2 x.sunrise ++ le 2 x.sunset).flatten

/-- The tower with the first half of the solar table held on port S. -/
def halfSolar : State := tower.modPort .s fun r => { r with parts := some ⟨0x63, 2, [solarBytes.take 48]⟩ }

theorem witness_LightRequestsSetTheLevels :
    tower.signals = [] ∧ tower.accepts .s 0x61 (1 :: 1 :: planBytes) ∧
      (tower.port .s).parts.any (fun x => x.code == 0x61) = false ∧
      readAll rSetPlan ([] ++ [planBytes]).flatten = some (0, plan) ∧ tower.lights.plan ≠ some 0 ∧
      (tower.modLights fun g => { g with plan := some 0 }).lights.plan = some 0 ∧ tower.dayHeld = true ∧
      halfSolar.accepts .s 0x63 (2 :: 2 :: solarBytes.drop 48) ∧
      (halfSolar.port .s).parts = some ⟨0x63, 2, [solarBytes.take 48]⟩ ∧
      readAll rSetSolar ([solarBytes.take 48] ++ [solarBytes.drop 48]).flatten = some Lights.cold.solar :=
  ⟨rfl, accepts_of (by decide) (by decide), by decide, by decide, by decide, rfl, by decide,
    accepts_of (by decide) (by decide), rfl, by decide⟩

theorem witness_LightRequestsSetTheLevels_levels :
    tower.accepts .s 0x62 [1, 0, 255, 0, 88, 2, 1, 0, 0] ∧
      readAll rSetLevel [1, 0, 255, 0, 88, 2, 1, 0, 0] = some ⟨1, some 255, 600, none⟩ ∧ circuitsOf 1 = [0] ∧
      tower.signals = [] ∧ tower.load.queue = [] ∧ (tower.circuit 0).wanted ≠ 255 ∧ (tower.circuit 0).granted ≠ 255 ∧
      (tower.circuit 0).shed = false ∧
      consumption (tower.circuit 0).config.weight 255 ≤ tower.free + tower.reservation 0 ∧
      tower.accepts .s 0x62 [0x80, 1, 0, 0, 0, 0, 0, 0x9F, 5] ∧
      readAll rSetLevel [0x80, 1, 0, 0, 0, 0, 0, 0x9F, 5] = some ⟨0x80, none, 0, some 1439⟩ :=
  ⟨accepts_of (by decide) (by decide), by decide, by decide, rfl, rfl, by decide, by decide, rfl, by decide,
    accepts_of (by decide) (by decide), by decide⟩

/-! ### The tune store -/

/-- A staging buffer of port S for two notes. -/
def staging (notes : List (Option Note)) (abandon : Option Nat) : Staging := ⟨.s, 64, .slip, notes, abandon⟩

/-- The tower with a staging buffer and an operation under way. -/
def staged (y : Staging) (executing : Option (StoreOp × Bool)) : State :=
  tower.modStore fun z => { z with staging := some y, executing := executing }

/-- The tower's flash with the tune in slot 5. -/
def stocked (executing : Option (StoreOp × Bool)) : State :=
  tower.modStore fun z => { z with flash := slotProgram [] 5 (tuneImage tune), executing := executing }

theorem witness_TunesAreStagedCommittedAndRead :
    tower.accepts .s 0x70 [128, 16, 1] ∧ readAll rTuneBegin [128, 16, 1] = some (128, 16, .drop) ∧
      tower.store.staging = none ∧ (staged (staging [none, none] none) none).accepts .s 0x70 [128, 16, 1] ∧
      (staging [none, none] none).abandon = none ∧ tower.accepts .s 0x71 [0, 1, 1, 0, 0] ∧ tower.accepts .s 0x72 [63] ∧
      readAll (rFin 1 64) [63] = some 63 ∧ tower.accepts .s 0x73 [63] ∧
      (staged (staging [none, none] (some 200000)) none).accepts .s 0x71 [1, 1, 1, 128, 0x42] ∧
      readAll rTuneWrite [1, 1, 1, 128, 0x42] = some (1, [⟨1, 513, 3⟩]) ∧ 1 + 1 ≤ [(none : Option Note), none].length ∧
      [(none : Option Note), none].length < 2 + 1 ∧ readAll rTuneWrite [2, 1, 1, 128, 0x42] = some (2, [⟨1, 513, 3⟩]) ∧
      (staged (staging [none, none] (some 200000)) none).accepts .s 0x72 [0] ∧
      none ∉ [some (Note.mk 1 0 2)] ∧ none ∈ [(none : Option Note), none] :=
  ⟨accepts_of (by decide) (by decide), by decide, rfl, accepts_of (by decide) (by decide), rfl,
    accepts_of (by decide) (by decide), accepts_of (by decide) (by decide), by decide, accepts_of (by decide) (by decide),
    accepts_of (by decide) (by decide), by decide, by decide, by decide, by decide, accepts_of (by decide) (by decide),
    by decide, by decide⟩

theorem witness_TunesAreStagedCommittedAndRead_ends :
    (stocked (some (.info .v 5, false))).store.queue = [] ∧
      (stocked (some (.info .v 5, false))).store.directory.get 5 ≠ .underCommit ∧
      slotContent (stocked none).store.flash 5 = .tune tune ∧ slotContent (stocked none).store.flash 6 = .empty ∧
      slotContent [(0, 0)] 0 = .bad ∧
      (let s := (stocked (some (.clockFetch 1 5, false))).modPlayers fun y => { y with clockFetch := some (1, false) }
       s.store.executing = some (.clockFetch 1 5, false) ∧ s.players.clockFetch = some (1, false)) ∧
      (let s := staged (staging [some ⟨1, 0, 2⟩] none) (some (.commit .s 7, false))
       s.store.executing = some (.commit .s 7, false) ∧ s.store.staging = some (staging [some ⟨1, 0, 2⟩] none)) ∧
      padSlot [] ≠ padSlot (tuneImage ⟨64, .slip, [⟨1, 0, 2⟩]⟩) ∧
      (let s := staged (staging [none] (some 200000)) none
       s.store.staging.any (fun y => y.abandon.any fun n => decide (n ≤ s.now)) = true) ∧
      (let s := staged (staging [none] (some 200001)) none
       s.store.staging.all (fun y => y.abandon.all fun n => decide (s.now < n)) = true) := by decide

/-- The tower whose request player fetches slot 5, with its tempo and policy left DEFAULT. -/
def fetching (stop : Option EndCause) (marked : Bool) : State :=
  (stocked (some (.playFetch 5, marked))).modPlayers fun y =>
    { y with request :=
      ⟨.fetching, some { playing false with tempo := none, policy := none, start := 200000, stopPending := stop }, none⟩ }

theorem witness_TunesAreStagedCommittedAndRead_play :
    (fetching none false).store.queue = [] ∧ (fetching none false).store.executing = some (.playFetch 5, false) ∧
      (fetching none false).store.directory.get 5 ≠ .underCommit ∧ slotContent (fetching none false).store.flash 5 = .tune tune ∧
      (fetching none false).players.request.run.map RequestRun.queued = some 0 ∧
      (fetching (some .allStop) false).players.request.run.map RequestRun.stopPending = some (some .allStop) ∧
      (fetching none true).store.executing = some (.playFetch 5, true) ∧
      bellOf? ((tune.notes.head?.map Note.bell).getD 0) = some 0 := by decide

theorem witness_TunesAreStagedCommittedAndRead_next : nextNoteAt tune.notes 0 0 0 :=
  ⟨by decide, by decide, fun j n h k => by omega⟩

/-- R112: the header's tempo 64 and policy are taken, with 64 ticks, and the start comes 256 ticks after the completion. -/
theorem test_play_fetched :
    (match exec (.storeOpEnd 0) (fetching none false) with
      | .next t => t.players.request.run.map fun r => (r.maxSlip, r.start, r.handAt)
      | _ => none) = some (64, 200256, 199712) ∧
    (match exec (.storeOpEnd 0) (fetching none false) with
      | .next t => (t.port .v).completion.map Completion.payload
      | _ => none) = some [2, 64, 0, 0, 0, 2, 0, 0, 1, 0, 0] := by decide

/-- R179: two failed reads of an empty slot leave it EMPTY and NOT-SET; the third makes it FAULTY with STORE-FAULT. -/
theorem test_third_failure : [2, 3].map (fun n => match exec (.storeOpEnd n) (stocked (some (.info .v 9, false))) with
    | .next t => ((t.port .v).completion.map Completion.status, t.store.directory.get 9)
    | _ => (none, .unknown)) = [(some .notSet, .empty), (some .storeFault, .faulty)] := by decide

theorem witness_StoredTunesReadBack :
    flashWf [] = true ∧ tune.legal = true ∧ Tune.legal ⟨255, .drop, List.replicate 128 ⟨255, 1023, 4⟩⟩ = true := by decide

/-! ### The laws of every table -/

theorem witness_EveryStepKeepsTheTables :
    (let s := { stocked none with pending := [.tickEnd] }
     (∃ t, step s = .next t) ∧ s.flashLaw ∧ s.boundsLaw ∧ s.timeLaw ∧ s.linkLaw ∧ s.configLaw ∧ s.dialLaw) := by
  refine ⟨⟨_, rfl⟩, by unfold State.flashLaw; decide, ?_, by unfold State.timeLaw; decide, ?_, by unfold State.configLaw; decide,
    by unfold State.dialLaw; decide⟩
  · exact ⟨by decide, by decide, by decide, by decide, by decide, by decide, by decide, by decide,
      fun r => by cases r <;> decide⟩
  · exact ⟨fun p => by cases p <;> decide, .s, by decide⟩

end Sys2Proof.Tests
end

section
/-! PROOFS. The arithmetic of dates (R2): consecutive dates, and the counters one tick later (O14). -/

namespace Sys2Proof.Machine

/-! ## The arithmetic of dates -/

theorem daysBefore_succ (y : Nat) {m : Nat} (h : 1 ≤ m) : daysBefore y (m + 1) = daysBefore y m + daysInMonth y m := by
  obtain ⟨k, rfl⟩ : ∃ k, m = k + 1 := ⟨m - 1, by omega⟩
  simp [daysBefore, List.range_succ]

/-- The days of a year: those before its last month, and that month's 31. -/
theorem daysBefore_december (y : Nat) : daysBefore y 12 + 31 = if isLeap y then 366 else 365 := by
  have e : daysBefore y 12 = 31 + (daysInMonth y 2 + 275) := rfl
  rw [e, show daysInMonth y 2 = if isLeap y then 29 else 28 from rfl]
  split <;> rfl

/-- A leap year takes one day more in the count of the years before its successor. -/
theorem leapDays_succ (x : Nat) :
    (if isLeap (x + 1) then 366 else 365) + (365 * x + x / 4 - x / 100 + x / 400) =
      365 * (x + 1) + (x + 1) / 4 - (x + 1) / 100 + (x + 1) / 400 := by
  have leap : isLeap (x + 1) = true ↔ (4 ∣ x + 1 ∧ ¬100 ∣ x + 1) ∨ 400 ∣ x + 1 := by simp [isLeap, Nat.dvd_iff_mod_eq_zero]
  have h4 : 100 ∣ x + 1 → 4 ∣ x + 1 := fun h => Dvd.dvd.trans (by decide) h
  have h100 : 400 ∣ x + 1 → 100 ∣ x + 1 := fun h => Dvd.dvd.trans (by decide) h
  have more : x / 100 ≤ x / 4 := Nat.div_le_div_left (by decide) (by decide)
  simp only [leap, Nat.succ_div]
  by_cases d4 : 4 ∣ x + 1 <;> by_cases d100 : 100 ∣ x + 1 <;> by_cases d400 : 400 ∣ x + 1 <;>
    simp only [d4, d100, d400, true_and, false_and, not_true, not_false_iff, or_true, or_false, if_true, if_false] at h4 h100 ⊢ <;>
    omega

theorem Date.inCalendar_iff (d : Date) :
    d.inCalendar = true ↔ 1 ≤ d.month ∧ d.month ≤ 12 ∧ 1 ≤ d.day ∧ d.day ≤ daysInMonth d.year d.month := by
  simp [Date.inCalendar, and_assoc]

theorem one_le_daysInMonth (y m : Nat) : 28 ≤ daysInMonth y m := by
  unfold daysInMonth
  repeat' split
  all_goals omega

/-- The day after a date of the calendar: the next of the month, the first of the next month or the first of the next year. -/
theorem Date.next_cases {d : Date} (h : d.inCalendar = true) :
    (d.day < daysInMonth d.year d.month ∧ d.next = { d with day := d.day + 1 }) ∨
    (d.day = daysInMonth d.year d.month ∧ d.month < 12 ∧ d.next = { year := d.year, month := d.month + 1, day := 1 }) ∨
    (d.day = 31 ∧ d.month = 12 ∧ d.next = { year := d.year + 1, month := 1, day := 1 }) := by
  obtain ⟨_, hm, _, hd⟩ := (Date.inCalendar_iff d).mp h
  by_cases last : d.day < daysInMonth d.year d.month
  · exact .inl ⟨last, by simp [Date.next, last]⟩
  · by_cases december : d.month < 12
    · exact .inr (.inl ⟨by omega, december, by simp [Date.next, last, december]⟩)
    · have m : d.month = 12 := by omega
      have e : daysInMonth d.year d.month = 31 := by rw [m]; rfl
      exact .inr (.inr ⟨by omega, m, by simp [Date.next, last, december]⟩)

theorem Date.next_inCalendar {d : Date} (h : d.inCalendar = true) : d.next.inCalendar = true := by
  obtain ⟨hm, hm', hd, hd'⟩ := (Date.inCalendar_iff d).mp h
  have long := one_le_daysInMonth
  rw [Date.inCalendar_iff]
  rcases Date.next_cases h with ⟨lt, e⟩ | ⟨_, lt, e⟩ | ⟨_, _, e⟩ <;> rw [e] <;> dsimp only
  · omega
  · have := long d.year (d.month + 1)
    omega
  · have := long (d.year + 1) 1
    omega

/-- Consecutive dates have consecutive numbers. -/
theorem Date.number_next {d : Date} (h : d.inCalendar = true) (hy : 1 ≤ d.year) : d.next.number = d.number + 1 := by
  obtain ⟨hm, -, -, -⟩ := (Date.inCalendar_iff d).mp h
  rcases Date.next_cases h with ⟨_, e⟩ | ⟨last, lt, e⟩ | ⟨last, dec, e⟩ <;> rw [e] <;>
    simp only [Date.number, Date.ordinal]
  · omega
  · rw [daysBefore_succ _ hm]
    omega
  · have year := leapDays_succ (d.year - 1)
    rw [Nat.sub_add_cancel hy] at year
    have days := daysBefore_december d.year
    have first : daysBefore (d.year + 1) 1 = 0 := rfl
    rw [dec, last, first, Nat.add_sub_cancel]
    omega

/-- The weekday after a weekday. -/
theorem Date.weekday_next {d : Date} (h : d.inCalendar = true) (hy : 1 ≤ d.year) :
    d.next.weekday = (d.weekday + 1) % 7 := by
  simp only [Date.weekday, Date.number_next h hy]
  omega

/-! ## The advance of the counters -/

/-- What the counters may hold, field by field. -/
theorem Counters.legal_iff (c : Counters) :
    c.legal = true ↔ c.date.inCalendar = true ∧ 1900 ≤ c.date.year ∧ c.date.year ≤ 2999 ∧ c.year ≤ 99 ∧ c.hour ≤ 23 ∧
      c.minute ≤ 59 ∧ c.second ≤ 59 ∧ c.tick ≤ 255 := by
  simp [Counters.legal, and_assoc]

/-- The date counters take any date of a full year. -/
@[simp] theorem Counters.date_withDate (c : Counters) (d : Date) : (c.withDate d).date = d := by
  simp only [Counters.withDate, Counters.date, Nat.div_add_mod']

/-- The last date that the counters may hold is followed by none of theirs. -/
theorem Date.next_year_le {d : Date} (h : d.inCalendar = true) (hy : d.year ≤ 2999)
    (last : d ≠ ⟨2999, 12, 31⟩) : d.next.year ≤ 2999 := by
  rcases Date.next_cases h with ⟨_, e⟩ | ⟨_, _, e⟩ | ⟨day, month, e⟩ <;> rw [e] <;> dsimp only
  · exact hy
  · exact hy
  · have : d.year ≠ 2999 := fun year => last (by cases d; simp_all)
    omega

theorem Date.le_next_year (d : Date) : d.year ≤ d.next.year := by
  unfold Date.next
  repeat' split
  all_goals simp

/-- At the end of the last day the counters are at their last instant. -/
theorem Counters.eq_final {c : Counters} (h : c.legal = true) (hd : c.date = ⟨2999, 12, 31⟩) (hh : ¬c.hour < 23)
    (hm : ¬c.minute < 59) (hs : ¬c.second < 59) (ht : ¬c.tick < 255) : c = .final := by
  obtain ⟨-, -, -, hy, hour, minute, second, tick⟩ := (Counters.legal_iff c).mp h
  obtain ⟨century, year, month, day, _, _, _, _⟩ := c
  simp only [Counters.date, Date.mk.injEq, Counters.final, Counters.mk.injEq] at *
  omega

/-- One advance is one tick later, and stays in the calendar. -/
theorem Counters.advance_spec {c : Counters} (h : c.legal = true) (running : c ≠ .final) :
    c.advance.legal = true ∧ c.advance.ticks = c.ticks + 1 := by
  obtain ⟨cal, low, high, year, hour, minute, second, tick⟩ := (Counters.legal_iff c).mp h
  by_cases ht : c.tick < 255
  · rw [show c.advance = { c with tick := c.tick + 1 } by simp [Counters.advance, ht], Counters.legal_iff]
    exact ⟨⟨cal, low, high, year, hour, minute, second, ht⟩, by simp only [Counters.ticks, Counters.date]; omega⟩
  by_cases hs : c.second < 59
  · rw [show c.advance = { c with tick := 0, second := c.second + 1 } by simp [Counters.advance, ht, hs], Counters.legal_iff]
    refine ⟨⟨cal, low, high, year, hour, minute, hs, by simp⟩, ?_⟩
    simp only [Counters.ticks, Counters.date, Config.second]
    omega
  by_cases hm : c.minute < 59
  · rw [show c.advance = { c with tick := 0, second := 0, minute := c.minute + 1 } by simp [Counters.advance, ht, hs, hm],
      Counters.legal_iff]
    refine ⟨⟨cal, low, high, year, hour, hm, by simp, by simp⟩, ?_⟩
    simp only [Counters.ticks, Counters.date, Config.second]
    omega
  by_cases hh : c.hour < 23
  · rw [show c.advance = { c with tick := 0, second := 0, minute := 0, hour := c.hour + 1 } by
      simp [Counters.advance, ht, hs, hm, hh], Counters.legal_iff]
    refine ⟨⟨cal, low, high, year, hh, by simp, by simp, by simp⟩, ?_⟩
    simp only [Counters.ticks, Counters.date, Config.second]
    omega
  · have last : c.date ≠ ⟨2999, 12, 31⟩ := fun hd => running (Counters.eq_final h hd hh hm hs ht)
    rw [show c.advance = { c with tick := 0, second := 0, minute := 0, hour := 0 }.withDate c.date.next by
      simp [Counters.advance, ht, hs, hm, hh], Counters.legal_iff, Counters.date_withDate]
    refine ⟨⟨Date.next_inCalendar cal, low.trans (Date.le_next_year _), Date.next_year_le cal high last, ?_, by simp [Counters.withDate],
      by simp [Counters.withDate], by simp [Counters.withDate], by simp [Counters.withDate]⟩, ?_⟩
    · simp only [Counters.withDate]
      omega
    · have number := Date.number_next cal (by omega)
      rw [Counters.ticks, Counters.date_withDate, number]
      simp only [Counters.ticks, Counters.withDate, Config.second]
      omega

/-- Settles O14: the carry of each counter in turn, and the calendar's arithmetic where the last carries into the date. -/
theorem countersAdvanceByOneTick : Obligations.CountersAdvanceByOneTick :=
  ⟨fun _ h running => Counters.advance_spec h running,
    fun _ h hy => ⟨Date.next_inCalendar h, Date.number_next h hy, Date.weekday_next h hy⟩⟩

end Sys2Proof.Machine
end

section
/-! PROOFS. Tick ends without a boundary (O13), the read of the time (O19) and the laws at the first cold start (O3). -/

namespace Sys2Proof.Machine

/-! ## Counting -/

/-- The counters one tick later are at a second's start only where the tick counter carries. -/
theorem Counters.advance_tick {c : Counters} (h : c.tick < 255) : c.advance = { c with tick := c.tick + 1 } := by
  simp [Counters.advance, h]

namespace State

/-- A tick end that reaches no second, or comes while the part does not work, only counts. -/
theorem tick_of_no_boundary {s : State} (h : s.power ≠ .on ∨ s.count.tk.counters.tick ≠ 0 ∨ s.tk.counters = .final) :
    s.tick = s.count := by
  have p : s.count.power = s.power := rfl
  have n : ¬(s.count.power = .on ∧ s.count.tk.counters.tick = 0 ∧ ¬s.tk.counters.stopped) := by
    rintro ⟨on, zero, running⟩
    rcases h with h | h | h
    · exact h (p ▸ on)
    · exact h zero
    · exact running (by simp [Counters.stopped, h])
  simp only [tick, n, if_false]

/-- A tick of counters that have not stopped. -/
theorem count_of_running {s : State} (h : s.tk.counters ≠ .final) :
    s.count = s.modTk fun k =>
      { k with
        counters := k.counters.advance
        slew := if k.counters.advance = .final then 0
                else if 0 < k.slew then k.slew - 1 else if k.slew < 0 then k.slew + 1 else 0
        runCount := if s.power = .on then (k.runCount + 1) % 2 ^ 48 else k.runCount } := by
  simp [count, modTk, Counters.stopped, h, slewStep]

/-- A tick of counters that have stopped. -/
theorem count_of_final {s : State} (h : s.tk.counters = .final) :
    s.count = s.modTk fun k =>
      { k with slew := 0, runCount := if s.power = .on then (k.runCount + 1) % 2 ^ 48 else k.runCount } := by
  simp [count, modTk, Counters.stopped, h]

end State

/-- Settles O13: without a boundary a tick end is the count alone, and no signal is left to deliver. -/
theorem tickBetweenBoundariesOnlyCounts : Obligations.TickBetweenBoundariesOnlyCounts := by
  intro s quiet
  have run (h : s.power ≠ .on ∨ s.count.tk.counters.tick ≠ 0 ∨ s.tk.counters = .final) :
      exec .tickEnd s = .next s.count := by
    change Host.Outcome.next s.tick.settle = _
    rw [State.tick_of_no_boundary h, State.settle_of_quiet (s := s.count) quiet]
  refine ⟨fun running h => ?_, fun stopped => ?_⟩
  · rw [run, State.count_of_running running]
    rcases h with low | off
    · refine .inr (.inl ?_)
      rw [State.count_of_running running]
      simp [Counters.advance_tick low]
    · exact .inl off
  · rw [run (.inr (.inr stopped)), State.count_of_final stopped]

/-- Settles O19: the read needs no right, and its data is read off the timekeeper at one instant. -/
theorem getTimeAnswersTheTowerTime : Obligations.GetTimeAnswersTheTowerTime := by
  intro p s h
  have row : s.check p 0x11 [0] = none := rfl
  exact congrArg Host.Outcome.next (State.read_accepted ⟨h, row⟩ rfl rfl)

/-- Settles O3: the values of the first cold start are closed terms, on which each law is evaluated. -/
theorem resetMeetsEveryLaw : Obligations.ResetMeetsEveryLaw := by
  have free (k : HammerSlot) : State.reset.engine.slots.get k = none := Table.get_replicate _ _ _
  refine ⟨?bounds, by unfold State.flashLaw; decide, by unfold State.timeLaw; decide, ?queue,
    by unfold State.hammerLaw; decide, ?driver, by unfold State.motorLaw; decide, by unfold State.demandLaw; decide,
    by unfold State.loadQueueLaw; decide, by unfold State.loadLaw; decide, by unfold State.ranksLaw; decide,
    by unfold State.dialLaw; decide, ?link, by unfold State.configLaw; decide⟩
  case bounds =>
    exact ⟨by decide, by decide, by decide, by decide, by decide, by decide, by decide, by decide,
      fun r => by cases r <;> decide⟩
  case queue => exact ⟨by decide, by decide, fun e he => absurd he List.not_mem_nil⟩
  case driver =>
    intro j k x y hx
    rw [free] at hx
    cases hx
  case link => exact ⟨fun p => by cases p <;> decide, .s, by decide⟩

end Sys2Proof.Machine
end

section
/-! PROOFS. The stages of a cold start, each on the cleared state (O10). -/

namespace Sys2Proof.Machine

theorem Table.set_get (t : Table n α) (i : Fin n) : t.set i (t.get i) = t := by
  apply Table.ext_get
  intro j
  rw [Table.get_set]
  split <;> simp_all

namespace State

/-- What a change leaves alone: setting a record to what it is. -/
theorem modDial_of_fixed {s : State} {n : Train} {f : Dial → Dial} (h : f (s.dial n) = s.dial n) : s.modDial n f = s := by
  have e : s.dials.modify n f = s.dials := by
    rw [Table.modify, show f (s.dials.get n) = s.dials.get n from h, Table.set_get]
  unfold modDial modDials
  simp only [e]

theorem evaluateDials_of_idle {s : State} (h : ∀ n, (s.dial n).mode ≠ .running) : s.evaluateDials = s := by
  refine List.foldl_fixed' (fun n => ?_) _
  have e : s.modDial n (fun d => d.evaluate s.localTime s.tk.timeValid s.now) = s :=
    modDial_of_fixed (by simp [Dial.evaluate, h n])
  simp [evaluateDial, changeDial, e]

/-- A buffer that is EMPTY already stays as it is when its slot becomes NONE. -/
theorem assignBufferWhenFree_none {s : State} {q : Quarter} (hb : s.players.buffers.get q = .empty)
    (hf : s.players.clockFetch = none) (hr : s.players.quarterRun = none) : s.assignBufferWhenFree q none = s := by
  have e : s.players.buffers.modify q (fun _ => .empty) = s.players.buffers := by
    rw [Table.modify, ← hb, Table.set_get]
  have u : s.bufferInUse q = false := by simp [bufferInUse, hr]
  simp only [assignBufferWhenFree, u, assignBuffer, emptyBuffer, modBuffer, modPlayers, hf, Option.map_none, e]
  rw [← hf]
  rfl

theorem requestFetch_of_unwanted {s : State} (h : ∀ q, (s.players.buffers.get q).state ≠ .wanted) :
    s.requestFetch = s := by
  have e : (quartersFrom s.localTime).find? (fun q => (s.players.buffers.get q).state == .wanted) = none :=
    List.find?_eq_none.mpr fun q _ => by simpa using h q
  unfold requestFetch
  rw [e]
  split <;> rfl

/-- A program without tunes is handed over to a clock player with nothing in it: it becomes the program in force, no more. -/
theorem chimeHandOver_of_empty {s : State} {p : Program} (hp : ∀ q, p.tunes.get q = none)
    (hy : s.players = { Players.atStart with program := s.players.program }) (date : Bool) :
    s.chimeHandOver p date = s.modPlayers fun _ => { Players.atStart with program := some p } := by
  have e : (s.modPlayers fun y => { y with program := some p }) =
      s.modPlayers fun _ => { Players.atStart with program := some p } := by
    unfold modPlayers
    rw [hy]
  have b (q : Quarter) : Players.atStart.buffers.get q = .empty := Table.get_replicate _ _ _
  have fold (t : State) (ht : t.players = { Players.atStart with program := some p }) :
      (List.finRange 4).foldl (fun s q =>
        if date || (s.players.buffers.get q).target != p.tunes.get q then s.assignBufferWhenFree q (p.tunes.get q)
        else s) t = t :=
    List.foldl_fixed' (fun q => by
      rw [hp, assignBufferWhenFree_none (by rw [ht]; exact b q) (by rw [ht]; rfl) (by rw [ht]; rfl), ite_self]) _
  unfold chimeHandOver
  simp only [e]
  rw [fold _ rfl, requestFetch_of_unwanted (fun q => by simp only [modPlayers_players, b]; decide)]
  rfl

/-- A program hand-over reaches a swing controller that holds no minute. -/
theorem swingHandOver_of_none_held {s : State} (h : s.swing.held = []) (d : Date) (slots : List RingSlot) :
    s.swingHandOver d slots = s.modSwing fun w => { w with day := some (d, slots) } := by
  simp [swingHandOver, h, modSwing]

/-- A level that is wanted already is not granted again. -/
theorem rewant_of_wanted {s : State} {c : Circuit} (h : s.wantedLevel c = (s.circuit c).wanted) (time : Nat) (quiet : Bool) :
    s.rewant c time quiet = s := by simp [rewant, h]

theorem rewantAll_of_wanted {s : State} (h : ∀ c, s.wantedLevel c = (s.circuit c).wanted) (time : Circuit → Nat)
    (quiet : Bool) : s.rewantAll time quiet = s := List.foldl_fixed' (fun c => rewant_of_wanted (h c) _ _) _

/-- At a start no source gives a circuit of fallback 0 a level. -/
theorem wantedLevel_atStart {s : State} {c : Circuit} (h : s.circuit c = .atStart .cold) :
    s.wantedLevel c = (s.circuit c).wanted := by
  simp [wantedLevel, h, CircuitRec.atStart, CircuitConfig.cold]

/-- With no plan in force and every level wanted already, today's timeline is empty and no level is granted. -/
theorem buildTimeline_of_no_plan {s : State} (hp : s.lights.plan = none) (hd : s.dayHeld = true)
    (h : ∀ c, s.wantedLevel c = (s.circuit c).wanted) (quiet : Bool) :
    s.buildTimeline quiet =
      s.modLights fun g => { g with timelineDate := some s.localTime.date, timeline := [] } := by
  have e : s.timelineOf s.localTime.date = [] := by simp [timelineOf, planSteps, hp]
  have p : (if s.lights.valid then ([] : List TimelineStep).filter fun x => x.minute ≤ s.localTime.minuteOfDay else []) = [] := by
    split <;> rfl
  simp only [buildTimeline, hd, if_true, e, p, List.map_nil]
  exact rewantAll_of_wanted (s := s.modLights fun g =>
    { g with timelineDate := some s.localTime.date, timeline := [] }) h _ _

theorem takeHeldMinutes_of_none {s : State} (h : s.lights.held = []) :
    s.takeHeldMinutes = s.modLights fun g => { g with held := [] } := by
  simp [takeHeldMinutes, h, modLights]

/-- At a start no LIGHT is raised where the fallback applies (R169). -/
@[simp] theorem fallbackNotice_quiet (s : State) (before : Bool) : s.fallbackNotice before true = s := by
  simp [fallbackNotice]

/-! ## A cold start -/

/-- The state that a cold start makes before its stages: every block at its start values, over what the flash holds, with
CLAIM and MAINS raised. -/
def coldBase (pending : List Instr) (flash : List Host.Cell) (cuts : Nat) : State :=
  { State.reset with
    pending := pending
    cal := { Calendar.cold with day := none }
    players := .atStart
    swing := .atStart
    lights := { Lights.cold with handDate := none, dateSeen := none, timelineDate := none }
    store := .atStart flash cuts }

/-- Clearing the retained store touches neither the flash nor what a cut commit makes of it. -/
theorem clearRetained_cutCommit (s : State) :
    s.clearRetained.cutCommit = { s.clearRetained with store := s.cutCommit.store } := by
  unfold cutCommit clearRetained modStore
  dsimp only
  split <;> rfl

/-- A notice raised on all ports adds its bit to every port's set. -/
theorem raiseAll_eq (k : NoticeKind) (s : State) : s.raiseAll k = s.modLink fun l =>
    { l with ports := l.ports.map fun r => { r with notices := r.notices ||| k.bit } } := rfl

/-- The ports of a cold start, once CLAIM and MAINS have been raised. -/
theorem cold_notices :
    (((Link.cold.ports.map fun r => PortRec.atStart r.rights r.mask).map
      fun r => { r with notices := r.notices ||| NoticeKind.claim.bit }).map
      fun r => { r with notices := r.notices ||| NoticeKind.mains.bit }) = Link.cold.ports := by decide

/-- What a cold start clears and drops, before its notices. -/
theorem clearRetained_dropVolatile (s : State) :
    { s.clearRetained.dropVolatile with power := .on } =
      { coldBase s.pending s.cutCommit.store.flash s.cutCommit.store.cuts with
        link := { Link.cold with ports := Link.cold.ports.map fun r => .atStart r.rights r.mask } } := by
  unfold dropVolatile
  rw [clearRetained_cutCommit]
  rfl

/-- CLAIM and MAINS are raised, and no dial is found with its mark set. -/
theorem cold_notices_raised (pending : List Instr) (flash : List Host.Cell) (cuts : Nat) :
    (({ coldBase pending flash cuts with
        link := { Link.cold with ports := Link.cold.ports.map fun r => .atStart r.rights r.mask } }.raiseAll
      .claim).raiseAll .mains).markUncertain = coldBase pending flash cuts :=
  congrArg (fun x => { coldBase pending flash cuts with link := { ports := x, locks := 0 } }) cold_notices

/-- The stages of a cold start: no quarter is recorded, no hour-ahead given, and the first date change is taken. -/
theorem startStages_coldBase (pending : List Instr) (flash : List Host.Cell) (cuts : Nat) :
    (coldBase pending flash cuts).startStages =
      { State.reset with pending := pending, store := .atStart flash cuts } := by
  have day : Calendar.choose { Calendar.cold with day := none } Date.cold = (0, none) := by decide
  have tunes (q : Quarter) : Program.cold.tunes.get q = none := Table.get_replicate _ _ _
  have stages : (coldBase pending flash cuts).startStages =
    ((coldBase pending flash cuts).dateChange true).evaluateDials := rfl
  have change : (coldBase pending flash cuts).dateChange true =
      ((coldBase pending flash cuts).modCal fun _ => Calendar.cold).handOver (some false) true := by
    have e : (coldBase pending flash cuts).cal.choose (coldBase pending flash cuts).localTime.date = (0, none) := day
    simp only [dateChange, e]
    rfl
  have hand : ((coldBase pending flash cuts).modCal fun _ => Calendar.cold).handOver (some false) true =
      { State.reset with pending := pending, store := .atStart flash cuts } := by
    simp only [handOver, modCal_cal, Calendar.cold, Table.get_replicate]
    rw [chimeHandOver_of_empty tunes rfl, swingHandOver_of_none_held rfl]
    simp only [lightHandOver]
    rw [buildTimeline_of_no_plan]
    · rw [fallbackNotice_quiet, takeHeldMinutes_of_none rfl]
      rfl
    · rfl
    · change (some Date.cold == some Date.cold && some Date.cold == some Date.cold) = true
      decide
    · refine fun c => wantedLevel_atStart ?_
      exact Table.get_replicate 8 _ c
  rw [stages, change, hand]
  refine evaluateDials_of_idle fun n => ?_
  change ((Table.replicate 4 Dial.cold).get n).mode ≠ .running
  rw [Table.get_replicate]
  decide

theorem coldStarts_eq (s : State) : s.coldStarts =
    { State.reset with pending := s.pending, store := .atStart s.cutCommit.store.flash s.cutCommit.store.cuts } := by
  have h := congrArg markUncertain (congrArg (fun t : State => (t.raiseAll .claim).raiseAll .mains)
    (clearRetained_dropVolatile s))
  simp only [cold_notices_raised] at h
  simp only [coldStarts, start, if_true]
  rw [h, startStages_coldBase, settle_of_quiet rfl]

end State

/-- Settles O10: a cold start is a start from cleared blocks, and its stages lead to the state after the first power-up. -/
theorem coldStartClearsEverything : Obligations.ColdStartClearsEverything := fun s =>
  congrArg Host.Outcome.next s.coldStarts_eq

end Sys2Proof.Machine
end

section
/-! PROOFS. What every shared operation keeps of the part's tables: the relation `Keeps` from a state to a later one, block by
block, and that the changes of one block stay within it. -/

namespace Sys2Proof.Machine

/-! ## The relation, block by block -/

/-- A port's record but for its pending notices. -/
def PortRec.withoutNotices (r : PortRec) : PortRec := { r with notices := 0 }

/-- The links keep everything but the notices, of which none is lost. -/
structure Link.Keeps (a b : Link) : Prop where
  ports : ∀ p, (b.ports.get p).withoutNotices = (a.ports.get p).withoutNotices
  notices : ∀ k p, (a.ports.get p).notices &&& NoticeKind.bit k ≠ 0 → (b.ports.get p).notices &&& NoticeKind.bit k ≠ 0
  locks : b.locks = a.locks

/-- The bell table keeps the configurations. -/
structure BellTable.Keeps (a b : BellTable) : Prop where
  config : ∀ i, (b.bells.get i).config = (a.bells.get i).config
  image : b.imageValid = a.imageValid

/-- The strike engine keeps its priorities, and its queue and counters within their bounds (R85, R97). -/
structure Engine.Keeps (a b : Engine) : Prop where
  priorities : b.priorities = a.priorities
  queue : a.queue.length ≤ 48 → b.queue.length ≤ 48
  losses : (∀ r, a.losses.read r ≤ 65535) → ∀ r, b.losses.read r ≤ 65535

/-- The clavier keeps its settings, and its function-key queue and its count within their bounds (R126, R128). -/
structure Clavier.Keeps (a b : Clavier) : Prop where
  mode : b.mode = a.mode
  cls : b.cls = a.cls
  binding : b.binding = a.binding
  queue : a.queue.length ≤ 8 → b.queue.length ≤ 8
  overruns : a.overruns ≤ 65535 → b.overruns ≤ 65535

/-- The swing controller keeps its runs and its history within their bounds (R146, R149). -/
structure Swing.Keeps (a b : Swing) : Prop where
  runs : a.runs.length ≤ 8 → b.runs.length ≤ 8
  history : a.history.length ≤ 4 → b.history.length ≤ 4

/-- The lighting controller keeps its configurations, plans and solar table (R169). -/
structure Lights.Keeps (a b : Lights) : Prop where
  config : ∀ c, (b.circuits.get c).config = (a.circuits.get c).config
  plans : b.plans = a.plans
  solar : b.solar = a.solar

/-- The load controller keeps its settings, and its queue within its bound (R152, R166). -/
structure Load.Keeps (a b : Load) : Prop where
  capacity : b.capacity = a.capacity
  reserve : b.reserve = a.reserve
  wait : b.wait = a.wait
  queue : a.queue.length ≤ 8 → b.queue.length ≤ 8

/-- The calendar keeps its tables (R32). -/
structure Calendar.Keeps (a b : Calendar) : Prop where
  yearRefs : b.yearRefs = a.yearRefs
  entries : b.entries = a.entries
  programs : b.programs = a.programs

/-- The store keeps the flash and the staging buffer. -/
structure Store.Keeps (a b : Store) : Prop where
  flash : b.flash = a.flash
  staging : b.staging = a.staging

/-- The guard stays, or goes to a later quarter instant (R12). -/
def guardAdvances (a b : Option QuarterInstant) : Prop :=
  b = a ∨ ∃ q, b = some q ∧ ∀ g, a = some g → g.number < q.number

/-- The timekeeper keeps a legal time and a valid flag, its guard never goes back, and its count stays within its bound. -/
structure Timekeeper.Keeps (a b : Timekeeper) : Prop where
  guard : guardAdvances a.guard b.guard
  missed : a.missedCount ≤ 65535 → b.missedCount ≤ 65535
  valid : a.timeValid = true → b.timeValid = true
  law : a.counters.legal = true ∧ a.runCount < 2 ^ 48 ∧ -65536 ≤ a.slew ∧ a.slew ≤ 65536 →
    b.counters.legal = true ∧ b.runCount < 2 ^ 48 ∧ -65536 ≤ b.slew ∧ b.slew ≤ 65536

/-- `t` is a state that the shared operations may make of `s`: each block keeps its tables, and the dials their law. -/
structure State.Keeps (s t : State) : Prop where
  tk : s.tk.Keeps t.tk
  cal : s.cal.Keeps t.cal
  dials : s.dialLaw → t.dialLaw
  bells : s.bells.Keeps t.bells
  hold : t.claims.hold = s.claims.hold
  engine : s.engine.Keeps t.engine
  clavier : s.clavier.Keeps t.clavier
  swing : s.swing.Keeps t.swing
  lights : s.lights.Keeps t.lights
  load : s.load.Keeps t.load
  link : s.link.Keeps t.link
  store : s.store.Keeps t.store

/-! ## A preorder -/

theorem Link.Keeps.refl (a : Link) : a.Keeps a := ⟨fun _ => rfl, fun _ _ h => h, rfl⟩
theorem BellTable.Keeps.refl (a : BellTable) : a.Keeps a := ⟨fun _ => rfl, rfl⟩
theorem Engine.Keeps.refl (a : Engine) : a.Keeps a := ⟨rfl, id, id⟩
theorem Clavier.Keeps.refl (a : Clavier) : a.Keeps a := ⟨rfl, rfl, rfl, id, id⟩
theorem Swing.Keeps.refl (a : Swing) : a.Keeps a := ⟨id, id⟩
theorem Lights.Keeps.refl (a : Lights) : a.Keeps a := ⟨fun _ => rfl, rfl, rfl⟩
theorem Load.Keeps.refl (a : Load) : a.Keeps a := ⟨rfl, rfl, rfl, id⟩
theorem Calendar.Keeps.refl (a : Calendar) : a.Keeps a := ⟨rfl, rfl, rfl⟩
theorem Store.Keeps.refl (a : Store) : a.Keeps a := ⟨rfl, rfl⟩
theorem guardAdvances.refl (a : Option QuarterInstant) : guardAdvances a a := .inl rfl
theorem Timekeeper.Keeps.refl (a : Timekeeper) : a.Keeps a := ⟨.refl _, id, id, id⟩

theorem guardAdvances.trans {a b c : Option QuarterInstant} (h : guardAdvances a b) (g : guardAdvances b c) :
    guardAdvances a c := by
  rcases h with rfl | ⟨q, rfl, hq⟩
  · exact g
  · rcases g with rfl | ⟨r, rfl, hr⟩
    · exact .inr ⟨q, rfl, hq⟩
    · exact .inr ⟨r, rfl, fun x hx => (hq x hx).trans (hr q rfl)⟩

theorem Link.Keeps.trans {a b c : Link} (h : a.Keeps b) (g : b.Keeps c) : a.Keeps c :=
  ⟨fun p => (g.ports p).trans (h.ports p), fun k p n => g.notices k p (h.notices k p n), g.locks.trans h.locks⟩

/-! ## Notices and dial records -/

/-- A notice that stands pending is not lost where another is added. -/
theorem notices_or_ne_zero {a k : BitVec 14} (b : BitVec 14) (h : a &&& k ≠ 0) : (a ||| b) &&& k ≠ 0 := by
  rw [BitVec.and_or_distrib_right]
  exact fun z => h (BitVec.or_eq_zero_iff.mp z).1

/-- What a legal record of a dial train is, clause by clause. -/
theorem Dial.legal_iff (d : Dial) (v : Bool) :
    d.legal v = true ↔ d.position < 1440 ∧ d.hold ≤ 720 ∧ (d.fitted = true ∨ d.mode = .unset) ∧
      (d.mode = .unset ↔ d.state = .unset) ∧ (d.mode = .stopped ↔ d.state = .stopped) ∧
      (d.impulse.isSome = true → d.inFlight = true) ∧
      (d.demanded = true → d.mode = .running ∧ v = true ∧ ∃ n, d.lag = some n ∧ 1 ≤ n ∧ n + d.hold < 1440) ∧
      (d.catchUpDue = true → d.state = .catching) := by
  have imp (b : Bool) (p : Prop) : (b = true → p) ↔ (b = false ∨ p) := by cases b <;> simp
  simp only [imp]
  simp [Dial.legal, and_assoc, Option.any_eq_true]

/-- A record stays legal where the time becomes valid. -/
theorem Dial.legal_mono {d : Dial} {v w : Bool} (h : v = true → w = true) (legal : d.legal v = true) :
    d.legal w = true := by
  rw [Dial.legal_iff] at legal ⊢
  obtain ⟨position, hold, fitted, unset, stopped, mark, demand, due⟩ := legal
  exact ⟨position, hold, fitted, unset, stopped, mark, fun x => ⟨(demand x).1, h (demand x).2.1, (demand x).2.2⟩, due⟩

namespace State.Keeps

variable {s t u : State}

theorem refl (s : State) : s.Keeps s :=
  ⟨.refl _, .refl _, id, .refl _, rfl, .refl _, .refl _, .refl _, .refl _, .refl _, .refl _, .refl _⟩

theorem trans (h : s.Keeps t) (g : t.Keeps u) : s.Keeps u where
  tk := ⟨h.tk.guard.trans g.tk.guard, fun x => g.tk.missed (h.tk.missed x), fun x => g.tk.valid (h.tk.valid x),
    fun x => g.tk.law (h.tk.law x)⟩
  cal := ⟨g.cal.yearRefs.trans h.cal.yearRefs, g.cal.entries.trans h.cal.entries, g.cal.programs.trans h.cal.programs⟩
  dials := fun x => g.dials (h.dials x)
  bells := ⟨fun b => (g.bells.config b).trans (h.bells.config b), g.bells.image.trans h.bells.image⟩
  hold := g.hold.trans h.hold
  engine := ⟨g.engine.priorities.trans h.engine.priorities, fun x => g.engine.queue (h.engine.queue x),
    fun x => g.engine.losses (h.engine.losses x)⟩
  clavier := ⟨g.clavier.mode.trans h.clavier.mode, g.clavier.cls.trans h.clavier.cls,
    g.clavier.binding.trans h.clavier.binding, fun x => g.clavier.queue (h.clavier.queue x),
    fun x => g.clavier.overruns (h.clavier.overruns x)⟩
  swing := ⟨fun x => g.swing.runs (h.swing.runs x), fun x => g.swing.history (h.swing.history x)⟩
  lights := ⟨fun c => (g.lights.config c).trans (h.lights.config c), g.lights.plans.trans h.lights.plans,
    g.lights.solar.trans h.lights.solar⟩
  load := ⟨g.load.capacity.trans h.load.capacity, g.load.reserve.trans h.load.reserve, g.load.wait.trans h.load.wait,
    fun x => g.load.queue (h.load.queue x)⟩
  link := h.link.trans g.link
  store := ⟨g.store.flash.trans h.store.flash, g.store.staging.trans h.store.staging⟩

theorem ite {c : Prop} [Decidable c] (h : s.Keeps t) (g : s.Keeps u) : s.Keeps (if c then t else u) := by
  split <;> assumption

theorem foldl {f : State → α → State} (h : s.Keeps t) (hf : ∀ u a, s.Keeps u → s.Keeps (f u a)) (as : List α) :
    s.Keeps (as.foldl f t) := by
  induction as generalizing t with
  | nil => exact h
  | cons a as ih => exact ih (hf t a h)

/-! ## The changes of one block -/

theorem modTk (h : s.Keeps t) {f : Timekeeper → Timekeeper} (hf : t.tk.Keeps (f t.tk)) : s.Keeps (t.modTk f) :=
  h.trans { refl t with
    tk := hf
    dials := fun law n => Dial.legal_mono hf.valid (law n) }

theorem modCal (h : s.Keeps t) {f : Calendar → Calendar}
    (hf : t.cal.Keeps (f t.cal) := by exact ⟨rfl, rfl, rfl⟩) : s.Keeps (t.modCal f) :=
  h.trans { refl t with cal := hf }

theorem modDial (h : s.Keeps t) (n : Train) {f : Dial → Dial}
    (hf : (t.dial n).legal t.tk.timeValid = true → (f (t.dial n)).legal t.tk.timeValid = true) : s.Keeps (t.modDial n f) :=
  h.trans { refl t with
    dials := fun law m => by
      rw [dial_modDial]
      split
      · exact hf (law n)
      · exact law m }

theorem modBell (h : s.Keeps t) (b : Bell) {f : BellRec → BellRec}
    (hf : ∀ r, (f r).config = r.config := by exact fun _ => rfl) :
    s.Keeps (t.modBell b f) :=
  h.trans { refl t with
    bells := ⟨fun c => by
      change ((t.modBell b f).bell c).config = (t.bell c).config
      rw [bell_modBell]
      split <;> simp_all, rfl⟩ }

theorem setClaim (h : s.Keeps t) (b : Bell) (c : Option Claim) : s.Keeps (t.setClaim b c) :=
  h.trans { refl t with hold := rfl }

theorem modEngine (h : s.Keeps t) {f : Engine → Engine} (hf : t.engine.Keeps (f t.engine)) : s.Keeps (t.modEngine f) :=
  h.trans { refl t with engine := hf }

theorem modPlayers (h : s.Keeps t) (f : Players → Players) : s.Keeps (t.modPlayers f) :=
  h.trans { refl t with hold := rfl }

theorem modBuffer (h : s.Keeps t) (q : Quarter) (f : Buffer → Buffer) : s.Keeps (t.modBuffer q f) := h.modPlayers _

theorem modClavier (h : s.Keeps t) {f : Clavier → Clavier}
    (hf : t.clavier.Keeps (f t.clavier) := by exact ⟨rfl, rfl, rfl, id, id⟩) :
    s.Keeps (t.modClavier f) := h.trans { refl t with clavier := hf }

theorem modSwing (h : s.Keeps t) {f : Swing → Swing}
    (hf : t.swing.Keeps (f t.swing) := by exact ⟨id, id⟩) : s.Keeps (t.modSwing f) :=
  h.trans { refl t with swing := hf }

theorem modSwingRec (h : s.Keeps t) (b : Bell) (f : SwingRec → SwingRec) : s.Keeps (t.modSwingRec b f) :=
  h.modSwing ⟨id, id⟩

theorem modLights (h : s.Keeps t) {f : Lights → Lights}
    (hf : t.lights.Keeps (f t.lights) := by exact ⟨fun _ => rfl, rfl, rfl⟩) : s.Keeps (t.modLights f) :=
  h.trans { refl t with lights := hf }

theorem modCircuit (h : s.Keeps t) (c : Circuit) {f : CircuitRec → CircuitRec}
    (hf : (f (t.circuit c)).config = (t.circuit c).config := by rfl) : s.Keeps (t.modCircuit c f) :=
  h.modLights ⟨fun d => by
    change ((t.modCircuit c f).circuit d).config = (t.circuit d).config
    rw [circuit_modCircuit]
    split <;> simp_all, rfl, rfl⟩

theorem modLoad (h : s.Keeps t) {f : Load → Load} (hf : t.load.Keeps (f t.load)) : s.Keeps (t.modLoad f) :=
  h.trans { refl t with load := hf }

theorem modStore (h : s.Keeps t) {f : Store → Store}
    (hf : t.store.Keeps (f t.store) := by exact ⟨rfl, rfl⟩) : s.Keeps (t.modStore f) :=
  h.trans { refl t with store := hf }

theorem signal (h : s.Keeps t) (x : Signal) : s.Keeps (t.signal x) := h.trans { refl t with hold := rfl }

theorem takeSignal (h : s.Keeps t) (l : List Signal) : s.Keeps { t with signals := l } :=
  h.trans { refl t with hold := rfl }

/-- Raising a notice adds to the port's pending set. -/
theorem raise (h : s.Keeps t) (k : NoticeKind) (p : Port) : s.Keeps (t.raise k p) :=
  h.trans { refl t with
    link :=
      { ports := fun q => by
          change ((t.raise k p).port q).withoutNotices = (t.port q).withoutNotices
          rw [State.raise, port_modPort]
          split <;> simp_all [PortRec.withoutNotices]
        notices := fun j q n => by
          change ((t.raise k p).port q).notices &&& j.bit ≠ 0
          rw [State.raise, port_modPort]
          split <;> rename_i e
          · subst e
            exact notices_or_ne_zero _ n
          · exact n
        locks := rfl } }

end State.Keeps
end Sys2Proof.Machine
end

section
/-! PROOFS. The shared operations keep the tables: notices and losses, hammers, the store queue and the quarter buffers, the end
outcomes, the strike engine, the load and the lights. -/

namespace Sys2Proof.Machine

theorem bump_le {n : Nat} (h : n ≤ 65535) : bump n ≤ 65535 := by
  unfold bump Config.saturation
  split <;> omega

theorem Losses.read_count_le {l : Losses} (h : ∀ r, l.read r ≤ 65535) (x r : DropReason) : (l.count x).read r ≤ 65535 := by
  have b := bump_le (h x)
  have g := h r
  cases x <;> cases r <;> assumption

/-- A request is queued only where the queue holds fewer than 48 entries (R85). -/
theorem State.length_of_planned_queued {s : State} {r : StrikeRequest} {onset fire slip late : Nat}
    (h : s.planned r = .queued onset fire slip late) : s.engine.queue.length < 48 := by
  by_contra full
  have dropped : ∃ x, s.planned r = .dropped x := by
    unfold State.planned Config.strikeQueue
    split
    · exact ⟨_, rfl⟩
    · dsimp only
      rw [if_pos (Nat.le_of_not_lt full)]
      split <;> exact ⟨_, rfl⟩
  obtain ⟨x, e⟩ := dropped
  rw [e] at h
  cases h

@[simp] theorem CircuitRec.retarget_config (r : CircuitRec) (now level time : Nat) :
    (r.retarget now level time).config = r.config := by
  unfold CircuitRec.retarget
  split <;> rfl

@[simp] theorem CircuitRec.move_config (r : CircuitRec) : r.move.config = r.config := by
  unfold CircuitRec.move
  split <;> rfl

namespace State.Keeps

variable {s t u : State}

/-! ## Notices, losses and hammers -/

theorem raiseAll (h : s.Keeps t) (k : NoticeKind) : s.Keeps (t.raiseAll k) := ((h.raise k .v).raise k .c).raise k .s

theorem raiseFor (h : s.Keeps t) (k : NoticeKind) (p : Option Port) : s.Keeps (t.raiseFor k p) := by
  cases p with
  | none => exact h.raiseAll k
  | some p => exact h.raise k p

theorem lose (h : s.Keeps t) (r : DropReason) : s.Keeps (t.lose r) :=
  ite ((h.modEngine ⟨rfl, id, fun l x => Losses.read_count_le l r x⟩).raiseAll _) h

theorem setHammer (h : s.Keeps t) (b : Bell) (x : Hammer) (timer : Option Nat) (quiet : Bool) :
    s.Keeps (t.setHammer b x timer quiet) := by
  unfold State.setHammer
  exact (ite (h.modBell b) ((h.modBell b).raiseAll _)).signal _

theorem faultHammer (h : s.Keeps t) (b : Bell) (x : HammerCause) (quiet : Bool) : s.Keeps (t.faultHammer b x quiet) :=
  ((h.setHammer b .fault none quiet).modBell b).raiseAll _

theorem enterUnparking (h : s.Keeps t) (b : Bell) (quiet : Bool) : s.Keeps (t.enterUnparking b quiet) :=
  ite (h.faultHammer ..) (ite (h.setHammer ..) (h.setHammer ..))

theorem enterParked (h : s.Keeps t) (b : Bell) (quiet : Bool) : s.Keeps (t.enterParked b quiet) :=
  have c := h.setHammer b .parked none quiet
  ite (h.faultHammer ..) (ite (c.enterUnparking ..) c)

theorem enterParking (h : s.Keeps t) (b : Bell) : s.Keeps (t.enterParking b) :=
  ite (h.faultHammer ..) (ite (h.enterParked ..) (h.setHammer ..))

theorem changeDemands (h : s.Keeps t) (b : Bell) (f : Demands → Demands) : s.Keeps (t.changeDemands b f) := by
  have c := h.modBell b (f := fun r => { r with demands := f r.demands })
  unfold State.changeDemands
  dsimp only
  split
  · exact ite c (c.enterParking b)
  · exact c.enterParking b
  · exact ite (c.enterUnparking b false) c
  · exact c

theorem pulseEnded (h : s.Keeps t) (b : Bell) : s.Keeps (t.pulseEnded b) := ite (h.enterParking b) h

theorem hammerSensors (h : s.Keeps t) (b : Bell) (rest home park : Bool) : s.Keeps (t.hammerSensors b rest home park) := by
  have fault := h.faultHammer b .sensorConflict false
  unfold State.hammerSensors
  dsimp only
  split
  · exact h
  · exact h
  · exact h
  · exact ite fault h
  · exact ite fault (ite (h.enterParked ..) h)
  · exact ite fault (ite (h.faultHammer ..) (ite (h.enterUnparking ..) h))
  · exact ite fault (ite (h.enterParking ..) (ite (h.setHammer ..) h))

theorem parkTimerExpires (h : s.Keeps t) (b : Bell) : s.Keeps (t.parkTimerExpires b) := by
  unfold State.parkTimerExpires
  refine ite ?_ h
  split
  · exact h.faultHammer ..
  · exact h.faultHammer ..
  · exact h

theorem hammerFirstState (h : s.Keeps t) (b : Bell) : s.Keeps (t.hammerFirstState b) := by
  unfold State.hammerFirstState
  refine ite ?_ h
  split
  · exact h.faultHammer ..
  · exact (h.modBell b).setHammer ..
  · exact h.setHammer ..
  · exact h.setHammer ..

/-! ## The store queue and the quarter buffers -/

theorem beginStoreOp (h : s.Keeps t) (op : StoreOp) : s.Keeps (t.beginStoreOp op) := h.modStore

theorem enqueueStoreOp (h : s.Keeps t) (op : StoreOp) : s.Keeps (t.enqueueStoreOp op) :=
  ite (h.beginStoreOp op) (h.modStore)

theorem nextStoreOp (h : s.Keeps t) : s.Keeps t.nextStoreOp := by
  have c := h.modStore (f := fun x => { x with executing := none }) ⟨rfl, rfl⟩
  unfold State.nextStoreOp
  dsimp only
  split
  · exact (c.modStore).beginStoreOp _
  · exact (c.modStore).beginStoreOp _
  · exact c

theorem wantBuffer (h : s.Keeps t) (q : Quarter) (x : TuneSlot) : s.Keeps (t.wantBuffer q x) := by
  unfold State.wantBuffer
  split
  · exact ite ((h.modPlayers _).modBuffer ..) (h.modBuffer ..)
  · exact h.modBuffer ..

theorem emptyBuffer (h : s.Keeps t) (q : Quarter) : s.Keeps (t.emptyBuffer q) := (h.modPlayers _).modBuffer ..

theorem assignBuffer (h : s.Keeps t) (q : Quarter) (x : Option TuneSlot) : s.Keeps (t.assignBuffer q x) := by
  cases x with
  | none => exact h.emptyBuffer q
  | some x => exact h.wantBuffer q x

theorem assignBufferWhenFree (h : s.Keeps t) (q : Quarter) (x : Option TuneSlot) : s.Keeps (t.assignBufferWhenFree q x) :=
  ite (h.modBuffer ..) (h.assignBuffer q x)

theorem requestFetch (h : s.Keeps t) : s.Keeps t.requestFetch := by
  unfold State.requestFetch
  refine ite h ?_
  split
  · split
    · exact ((h.modPlayers _).modBuffer ..).enqueueStoreOp _
    · exact h
  · exact h

theorem releaseBuffer (h : s.Keeps t) (q : Quarter) : s.Keeps (t.releaseBuffer q) := by
  unfold State.releaseBuffer
  split
  · exact (h.assignBuffer q _).requestFetch
  · exact h

theorem endQuarterRun (h : s.Keeps t) : s.Keeps t.endQuarterRun := by
  unfold State.endQuarterRun
  split
  · exact (h.modPlayers _).releaseBuffer _
  · exact h

theorem clockFetchEnds (h : s.Keeps t) (result : Except Status Tune) : s.Keeps (t.clockFetchEnds result) := by
  unfold State.clockFetchEnds
  split
  · exact ((h.modPlayers _).modBuffer ..).requestFetch
  · exact h

theorem slotWritten (h : s.Keeps t) (x : TuneSlot) : s.Keeps (t.slotWritten x) :=
  (h.foldl (fun _ _ c => ite (c.assignBufferWhenFree ..) c) _).requestFetch

/-! ## The end outcomes -/

theorem hourOutcome (h : s.Keeps t) (id index : Nat) (o : EndOutcome) : s.Keeps (t.hourOutcome id index o) := by
  unfold State.hourOutcome
  split
  · refine ite ?_ h
    dsimp only
    split
    · exact h.modPlayers _
    · exact ite (h.modPlayers _) (ite (h.modPlayers _) (h.modPlayers _))
  · exact h

theorem finishRequest (h : s.Keeps t) (cause : EndCause) : s.Keeps (t.finishRequest cause) := by
  unfold State.finishRequest
  split
  · exact (h.modPlayers _).raise ..
  · exact h

theorem completeRequest (h : s.Keeps t) : s.Keeps t.completeRequest := by
  unfold State.completeRequest
  split
  · exact ite (h.finishRequest _) h
  · exact h

theorem modRequest (h : s.Keeps t) (f : RequestRun → RequestRun) : s.Keeps (t.modRequest f) := h.modPlayers _

theorem modToll (h : s.Keeps t) (p : Port) (f : Option TollRun → Option TollRun) : s.Keeps (t.modToll p f) := h.modPlayers _

theorem tuneOutcome (h : s.Keeps t) (id : Nat) (o : EndOutcome) : s.Keeps (t.tuneOutcome id o) := by
  unfold State.tuneOutcome
  split
  · exact ite (h.modRequest _).completeRequest h
  · exact h

theorem completeToll (h : s.Keeps t) (p : Port) : s.Keeps (t.completeToll p) := by
  unfold State.completeToll
  split
  · exact ite ((h.modToll ..).raise ..) h
  · exact h

theorem tollOutcome (h : s.Keeps t) (p : Port) (id : Nat) (o : EndOutcome) : s.Keeps (t.tollOutcome p id o) := by
  unfold State.tollOutcome
  split
  · exact ite ((h.modToll ..).completeToll p) h
  · exact h

theorem endOutcome (h : s.Keeps t) (e : QueueEntry) (o : EndOutcome) : s.Keeps (t.endOutcome e o) := by
  unfold State.endOutcome
  split
  · exact h.modPlayers _
  · exact h.hourOutcome ..
  · exact h.tuneOutcome ..
  · exact h.tollOutcome ..
  · cases o with
    | granted _ => exact h.modClavier
    | dropped _ => exact h.modClavier
  · exact h

/-! ## The strike engine -/

theorem plan (h : s.Keeps t) (r : StrikeRequest) : s.Keeps (t.plan r) := by
  unfold State.plan
  split
  · exact h.lose _
  · rename_i e
    have room := length_of_planned_queued e
    refine (h.modEngine ⟨rfl, fun _ => ?_, id⟩).modBell _
    rw [length_insertEntry]
    exact room

theorem renewByGrant (h : s.Keeps t) (b : Bell) (p : Option Port) : s.Keeps (t.renewByGrant b p) := by
  unfold State.renewByGrant
  split
  · exact ite (h.setClaim ..) h
  · exact h

theorem dropEntry (h : s.Keeps t) (e : QueueEntry) (r : DropReason) : s.Keeps (t.dropEntry e r) :=
  ((h.modEngine ⟨rfl, fun l => (List.length_erase_le ..).trans l, id⟩).lose r).endOutcome e _

theorem grant (h : s.Keeps t) (k : HammerSlot) (e : QueueEntry) : s.Keeps (t.grant k e) := by
  unfold State.grant
  refine (((h.modEngine ⟨?_, ?_, ?_⟩).modBell _).renewByGrant ..).endOutcome e _
  · rfl
  · exact fun l => (List.length_erase_le ..).trans l
  · exact id

theorem attempt (h : s.Keeps t) (k : HammerSlot) (e : QueueEntry) : s.Keeps (t.attempt k e) := by
  unfold State.attempt
  split
  · exact h.dropEntry ..
  · exact ite ((h.dropEntry ..).faultHammer ..) (h.grant k e)

theorem arbitrateFor (h : s.Keeps t) (n : Nat) : s.Keeps (t.arbitrateFor n) := by
  induction n generalizing t with
  | zero => exact h
  | succ n ih =>
    unfold State.arbitrateFor
    split
    · exact ih (h.attempt ..)
    · exact h

theorem arbitrate (h : s.Keeps t) : s.Keeps t.arbitrate := h.arbitrateFor _

theorem purge (h : s.Keeps t) (f : QueueEntry → Bool) (r : DropReason) : s.Keeps (t.purge f r) :=
  h.foldl (fun _ e c => c.dropEntry e r) _

/-! ## The tower load -/

theorem watchReservation {c : Circuit} {f : State → State} (h : s.Keeps (f t)) : s.Keeps (t.watchReservation c f) :=
  ite (h.signal _) h

theorem grantCircuit (h : s.Keeps t) (c : Circuit) (time : Nat) (before quiet : Bool) :
    s.Keeps (t.grantCircuit c time before quiet) :=
  have g := ite h (watchReservation (h.modCircuit c (CircuitRec.retarget_config ..)))
  ite (g.raiseAll _) g

theorem rewant (h : s.Keeps t) (c : Circuit) (time : Nat) (quiet : Bool) : s.Keeps (t.rewant c time quiet) :=
  ite h ((h.modCircuit c).grantCircuit ..)

theorem shedCircuit (h : s.Keeps t) (c : Circuit) : s.Keeps (t.shedCircuit c) := (h.modCircuit c).raiseAll _

theorem shedFor (h : s.Keeps t) (cs : List Circuit) (d : Nat) : s.Keeps (t.shedFor cs d) := by
  induction cs generalizing t d with
  | nil => exact h
  | cons c cs ih => exact ite h (ite (ih h _) (ih (h.shedCircuit c) _))

theorem makeRoom (h : s.Keeps t) {need : Nat} (e : t.makeRoom need = some u) : s.Keeps u := by
  unfold State.makeRoom at e
  dsimp only at e
  split at e
  · exact Option.some.inj e ▸ h
  · split at e
    · exact Option.some.inj e ▸ h.shedFor ..
    · cases e

theorem restoreCircuit (h : s.Keeps t) (c : Circuit) : s.Keeps (t.restoreCircuit c) :=
  (ite ((h.modCircuit c).raiseAll _) h).grantCircuit ..

theorem restoreLights (h : s.Keeps t) : s.Keeps t.restoreLights := ite (h.foldl (fun _ c k => k.restoreCircuit c) _) h

theorem leaveLoadQueue (h : s.Keeps t) (b : Bell) : s.Keeps (t.leaveLoadQueue b) :=
  have c := h.modLoad ⟨rfl, rfl, rfl, fun l => (List.length_filter_le ..).trans l⟩
  ite (c.signal _) c

/-! ## The lights -/

theorem endOverride (h : s.Keeps t) (c : Circuit) (time : Nat) : s.Keeps (t.endOverride c time) := by
  unfold State.endOverride
  split
  · exact ((h.modCircuit c).raiseAll _).rewant ..
  · exact h.rewant ..

theorem takeStep (h : s.Keeps t) (x : PlanStep) (time : Nat) : s.Keeps (t.takeStep x time) :=
  h.foldl (fun _ c k => (k.modCircuit c).endOverride ..) _

theorem takeRingSteps (h : s.Keeps t) (starts : Bool) : s.Keeps (t.takeRingSteps starts) :=
  h.foldl (fun _ _ k => k.takeStep ..) _

theorem applyPassed (h : s.Keeps t) (l : List TimelineStep) : s.Keeps (t.applyPassed l) :=
  h.foldl (fun _ _ k => k.foldl (fun _ c k => k.modCircuit c) _) _

theorem rewantAll (h : s.Keeps t) (time : Circuit → Nat) (quiet : Bool) : s.Keeps (t.rewantAll time quiet) :=
  h.foldl (fun _ _ k => k.rewant ..) _

theorem fallbackNotice (h : s.Keeps t) (before quiet : Bool) : s.Keeps (t.fallbackNotice before quiet) := ite (h.raiseAll _) h

theorem buildTimeline (h : s.Keeps t) (quiet : Bool) : s.Keeps (t.buildTimeline quiet) :=
  ite (((h.modLights).applyPassed _).rewantAll ..) (h.rewantAll ..)

theorem takeDue (h : s.Keeps t) (m : Nat) : s.Keeps (t.takeDue m) :=
  (h.modLights).foldl (fun _ _ k => k.takeStep ..) _

theorem endOverrides (h : s.Keeps t) (ends : Nat → Bool) : s.Keeps (t.endOverrides ends) :=
  h.foldl (fun _ c k => ite (k.endOverride c 0) k) _

theorem takeLightMinute (h : s.Keeps t) (m : HeldMinute) : s.Keeps (t.takeLightMinute m) :=
  (ite (h.takeDue _) h).endOverrides _

theorem lightMinute (h : s.Keeps t) (m : HeldMinute) : s.Keeps (t.lightMinute m) :=
  ite (h.takeLightMinute m) (h.modLights)

theorem takeHeldMinutes (h : s.Keeps t) : s.Keeps t.takeHeldMinutes :=
  (h.modLights).foldl (fun _ _ k => k.takeLightMinute _) _

theorem lightHandOver (h : s.Keeps t) (d : Date) (plan : Option PlanNo) (valid : Option Bool) (quiet : Bool) :
    s.Keeps (t.lightHandOver d plan valid quiet) :=
  (((h.modLights).buildTimeline quiet).fallbackNotice ..).takeHeldMinutes

theorem lightTimeChange (h : s.Keeps t) (x y : LocalTime) : s.Keeps (t.lightTimeChange x y) :=
  (h.endOverrides _).buildTimeline false

end State.Keeps
end Sys2Proof.Machine
end

section
/-! PROOFS. The shared operations keep the tables: the swing controller with its signals, the claims, the chime players, the
clavier and the sensors. -/

namespace Sys2Proof.Machine.State.Keeps

variable {s t u : State}

/-! ## The swing states -/

theorem ringCrossing (h : s.Keeps t) (before : Nat) : s.Keeps (t.ringCrossing before) :=
  ite (h.takeRingSteps true) (ite (h.takeRingSteps false) h)

theorem slotRunHears (h : s.Keeps t) (b : Bell) (x : SwingState) : s.Keeps (t.slotRunHears b x) := by
  have put (f : SlotRun → SlotRun) : s.Keeps (t.modSwing fun w => { w with runs := w.runs.map f }) :=
    h.modSwing ⟨fun l => by rwa [List.length_map], id⟩
  unfold State.slotRunHears
  split
  · dsimp only
    split
    · exact ite ((put _).signal _) (put _)
    · exact (put _).signal _
    · exact (put _).signal _
    · exact h
  · exact h

theorem setSwing (h : s.Keeps t) (b : Bell) (f : SwingRec → SwingRec) (quiet : Bool) : s.Keeps (t.setSwing b f quiet) := by
  have c := h.modSwingRec b f
  have d := (ite (c := quiet = true) c (c.raiseAll .bell)).changeDemands b fun d =>
    { d with swing := ((t.modSwingRec b f).swingState b).demandsPark, start := d.start && (t.modSwingRec b f).swingState b != .idle }
  unfold State.setSwing
  exact ((ite ((d.modBell b).signal _) (d.modBell b)).ringCrossing _).slotRunHears ..

theorem toStarting (h : s.Keeps t) (b : Bell) : s.Keeps (t.toStarting b) := h.setSwing ..

theorem toRinging (h : s.Keeps t) (b : Bell) : s.Keeps (t.toRinging b) := h.setSwing ..

theorem toSettling (h : s.Keeps t) (b : Bell) (quiet : Bool) : s.Keeps (t.toSettling b quiet) := h.setSwing ..

theorem testRest (h : s.Keeps t) (b : Bell) : s.Keeps (t.testRest b) := ite (h.toSettling ..) h

theorem toStopping (h : s.Keeps t) (b : Bell) (cause : Option SwingCause) (quiet : Bool) :
    s.Keeps (t.toStopping b cause quiet) := (h.setSwing ..).testRest b

theorem toIdle (h : s.Keeps t) (b : Bell) (cause : Option SwingCause) (quiet : Bool) : s.Keeps (t.toIdle b cause quiet) :=
  h.setSwing ..

theorem giveUp (h : s.Keeps t) (b : Bell) (cause : SwingCause) : s.Keeps (t.giveUp b cause) := (h.leaveLoadQueue b).toIdle ..

theorem swingFaults (h : s.Keeps t) (b : Bell) (cause : SwingFault) : s.Keeps (t.swingFaults b cause) :=
  ((h.leaveLoadQueue b).setSwing ..).raiseAll _

theorem bringDown (h : s.Keeps t) (b : Bell) (cause : SwingCause) : s.Keeps (t.bringDown b cause) := by
  unfold State.bringDown
  split
  · exact h.toStopping ..
  · exact h.toStopping ..
  · exact h.giveUp ..
  · exact h.giveUp ..
  · exact h

theorem toParking (h : s.Keeps t) (b : Bell) (origin : Origin) (minutes : Option Nat) :
    s.Keeps (t.toParking b origin minutes) := by
  have c := (h.setSwing b (fun r =>
    { r with state := .parking, origin := some origin, minutes := minutes, durationEnd := none, timer := none
             lastCause := none }) false).purge (fun e => e.bell == b) .interlock
  exact ite (c.signal _) c

/-! ## The load queue -/

theorem joinLoadQueue (h : s.Keeps t) (b : Bell) : s.Keeps (t.joinLoadQueue b) := by
  unfold State.joinLoadQueue
  dsimp only
  split
  · exact (h.toIdle ..).raiseFor ..
  · rename_i room
    refine h.modLoad ⟨rfl, rfl, rfl, fun _ => ?_⟩
    rw [List.length_append]
    exact Nat.lt_of_not_le room

theorem toWaitLoad (h : s.Keeps t) (b : Bell) : s.Keeps (t.toWaitLoad b) := by
  have c := h.setSwing b (fun r => { r with state := .waitLoad }) false
  unfold State.toWaitLoad
  dsimp only
  split
  · split
    · rename_i e
      exact (c.makeRoom e).toStarting b
    · exact c.joinLoadQueue b
  · exact c.joinLoadQueue b

theorem admitHeads (h : s.Keeps t) (n : Nat) : s.Keeps (t.admitHeads n) := by
  induction n generalizing t with
  | zero => exact h
  | succ n ih =>
    unfold State.admitHeads
    split
    · exact h
    · rename_i e rest q
      split
      · rename_i v room
        have c := h.makeRoom room
        have queue : v.load.queue = e :: rest := by
          have frame : t.changesOnly [.lights, .link] v := makeRoom_within (changesOnly.refl _ _) (List.Subset.refl _) room
          exact (congrArg Load.queue (frame .load (by decide))).trans q
        refine ih ((c.modLoad ⟨rfl, rfl, rfl, fun l => ?_⟩).toStarting _)
        rw [queue] at l
        exact Nat.le_of_succ_le l
      · exact h

theorem reevaluate (h : s.Keeps t) : s.Keeps t.reevaluate := (h.admitHeads _).restoreLights

/-! ## Slot runs -/

theorem modRun (h : s.Keeps t) (id : Nat) (f : SlotRun → SlotRun) : s.Keeps (t.modRun id f) :=
  h.modSwing ⟨fun l => by rwa [List.length_map], fun l => l⟩

theorem takeBells (h : s.Keeps t) (id : Nat) (bs : List Bell) : s.Keeps (t.takeBells id bs) := by
  induction bs generalizing t with
  | nil => exact h.modRun ..
  | cons b bs ih =>
    unfold State.takeBells
    split
    · exact ih ((h.modRun ..).raiseAll _)
    · exact (h.modRun ..).toParking ..

theorem slotNext (h : s.Keeps t) (id : Nat) : s.Keeps (t.slotNext id) := by
  unfold State.slotNext
  split
  · exact (h.modRun ..).takeBells ..
  · exact h

theorem recordSlot (h : s.Keeps t) (x : SlotRecord) : s.Keeps (t.recordSlot x) :=
  h.modSwing ⟨id, fun l => by simp only [List.length_drop, List.length_append, List.length_singleton]; omega⟩

theorem endRun (h : s.Keeps t) (r : SlotRun) : s.Keeps (t.endRun r) :=
  (h.modSwing ⟨fun l => (List.length_filter_le ..).trans l, id⟩).recordSlot _

theorem slotRunEnds (h : s.Keeps t) (r : SlotRun) : s.Keeps (t.slotRunEnds r) :=
  (h.endRun r).foldl (fun _ b c => ite (c.bringDown b .slotEnd) c) _

theorem startSlot (h : s.Keeps t) (d : Date) (number : Nat) (x : RingSlot) : s.Keeps (t.startSlot d number x) := by
  unfold State.startSlot
  dsimp only
  split
  · exact (h.recordSlot _).raiseAll _
  · rename_i room
    refine (h.modSwing ⟨fun _ => ?_, id⟩).slotNext _
    rw [List.length_append]
    exact Nat.lt_of_not_le room

theorem actOnMinute (h : s.Keeps t) (d : Date) (m : Nat) : s.Keeps (t.actOnMinute d m) := by
  have c := h.foldl (f := fun s (x : Nat × RingSlot) =>
    (s.recordSlot { date := d, number := x.1, outcome := .missed, started := [], skipped := [] }).raiseAll .bell)
    (fun _ _ c => (c.recordSlot _).raiseAll _)
    ((t.slotsOf d).filter fun x => laterThanSlotGuard (d, x.2.start) false t.swing.guard && x.2.start < m)
  exact ite ((c.foldl (fun _ _ c => c.startSlot ..) _).modSwing) c

theorem swingMinute (h : s.Keeps t) (d : Date) (m : Nat) (valid : Bool) : s.Keeps (t.swingMinute d m valid) :=
  ite h (ite (h.actOnMinute d m) h.modSwing)

theorem swingHandOver (h : s.Keeps t) (d : Date) (slots : List RingSlot) : s.Keeps (t.swingHandOver d slots) :=
  h.modSwing.foldl (fun _ _ c => c.actOnMinute ..) _

/-! ## Sensors and signals at the swing controller -/

theorem swingEdge (h : s.Keeps t) (b : Bell) : s.Keeps (t.swingEdge b) := by
  have c := h.modSwingRec b fun r => { r with lastPulse := some t.now }
  unfold State.swingEdge
  dsimp only
  split
  · exact c.modSwingRec ..
  · exact c.modSwingRec ..
  · exact c.testRest b
  · exact ite (c.modSwingRec ..) c
  · exact c

theorem swingRest (h : s.Keeps t) (b : Bell) : s.Keeps (t.swingRest b) := by
  unfold State.swingRest
  split
  · exact h.testRest b
  · exact ite h (h.toStopping ..)
  · exact h

theorem swingLockOut (h : s.Keeps t) : s.Keeps t.swingLockOut := h.foldl (fun _ b c => c.bringDown b _) _

theorem swingAllStop (h : s.Keeps t) : s.Keeps t.swingAllStop :=
  (h.foldl (fun _ r c => c.endRun r) _).foldl (fun _ b c => c.bringDown b _) _

theorem swingFirstState (h : s.Keeps t) (b : Bell) : s.Keeps (t.swingFirstState b) :=
  ite (ite (h.toIdle ..) (ite (h.toSettling ..) (h.toStopping ..))) h

theorem hammerReported (h : s.Keeps t) (b : Bell) : s.Keeps (t.hammerReported b) := by
  unfold State.hammerReported
  split
  · exact h.toWaitLoad b
  · exact h.swingFaults ..
  · exact ite h (h.swingFaults ..)
  · exact ite h (h.swingFaults ..)
  · exact ite h (h.swingFaults ..)
  · exact h

theorem deliver (h : s.Keeps t) (x : Signal) : s.Keeps (State.deliver x t) := by
  cases x with
  | hammer b => exact h.hammerReported b
  | loadFell => exact h.reevaluate
  | slotNext id => exact h.slotNext id

theorem settleFor (h : s.Keeps t) (n : Nat) : s.Keeps (t.settleFor n) := by
  induction n generalizing t with
  | zero => exact h
  | succ n ih =>
    unfold State.settleFor
    split
    · exact h
    · exact ih ((h.takeSignal _).deliver _)

theorem settle (h : s.Keeps t) : s.Keeps t.settle := h.settleFor _

/-! ## The claims -/

theorem ropeDemand (h : s.Keeps t) (b : Bell) (present : Bool) : s.Keeps (t.ropeDemand b present) := h.changeDemands ..

theorem takeClaim (h : s.Keeps t) (p : Port) (k : ClaimKind) (b : Bell) : s.Keeps (t.takeClaim p k b) := by
  have c (x : Option Claim) := h.setClaim b x
  unfold State.takeClaim
  dsimp only
  split
  · exact c _
  · exact c _
  · exact ((c _).ropeDemand ..).purge ..
  · exact (c _).purge ..
  · exact (c _).ropeDemand ..

theorem endClaim (h : s.Keeps t) (b : Bell) : s.Keeps (t.endClaim b) := by
  unfold State.endClaim
  split
  · exact ite ((h.setClaim ..).ropeDemand ..) (h.setClaim ..)
  · exact h

theorem giveUpClaim (h : s.Keeps t) (b : Bell) : s.Keeps (t.giveUpClaim b) := by
  unfold State.giveUpClaim
  split
  · exact ite (h.setClaim ..) (h.endClaim b)
  · exact h

theorem claimLapses (h : s.Keeps t) (b : Bell) : s.Keeps (t.claimLapses b) := by
  unfold State.claimLapses
  split
  · exact ite ((h.giveUpClaim b).raise ..) h
  · exact h

theorem claimAtRest (h : s.Keeps t) (b : Bell) : s.Keeps (t.claimAtRest b) := by
  unfold State.claimAtRest
  split
  · exact ite ((h.endClaim b).raise ..) h
  · exact h

/-! ## The chime players -/

theorem advanceQuarter (h : s.Keeps t) : s.Keeps t.advanceQuarter := by
  unfold State.advanceQuarter
  split
  · exact ite h.endQuarterRun (h.modPlayers _)
  · exact h

theorem chimeNotHeld (h : s.Keeps t) (q : Quarter) : s.Keeps (t.chimeNotHeld q) := ite h (h.lose _)

theorem testFourthQuarter (h : s.Keeps t) : s.Keeps t.testFourthQuarter := by
  unfold State.testFourthQuarter
  split
  · exact ite h (ite (h.modPlayers _).advanceQuarter ((h.modPlayers _).chimeNotHeld _))
  · exact h

theorem handQuarter (h : s.Keeps t) : s.Keeps t.handQuarter := by
  unfold State.handQuarter
  split
  · dsimp only
    split
    · exact ite ((h.plan _).modPlayers _).advanceQuarter.arbitrate h
    · exact h
  · exact h

theorem beginQuarterRun (h : s.Keeps t) (r : QuarterRun) : s.Keeps (t.beginQuarterRun r) := by
  unfold State.beginQuarterRun
  split
  · exact ite (h.modPlayers _) (h.endQuarterRun.modPlayers _)
  · exact h.modPlayers _

theorem quarterChime (h : s.Keeps t) (p : Program) (q : Quarter) (minute count : Nat) :
    s.Keeps (t.quarterChime p q minute count) := by
  unfold State.quarterChime
  split
  · exact h
  · exact ite (h.lose _) (ite (h.lose _) (h.beginQuarterRun _).advanceQuarter)

theorem prepareFourthQuarter (h : s.Keeps t) (p : Program) (x : HourAhead) : s.Keeps (t.prepareFourthQuarter p x) := by
  unfold State.prepareFourthQuarter
  split
  · exact h
  · split
    · exact h.lose _
    · exact (h.beginQuarterRun _).testFourthQuarter

theorem planHourStrike (h : s.Keeps t) (p : Program) (x : HourAhead) : s.Keeps (t.planHourStrike p x) := ite (h.modPlayers _) h

theorem silentHour (h : s.Keeps t) (p : Program) : s.Keeps (t.silentHour p) :=
  have c := ite (h.lose .silent) h
  ite (c.lose .silent) c

theorem takeHourAhead (h : s.Keeps t) (p : Program) (x : HourAhead) : s.Keeps (t.takeHourAhead p x) :=
  ite (h.silentHour p) ((h.prepareFourthQuarter p x).planHourStrike p x)

theorem takeQuarter (h : s.Keeps t) (p : Program) (q : QuarterInstant) (count : Nat) : s.Keeps (t.takeQuarter p q count) := by
  unfold State.takeQuarter
  split
  · exact h.quarterChime ..
  · exact h.quarterChime ..
  · exact h.quarterChime ..
  · exact h

theorem chimeAnnounced (h : s.Keeps t) (x : HeldAnnouncement) : s.Keeps (t.chimeAnnounced x) := by
  unfold State.chimeAnnounced
  split
  · cases x with
    | quarter q count => exact h.takeQuarter ..
    | hourAhead x => exact h.takeHourAhead ..
  · exact h.modPlayers _

theorem chimeWithdrawn (h : s.Keeps t) (x : HourAhead) : s.Keeps (t.chimeWithdrawn x) := by
  have c := h.modPlayers fun y => { y with held := y.held.filter fun z => z != .hourAhead x }
  unfold State.chimeWithdrawn
  exact ite ((ite c.endQuarterRun c).modPlayers _) (ite c.endQuarterRun c)

theorem chimeHandOver (h : s.Keeps t) (p : Program) (date : Bool) : s.Keeps (t.chimeHandOver p date) := by
  unfold State.chimeHandOver
  exact ((((h.modPlayers _).foldl (fun _ _ c => ite (c.assignBufferWhenFree ..) c) _).requestFetch).modPlayers _).foldl
    (fun _ _ c => c.chimeAnnounced _) _

theorem handBlow (h : s.Keeps t) (r : HourRun) : s.Keeps (t.handBlow r) := by
  unfold State.handBlow
  dsimp only
  split
  · exact (((h.plan _).modPlayers _).hourOutcome ..).arbitrate
  · exact ((h.plan _).modPlayers _).arbitrate

theorem handHour (h : s.Keeps t) : s.Keeps t.handHour := by
  unfold State.handHour
  split
  · exact ite (h.handBlow _) h
  · exact h

theorem deferTests (h : s.Keeps t) : s.Keeps t.deferTests := by
  unfold State.deferTests
  split
  · refine ite ?_ h
    split
    · exact h.handBlow _
    · exact h.modPlayers _
  · exact h

theorem deferExpires (h : s.Keeps t) : s.Keeps t.deferExpires := by
  unfold State.deferExpires
  split
  · exact ite ((h.modPlayers _).raiseAll _) h
  · exact h

theorem advanceRequest (h : s.Keeps t) : s.Keeps t.advanceRequest := by
  unfold State.advanceRequest
  split
  · exact (h.modRequest _).completeRequest
  · exact h

theorem handTune (h : s.Keeps t) : s.Keeps t.handTune := by
  unfold State.handTune
  split
  · split
    · exact ite ((h.plan _).modPlayers _).advanceRequest.arbitrate h
    · exact h
  · exact h

theorem handOverNext (h : s.Keeps t) (k : RunKind) : s.Keeps (t.handOverNext k) := by
  cases k with
  | quarter => exact h.testFourthQuarter.handQuarter
  | hour => exact h.handHour
  | request => exact h.handTune

theorem stopRequest (h : s.Keeps t) (cause : EndCause) : s.Keeps (t.stopRequest cause) := by
  unfold State.stopRequest
  split
  · exact h
  · exact h.modRequest _
  · exact h.finishRequest _
  · exact h.finishRequest _

theorem playFetched (h : s.Keeps t) (result : Except Status Tune) : s.Keeps (t.playFetched result) := by
  unfold State.playFetched
  split
  · split
    · exact h.finishRequest _
    · exact h.modPlayers _
    · exact (h.modPlayers _).advanceRequest
  · exact h

theorem tollStrikes (h : s.Keeps t) (p : Port) : s.Keeps (t.tollStrikes p) := by
  unfold State.tollStrikes
  split
  · exact ite (((h.plan _).modToll ..).completeToll p).arbitrate h
  · exact h

theorem playersAllStop (h : s.Keeps t) : s.Keeps t.playersAllStop :=
  ((h.endQuarterRun.modPlayers _).stopRequest _).foldl (fun _ p c => ite ((c.modToll p _).raise ..) c) _

/-! ## The clavier -/

theorem modKey (h : s.Keeps t) (k : Fin 32) (f : Key → Key) : s.Keeps (t.modKey k f) := h.modClavier

theorem setCondition (h : s.Keeps t) (k : Fin 32) (x : KeyCondition) : s.Keeps (t.setCondition k x) := h.modKey ..

theorem bellKey (h : s.Keeps t) (b : Bell) : s.Keeps (t.bellKey b) := by
  unfold State.bellKey
  exact (h.plan _).modClavier

theorem functionKey (h : s.Keeps t) (key : Nat) : s.Keeps (t.functionKey key) := by
  have c : ∀ x : KeyEntry, s.Keeps (t.modClavier fun c =>
      if c.queue.length < Config.keyQueue then { c with queue := c.queue ++ [x] }
      else { c with overrun := true, overruns := bump c.overruns }) := fun x => by
    by_cases room : t.clavier.queue.length < Config.keyQueue
    · refine h.modClavier ?_
      simp only [room, if_true]
      exact ⟨rfl, rfl, rfl, fun _ => by rw [List.length_append]; exact room, id⟩
    · refine h.modClavier ?_
      simp only [room, if_false]
      exact ⟨rfl, rfl, rfl, id, bump_le⟩
  unfold State.functionKey
  dsimp only
  split
  · exact (c _).raise ..
  · exact c _

theorem register (h : s.Keeps t) (k : Fin 32) : s.Keeps (t.register k) := by
  unfold State.register
  dsimp only
  split
  · exact (h.setCondition ..).bellKey _
  · exact (h.setCondition ..).functionKey _

theorem lockoutArbiter (h : s.Keeps t) (closed opened : List (Fin 32)) : s.Keeps (t.lockoutArbiter closed opened) := by
  have all {v : State} (k : s.Keeps v) (x : KeyCondition) (l : List (Fin 32)) :
      s.Keeps (l.foldl (fun s k => State.setCondition k x s) v) := k.foldl (fun _ _ c => c.setCondition ..) _
  have put {v : State} (k : s.Keeps v) (x : Arbiter) : s.Keeps (v.modClavier fun c => { c with arbiter := x }) := k.modClavier
  unfold State.lockoutArbiter
  dsimp only
  split
  · split
    · exact h
    · exact (put h _).register _
    · exact put (all h _ _) _
  · split
    · exact put (all h _ _) _
    · exact all h _ _
  · split
    · exact put (all h _ _) _
    · exact (put (all h _ _) _).register _
    · exact put (all h _ _) _

theorem allStop (h : s.Keeps t) : s.Keeps t.allStop := by
  have c := h.modClavier (f := fun c => { c with allStops := c.allStops + 1, lastAllStop := some t.localTime })
  exact (c.swingAllStop.playersAllStop).purge ..

theorem scanClavier (h : s.Keeps t) (keys : BitVec 32) (pedal : Bool) : s.Keeps (t.scanClavier keys pedal) := by
  unfold State.scanClavier
  extract_lets before sampled was is closed opened registered arbitrated
  have c : s.Keeps sampled := h.modClavier
  have r : s.Keeps registered := by
    unfold registered
    split
    · exact c.foldl (fun _ k c => c.register k) _
    · exact c.lockoutArbiter ..
  have a : s.Keeps arbitrated := ite r r.arbitrate
  exact ite a.allStop a

/-! ## The sensors -/

theorem deliverBell (h : s.Keeps t) (old : BellRec) (b : Bell) : s.Keeps (t.deliverBell old b) := by
  unfold State.deliverBell
  have c (x y z : Bool) := h.hammerSensors b x y z
  have d (p : Bool) (x y z : Bool) := ite (c := p = true) ((c x y z).claimAtRest b) (c x y z)
  have e (p q : Bool) (x y z : Bool) := ite (c := q = true) ((d p x y z).swingEdge b) (d p x y z)
  exact ite ((e _ _ _ _ _).swingRest b) (e _ _ _ _ _)

theorem lockoutDemands (h : s.Keeps t) (present : Bool) : s.Keeps (t.lockoutDemands present) :=
  h.foldl (fun _ b c => c.changeDemands b _) _

theorem deliverLockout (h : s.Keeps t) (before : Option Bool) : s.Keeps (t.deliverLockout before) :=
  ite ((h.lockoutDemands true).swingLockOut.raiseAll _) (ite ((h.lockoutDemands false).raiseAll _) h)

theorem meetDemand (h : s.Keeps t) (b : Bell) : s.Keeps (t.meetDemand b) := ite (h.enterParking b) h

theorem firstStates (h : s.Keeps t) : s.Keeps t.firstStates := by
  have c := h.foldl (fun _ b c => c.hammerFirstState b) allBells
  exact ((ite (c.lockoutDemands true) c).foldl (fun _ b c => c.meetDemand b) _).foldl (fun _ b c => c.swingFirstState b) _

theorem deliverScan (h : s.Keeps t) (old : BellTable) : s.Keeps (t.deliverScan old) := by
  have c := (h.foldl (fun _ b c => c.deliverBell (old.bells.get b) b) allBells).deliverLockout old.lockout.state
  exact ite c.firstStates c

end Sys2Proof.Machine.State.Keeps
end

section
/-! PROOFS. The dial trains and the timekeeper keep the tables: a train's record stays legal (R33 to R38), the time stays a time
of the calendar (R2, R5), and the guard never goes back (R12). -/

namespace Sys2Proof.Machine

/-! ## The records of the dial trains -/

theorem Dial.beginImpulse_legal {d : Dial} {v : Bool} (h : d.legal v = true) (now : Nat) :
    (d.beginImpulse now).legal v = true := by
  unfold Dial.beginImpulse
  split
  · rw [Dial.legal_iff] at h ⊢
    obtain ⟨position, hold, fitted, unset, stopped, -, -, due⟩ := h
    exact ⟨position, hold, fitted, unset, stopped, fun _ => rfl, fun x => absurd x Bool.false_ne_true, due⟩
  · exact h

/-- A lag decides one of the three states of a RUNNING train. -/
theorem Dial.stateFor_cases (d : Dial) (lag : Nat) :
    d.stateFor lag = .inStep ∨ d.stateFor lag = .holding ∨ d.stateFor lag = .catching := by
  unfold Dial.stateFor
  split
  · exact .inl rfl
  · split
    · exact .inr (.inl rfl)
    · exact .inr (.inr rfl)

/-- A lag that demands an impulse may be caught up. -/
theorem Dial.lag_of_demandsFor {d : Dial} {lag : Nat} (hold : d.hold ≤ 720) (h : d.demandsFor lag = true) :
    1 ≤ lag ∧ lag + d.hold < 1440 := by
  simp only [Dial.demandsFor, Bool.or_eq_true, beq_iff_eq, Bool.and_eq_true, decide_eq_true_eq] at h
  omega

/-- The evaluation of a RUNNING train makes its record legal, whatever its state and lag were. -/
theorem Dial.evaluate_legal_of_running {d : Dial} (running : d.mode = .running) (position : d.position < 1440)
    (hold : d.hold ≤ 720) (fitted : d.fitted = true) (mark : d.impulse.isSome = true → d.inFlight = true) (v : Bool)
    (t : LocalTime) (now : Nat) : (d.evaluate t v now).legal v = true := by
  unfold Dial.evaluate
  rw [if_neg (not_not.mpr running)]
  split
  · rw [Dial.legal_iff]
    exact ⟨position, hold, .inl fitted, by simp [running], by simp [running], mark, by simp, by simp⟩
  · rename_i valid
    refine Dial.beginImpulse_legal ?_ now
    rw [Dial.legal_iff]
    refine ⟨position, hold, .inl fitted, ?_, ?_, mark,
      fun x => ⟨running, by simpa using valid, _, rfl, Dial.lag_of_demandsFor hold x⟩, ?_⟩
    · rcases d.stateFor_cases (d.lagAt t) with e | e | e <;> simp [running, e]
    · rcases d.stateFor_cases (d.lagAt t) with e | e | e <;> simp [running, e]
    · intro x
      simp only [Bool.and_eq_true, beq_iff_eq] at x
      exact x.1

/-- An evaluation keeps a record legal. -/
theorem Dial.evaluate_legal {d : Dial} {v : Bool} (h : d.legal v = true) (t : LocalTime) (now : Nat) :
    (d.evaluate t v now).legal v = true := by
  by_cases running : d.mode = .running
  · rw [Dial.legal_iff] at h
    obtain ⟨position, hold, fitted, -, -, mark, -, -⟩ := h
    exact Dial.evaluate_legal_of_running running position hold (fitted.resolve_right (by simp [running])) mark v t now
  · unfold Dial.evaluate
    rw [if_pos running]
    exact h

theorem Dial.evaluateCatchUp_legal {d : Dial} {v : Bool} (h : d.legal v = true) (t : LocalTime) (now : Nat) :
    (d.evaluateCatchUp t v now).legal v = true := by
  have e := Dial.evaluate_legal h t now
  rw [Dial.legal_iff] at e
  obtain ⟨position, hold, fitted, unset, stopped, mark, demand, -⟩ := e
  exact (Dial.legal_iff ..).mpr ⟨position, hold, fitted, unset, stopped, mark, demand, fun x => absurd x Bool.false_ne_true⟩

/-- The end of an impulse keeps a record legal (R38). -/
theorem Dial.impulseEnded_legal {d : Dial} {v : Bool} (h : d.legal v = true) (p : Polarity) :
    { d with impulse := none, position := (d.position + 1) % 1440, lastPolarity := p, inFlight := false : Dial }.legal v =
      true := by
  rw [Dial.legal_iff] at h ⊢
  obtain ⟨-, hold, fitted, unset, stopped, -, demand, due⟩ := h
  exact ⟨Nat.mod_lt _ (by decide), hold, fitted, unset, stopped, fun x => absurd x Bool.false_ne_true, demand, due⟩

/-! ## The timekeeper -/

/-- A change of the timekeeper that leaves the clock itself: its counters, the count, the slew and the flag. -/
theorem Timekeeper.Keeps.of_clock {a b : Timekeeper} (guard : guardAdvances a.guard b.guard)
    (missed : a.missedCount ≤ 65535 → b.missedCount ≤ 65535) (counters : b.counters = a.counters)
    (count : b.runCount = a.runCount) (slew : b.slew = a.slew) (valid : b.timeValid = a.timeValid) : a.Keeps b :=
  ⟨guard, missed, fun h => valid ▸ h, fun h => by rwa [counters, count, slew]⟩

/-- One tick of the counting chain. -/
theorem Timekeeper.Keeps.count (a : Timekeeper) (on : Prop) [Decidable on] :
    a.Keeps
      { a with
        counters := if a.counters.stopped then a.counters else a.counters.advance
        slew := if (if a.counters.stopped then a.counters else a.counters.advance).stopped then 0 else slewStep a.slew
        runCount := if on then (a.runCount + 1) % 2 ^ 48 else a.runCount } := by
  refine ⟨.refl _, id, id, fun ⟨legal, count, low, high⟩ => ⟨?_, ?_, ?_⟩⟩
  · dsimp only
    split
    · exact legal
    · rename_i running
      exact (Counters.advance_spec legal (by simpa [Counters.stopped] using running)).1
  · dsimp only
    split
    · exact Nat.mod_lt _ (by decide)
    · exact count
  · dsimp only [slewStep]
    split
    · decide
    · repeat' split
      all_goals omega

namespace State

/-- A guard at a later quarter than its number allows is an advance; EMPTY lies before every quarter (R12). -/
theorem guardAdvances_of_guardNumber {s : State} {q : QuarterInstant} (h : s.guardNumber < q.number) :
    guardAdvances s.tk.guard (some q) :=
  .inr ⟨q, rfl, fun g hg => by simpa [guardNumber, hg] using h⟩

theorem guardAdvances_of_laterThan {g : Option QuarterInstant} {q : QuarterInstant} (h : q.laterThan g = true) :
    guardAdvances g (some q) := by
  refine .inr ⟨q, rfl, fun x hx => ?_⟩
  subst hx
  simpa [QuarterInstant.laterThan] using h

namespace Keeps

variable {s t u : State}

/-! ## Dial trains and the calendar -/

theorem changeDial (h : s.Keeps t) (n : Train) {f : Dial → Dial}
    (hf : (t.dial n).legal t.tk.timeValid = true → (f (t.dial n)).legal t.tk.timeValid = true) :
    s.Keeps (t.changeDial n f) := ite (h.modDial n hf) ((h.modDial n hf).raiseAll _)

theorem evaluateDial (h : s.Keeps t) (n : Train) : s.Keeps (t.evaluateDial n) :=
  h.changeDial n fun legal => Dial.evaluate_legal legal _ _

/-- A train's record changes and is evaluated. -/
theorem modDial_evaluateDial (h : s.Keeps t) (n : Train) {f : Dial → Dial}
    (hf : (t.dial n).legal t.tk.timeValid = true →
      ∀ l now, ((f (t.dial n)).evaluate l t.tk.timeValid now).legal t.tk.timeValid = true) :
    s.Keeps ((t.modDial n f).evaluateDial n) := by
  have both (l : LocalTime) (now : Nat) :
      s.Keeps ((t.modDial n f).modDial n fun d => d.evaluate l t.tk.timeValid now) :=
    h.trans { refl t with
      dials := fun law m => by
        rw [dial_modDial, dial_modDial, dial_modDial]
        split
        · rw [if_pos rfl]
          exact hf (law n) l now
        · exact law m }
  exact ite (both _ _) ((both _ _).raiseAll _)

theorem evaluateDials (h : s.Keeps t) : s.Keeps t.evaluateDials := h.foldl (fun _ n c => c.evaluateDial n) _

theorem dialCatchesUp (h : s.Keeps t) (n : Train) : s.Keeps (t.dialCatchesUp n) :=
  ite (h.changeDial n fun legal => Dial.evaluateCatchUp_legal legal _ _)
    (ite (h.modDial n fun legal => Dial.beginImpulse_legal legal _) h)

theorem dialImpulseEnds (h : s.Keeps t) (n : Train) : s.Keeps (t.dialImpulseEnds n) := by
  refine h.modDial n fun legal => ?_
  split
  · split
    · exact Dial.impulseEnded_legal legal _
    · exact legal
  · exact legal

theorem handOver (h : s.Keeps t) (valid : Option Bool) (quiet : Bool) : s.Keeps (t.handOver valid quiet) := by
  unfold State.handOver
  split
  · exact ((h.chimeHandOver ..).swingHandOver ..).lightHandOver ..
  · exact h

theorem dateChange (h : s.Keeps t) (quiet : Bool) : s.Keeps (t.dateChange quiet) := by
  unfold State.dateChange
  exact h.modCal.handOver ..

theorem rerunChoice (h : s.Keeps t) : s.Keeps t.rerunChoice := by
  unfold State.rerunChoice
  split
  · exact ite (h.modCal.handOver ..) h
  · exact h

/-! ## The timekeeper -/

theorem count (h : s.Keeps t) : s.Keeps t.count := h.modTk (.count ..)

theorem giveHourAhead (h : s.Keeps t) : s.Keeps t.giveHourAhead :=
  ite ((h.modTk (.of_clock (.refl _) id rfl rfl rfl rfl)).chimeAnnounced _) h

theorem withdrawHourAhead (h : s.Keeps t) : s.Keeps t.withdrawHourAhead := by
  unfold State.withdrawHourAhead
  split
  · exact (h.modTk (.of_clock (.refl _) id rfl rfl rfl rfl)).chimeWithdrawn _
  · exact h

theorem recordMissed (h : s.Keeps t) {after : Nat} (later : t.guardNumber ≤ after) : s.Keeps (t.recordMissed after) := by
  unfold State.recordMissed
  dsimp only
  split
  · rename_i passes
    exact (h.modTk (.of_clock (guardAdvances_of_guardNumber (later.trans_lt passes)) (fun _ => Nat.min_le_left _ _) rfl rfl rfl rfl)).raiseAll _
  · exact h

theorem correct (h : s.Keeps t) (before : LocalTime) (record setValid : Bool) : s.Keeps (t.correct before record setValid) := by
  have w := h.withdrawHourAhead
  have r := ite (c := (record && t.withdrawHourAhead.localTime.later before) = true)
    (w.recordMissed (Nat.le_max_left _ before.quarter.number)) w
  have l := r.giveHourAhead.evaluateDials.lightTimeChange before
  exact (ite ((l _).dateChange false) (l _)).raiseAll _

theorem setInForce (h : s.Keeps t) : s.Keeps t.setInForce := h.modTk (.of_clock (.refl _) id rfl rfl rfl rfl)

theorem evaluateDst (h : s.Keeps t) : s.Keeps t.evaluateDst := ite h (h.setInForce.correct ..)

theorem stepTime (h : s.Keeps t) {c : Counters} (legal : c.legal = true) : s.Keeps (t.stepTime c) :=
  (h.modTk (f := fun k => { k with counters := c, divider := 0, slew := 0, timeValid := true })
    ⟨.refl _, id, fun _ => rfl, fun x => ⟨legal, x.2.1, by simp, by simp⟩⟩).setInForce.correct ..

theorem quarterReached (h : s.Keeps t) (x : LocalTime) : s.Keeps (t.quarterReached x) := by
  have c : s.Keeps (t.modTk fun k =>
      { k with hourAhead := if k.hourAhead.any fun h => h.date == x.date && h.hour * 4 == x.quarter.index then none
                            else k.hourAhead }) := h.modTk (.of_clock (.refl _) id rfl rfl rfl rfl)
  unfold State.quarterReached
  dsimp only
  split
  · rename_i later
    rw [Bool.and_eq_true] at later
    exact (c.modTk (.of_clock (guardAdvances_of_laterThan later.2) id rfl rfl rfl rfl)).chimeAnnounced _
  · exact c

theorem minuteReached (h : s.Keeps t) (x : LocalTime) : s.Keeps (t.minuteReached x) := (h.swingMinute ..).lightMinute _

theorem tapsReached (h : s.Keeps t) (x : LocalTime) : s.Keeps (t.tapsReached x) :=
  h.foldl (fun _ p c => ite (c.raise _ p) c) _

theorem boundaries (h : s.Keeps t) : s.Keeps t.boundaries := by
  unfold State.boundaries
  extract_lets now quarter ahead date minute half taps
  have a : s.Keeps quarter := ite (h.quarterReached _) h
  have b : s.Keeps ahead := ite a.giveHourAhead a
  have c : s.Keeps date := ite (b.dateChange _) b
  have d : s.Keeps minute := ite (c.minuteReached _) c
  have e : s.Keeps half := ite d.evaluateDials d
  have f : s.Keeps taps := e.tapsReached _
  exact ite f.evaluateDst f

theorem tick (h : s.Keeps t) : s.Keeps t.tick := ite h.count.boundaries h.count

theorem startStages (h : s.Keeps t) : s.Keeps t.startStages := by
  unfold State.startStages
  extract_lets flag told recorded given
  have a : s.Keeps told := ite h.setInForce (h.setInForce.raiseAll _)
  have b : s.Keeps recorded := ite (a.recordMissed (Nat.le_refl _)) a
  exact (b.giveHourAhead.dateChange true).evaluateDials

end Keeps

end State
end Sys2Proof.Machine
end

section
/-! PROOFS. What the readers of parameters give: the values that a request's fields may take (R182), where a law rests on them. -/

namespace Sys2Proof.Machine

/-- Every value that a reader gives satisfies `P`. -/
def Reads (r : Rd α) (P : α → Prop) : Prop := ∀ l a l', r l = some (a, l') → P a

namespace Reads

variable {α β : Type} {r : Rd α} {P : α → Prop} {Q : β → Prop}

theorem bind {f : α → Rd β} (h : Reads r P) (hf : ∀ a, P a → Reads (f a) Q) : Reads (r >>= f) Q := by
  intro l b l' e
  change (r l).bind (fun x => f x.1 x.2) = some (b, l') at e
  rw [Option.bind_eq_some_iff] at e
  obtain ⟨⟨a, m⟩, e, g⟩ := e
  exact hf a (h l a m e) m b l' g

theorem pure {a : α} (h : P a) : Reads (Pure.pure a : Rd α) P := by
  intro l b l' e
  cases e
  exact h

theorem failure : Reads (Alternative.failure : Rd α) P := fun _ _ _ e => by cases e

/-- A reader of which nothing is asked. -/
theorem any (r : Rd α) : Reads r fun _ => True := fun _ _ _ _ => trivial

theorem ite {c : Prop} [Decidable c] {x y : Rd α} (h : c → Reads x P) (g : ¬c → Reads y P) : Reads (if c then x else y) P := by
  split
  · rename_i k; exact h k
  · rename_i k; exact g k

theorem byte : Reads rByte (· ≤ 255) := by
  intro l a l' e
  cases l with
  | nil => cases e
  | cons b rest =>
    cases e
    have := b.isLt
    omega

theorem guard (ok : Bool) : Reads (rGuard ok) fun _ => ok = true :=
  ite (fun h => pure h) fun _ => failure

theorem within (w lo hi : Nat) : Reads (rIn w lo hi) fun n => lo ≤ n ∧ n ≤ hi :=
  bind (any _) fun n _ => bind (guard _) fun _ h => pure (by simpa using h)

end Reads

/-- What a reader of all the bytes gives. -/
theorem Reads.of_readAll {r : Rd α} {P : α → Prop} (h : Reads r P) {l : List Byte} {a : α} (e : readAll r l = some a) :
    P a := by
  unfold readAll at e
  split at e
  · rename_i b g
    cases e
    exact h _ _ _ g
  · cases e

/-- SET-TIME names a time of the calendar (R4). -/
theorem reads_setTime : Reads rSetTime fun c => c.legal = true :=
  .bind (.within 1 19 29) fun century hc => .bind (.within 1 0 99) fun year hy => .bind (.within 1 1 12) fun month hm =>
  .bind .byte fun day _ => .bind (.guard _) fun _ hd => .bind (.within 1 0 23) fun hour hh =>
  .bind (.within 1 0 59) fun minute hn => .bind (.within 1 0 59) fun second hs => .pure (by
    simp only [Bool.and_eq_true, decide_eq_true_eq] at hd
    rw [Counters.legal_iff, Date.inCalendar_iff]
    simp only [Counters.date]
    exact ⟨⟨hm.1, hm.2, hd.1, hd.2⟩, by omega, by omega, hy.2, hh.2, hn.2, hs.2, by decide⟩)

/-- SET-BELL gives a configuration within R46's ranges. -/
theorem reads_setBell : Reads rSetBell fun x => x.2.legal = true :=
  .bind (.any _) fun _ _ => .bind (.any _) fun _ _ => .bind (.any _) fun _ _ => .bind .byte fun _ lead =>
  .bind (.within _ _ _) fun _ recovery => .bind (.within _ _ _) fun _ w1 => .bind (.within _ _ _) fun _ w2 =>
  .bind (.within _ _ _) fun _ w3 => .bind (.within _ _ _) fun _ w4 => .bind (.within _ _ _) fun _ startLoad =>
  .bind (.within _ _ _) fun _ runLoad => .bind (.within _ _ _) fun _ startTime => .bind (.within _ _ _) fun _ pulse =>
  .bind (.within _ _ _) fun _ settle => .bind (.within _ _ _) fun _ stop => .bind (.within _ _ _) fun _ park => .pure (by
    simp only [BellConfig.legal, List.all_cons, List.all_nil, Bool.and_eq_true, decide_eq_true_eq]
    simp only [lead, recovery, w1, w2, w3, w4, startLoad, runLoad, startTime, pulse, settle, stop, park, and_self])

/-- SET-RIGHTS leaves ADMIN to some port (R174). -/
theorem reads_setRights : Reads rSetRights fun x => ∃ p, x.get p &&& Right.admin.bit ≠ 0 :=
  .bind (.any _) fun v _ => .bind (.any _) fun c _ => .bind (.any _) fun s _ => .bind (.guard _) fun _ h => .pure (by
    by_contra none
    simp only [not_exists, not_not] at none
    have hv := none .v
    have hc := none .c
    have hs := none .s
    simp only [PerPort.get] at hv hc hs
    rw [BitVec.and_or_distrib_right, BitVec.and_or_distrib_right, hv, hc, hs] at h
    exact absurd h (by decide))

/-- SET-DIAL-CONFIG gives a hold limit of at most half a turn (R33). -/
theorem reads_setDialConfig : Reads rSetDialConfig fun x => x.2.hold ≤ 720 :=
  .bind (.any _) fun _ _ => .bind (.any _) fun _ _ => .bind (.any _) fun _ _ => .bind (.any _) fun _ _ =>
  .bind (.within _ _ _) fun _ hold => .bind (.any _) fun _ _ => .pure hold.2

/-- SET-DIAL gives a position of the dial (R42). -/
theorem reads_setDial : Reads rSetDial fun x => x.2.1 < 1440 :=
  .bind (.any _) fun _ _ => .bind (.within _ _ _) fun _ position => .bind (.any _) fun _ _ =>
  .ite (fun _ => .bind (.any _) fun _ _ => .pure (Nat.lt_succ_of_le position.2))
    fun _ => .bind (.any _) fun _ _ => .pure (Nat.lt_succ_of_le position.2)

end Sys2Proof.Machine
end

section
/-! PROOFS. What every command keeps of the laws of the tables: the relation `Lawful` from a state to a later one, weaker than
`Keeps` in that settings may change to legal ones, and that the changes which commands make stay within it. -/

namespace Sys2Proof.Machine

/-- `t` is a state that commands may make of `s`: the guard has not gone back, and each law of the tables that held holds. -/
structure State.Lawful (s t : State) : Prop where
  guard : guardAdvances s.tk.guard t.tk.guard
  flash : s.flashLaw → t.flashLaw
  bounds : s.boundsLaw → t.boundsLaw
  time : s.timeLaw → t.timeLaw
  link : s.linkLaw → t.linkLaw
  config : s.configLaw → t.configLaw
  dials : s.dialLaw → t.dialLaw

/-! ## Records of ports -/

/-- A port's record is legal by its FIFO, its receiver, its waiting frames and its counters alone. -/
theorem PortRec.legal_congr {a b : PortRec} (receiver : a.receiver = b.receiver) (waiting : a.waiting = b.waiting)
    (counters : a.counters = b.counters) : a.legal = b.legal := by
  unfold PortRec.legal PortRec.fifo
  rw [receiver, waiting, counters]

theorem PortRec.legal_iff (r : PortRec) : r.legal = true ↔
    r.fifo ≤ Config.fifo ∧ r.receiver.legal = true ∧ (∀ l ∈ r.waiting, 1 ≤ l.length ∧ l.length ≤ 60) ∧
      r.counters.legal = true := by
  simp [PortRec.legal, and_assoc]

theorem PortRec.atStart_legal (rights : BitVec 10) (mask : BitVec 14) : (PortRec.atStart rights mask).legal = true :=
  (PortRec.legal_congr (b := .atStart 0 0) rfl rfl rfl).trans (by decide)

theorem LinkCounters.count_legal {c : LinkCounters} (h : c.legal = true) (x : LinkError) : (c.count x).legal = true := by
  simp only [LinkCounters.legal, Bool.and_eq_true, decide_eq_true_eq] at h
  obtain ⟨⟨⟨⟨⟨⟨taken, sent⟩, length⟩, check⟩, gaps⟩, framing⟩, overflows⟩ := h
  cases x <;> simp [LinkCounters.count, LinkCounters.legal, bump_le, *]

namespace State.Lawful

variable {s t u : State}

theorem refl (s : State) : s.Lawful s := ⟨.refl _, id, id, id, id, id, id⟩

theorem trans (h : s.Lawful t) (g : t.Lawful u) : s.Lawful u :=
  ⟨h.guard.trans g.guard, fun x => g.flash (h.flash x), fun x => g.bounds (h.bounds x), fun x => g.time (h.time x),
    fun x => g.link (h.link x), fun x => g.config (h.config x), fun x => g.dials (h.dials x)⟩

theorem ite {c : Prop} [Decidable c] (h : s.Lawful t) (g : s.Lawful u) : s.Lawful (if c then t else u) := by
  split <;> assumption

/-- What the shared operations keep is lawful. -/
theorem of_keeps (h : s.Keeps t) : s.Lawful t where
  guard := h.tk.guard
  flash law := by rw [flashLaw, h.store.flash]; exact law
  bounds law := by
    obtain ⟨queue, load, keys, runs, history, refs, missed, overruns, losses⟩ := law
    exact ⟨h.engine.queue queue, h.load.queue load, h.clavier.queue keys, h.swing.runs runs, h.swing.history history,
      h.cal.yearRefs ▸ refs, h.tk.missed missed, h.clavier.overruns overruns, h.engine.losses losses⟩
  time := h.tk.law
  link law := by
    obtain ⟨legal, p, admin⟩ := law
    refine ⟨fun q => ?_, p, ?_⟩
    · have e := h.link.ports q
      have same : (t.port q).legal = (s.port q).legal := by
        change (t.port q).withoutNotices.legal = (s.port q).withoutNotices.legal
        exact congrArg _ e
      exact same ▸ legal q
    · have same := h.link.ports p
      have e : (t.port p).rights = (s.port p).rights := by
        change (t.port p).withoutNotices.rights = (s.port p).withoutNotices.rights
        exact congrArg _ same
      rw [holds, e]
      exact admin
  config law b := by
    change (t.bells.bells.get b).config.legal = true
    rw [h.bells.config b]
    exact law b
  dials := h.dials

/-- A lawful state changed by a shared operation. -/
theorem keeps (h : s.Lawful t) (g : t.Keeps u) : s.Lawful u := h.trans (of_keeps g)

/-! ## The changes of one block -/

theorem modCal (h : s.Lawful t) {f : Calendar → Calendar}
    (hf : t.cal.yearRefs.length ≤ 4 → (f t.cal).yearRefs.length ≤ 4 := by exact id) : s.Lawful (t.modCal f) :=
  h.trans { refl t with
    bounds := fun ⟨queue, load, keys, runs, history, refs, missed, overruns, losses⟩ =>
      ⟨queue, load, keys, runs, history, hf refs, missed, overruns, losses⟩ }

theorem modClaims (h : s.Lawful t) (f : Claims → Claims) : s.Lawful (t.modClaims f) :=
  h.trans { refl t with bounds := id }

theorem modEngine (h : s.Lawful t) {f : Engine → Engine}
    (hf : (f t.engine).queue = t.engine.queue ∧ (f t.engine).losses = t.engine.losses := by exact ⟨rfl, rfl⟩) :
    s.Lawful (t.modEngine f) :=
  h.trans { refl t with
    bounds := fun ⟨queue, load, keys, runs, history, refs, missed, overruns, losses⟩ =>
      ⟨by rw [modEngine_engine, hf.1]; exact queue, load, keys, runs, history, refs, missed, overruns,
        by rw [modEngine_engine, hf.2]; exact losses⟩ }

theorem modClavier (h : s.Lawful t) {f : Clavier → Clavier}
    (queue : t.clavier.queue.length ≤ 8 → (f t.clavier).queue.length ≤ 8 := by exact id)
    (count : (f t.clavier).overruns = t.clavier.overruns := by rfl) : s.Lawful (t.modClavier f) :=
  h.trans { refl t with
    bounds := fun ⟨strikes, load, keys, runs, history, refs, missed, overruns, losses⟩ =>
      ⟨strikes, load, queue keys, runs, history, refs, missed, by rw [modClavier_clavier, count]; exact overruns, losses⟩ }

theorem modLights (h : s.Lawful t) (f : Lights → Lights) : s.Lawful (t.modLights f) :=
  h.trans { refl t with bounds := id }

theorem modCircuit (h : s.Lawful t) (c : Circuit) (f : CircuitRec → CircuitRec) : s.Lawful (t.modCircuit c f) := h.modLights _

theorem modLoad (h : s.Lawful t) {f : Load → Load} (hf : (f t.load).queue = t.load.queue := by rfl) : s.Lawful (t.modLoad f) :=
  h.trans { refl t with
    bounds := fun ⟨queue, load, keys, runs, history, refs, missed, overruns, losses⟩ =>
      ⟨queue, by rw [modLoad_load, hf]; exact load, keys, runs, history, refs, missed, overruns, losses⟩ }

theorem modStore (h : s.Lawful t) {f : Store → Store}
    (hf : flashWf t.store.flash = true → flashWf (f t.store).flash = true := by exact id) : s.Lawful (t.modStore f) :=
  h.trans { refl t with flash := hf }

theorem modBell (h : s.Lawful t) (b : Bell) {f : BellRec → BellRec} (hf : ∀ r, (f r).config.legal = true) :
    s.Lawful (t.modBell b f) :=
  h.trans { refl t with
    config := fun law c => by
      change ((t.modBell b f).bell c).config.legal = true
      rw [bell_modBell]
      split
      · exact hf _
      · exact law c }

/-- The bell table's records change, and no configuration with them. -/
theorem modBells (h : s.Lawful t) {f : BellTable → BellTable}
    (hf : ∀ b, ((f t.bells).bells.get b).config = (t.bells.bells.get b).config) : s.Lawful (t.modBells f) :=
  h.trans { refl t with
    config := fun law b => by
      change ((f t.bells).bells.get b).config.legal = true
      rw [hf]
      exact law b }

/-- A port's record changes to a legal one with the same rights. -/
theorem modPort (h : s.Lawful t) (p : Port) {f : PortRec → PortRec}
    (legal : (t.port p).legal = true → (f (t.port p)).legal = true)
    (rights : (f (t.port p)).rights = (t.port p).rights := by rfl) : s.Lawful (t.modPort p f) :=
  h.trans { refl t with
    link := fun ⟨law, q, admin⟩ => by
      refine ⟨fun k => ?_, q, ?_⟩
      · rw [port_modPort]
        split
        · exact legal (law p)
        · exact law k
      · rw [holds, port_modPort]
        split
        · rename_i e
          subst e
          rw [rights]
          exact admin
        · exact admin }

/-- A port's record changes in what its legality does not rest on. -/
theorem modPortItems (h : s.Lawful t) (p : Port) {f : PortRec → PortRec}
    (hf : ∀ r, (f r).receiver = r.receiver ∧ (f r).waiting = r.waiting ∧ (f r).counters = r.counters ∧ (f r).rights = r.rights
      := by exact fun _ => ⟨rfl, rfl, rfl, rfl⟩) : s.Lawful (t.modPort p f) := by
  obtain ⟨receiver, waiting, counters, rights⟩ := hf (t.port p)
  exact h.modPort p (fun law => (PortRec.legal_congr receiver waiting counters).trans law) rights

/-- The section locks change. -/
theorem modLocks (h : s.Lawful t) (x : BitVec 6 → BitVec 6) : s.Lawful (t.modLink fun l => { l with locks := x l.locks }) :=
  h.trans { refl t with link := fun ⟨law, q, admin⟩ => ⟨law, q, admin⟩ }

end State.Lawful
end Sys2Proof.Machine
end

section
/-! PROOFS. What the loss of the supply leaves of each block, and that the loss and every start but the cold one are lawful. -/

namespace Sys2Proof.Machine

/-- What is dropped of a legal dial train leaves it legal: it has no impulse and demands none (R34, R39). -/
theorem Dial.dropped_legal {d : Dial} {v : Bool} (h : d.legal v = true) :
    Dial.legal
      { d with
        state := match d.mode with
          | .unset => .unset
          | .stopped => .stopped
          | .running => .inStep
        lag := none, lastStart := none, catchUp := 0, impulse := none, demanded := false, catchUpDue := false } v = true := by
  rw [Dial.legal_iff] at h ⊢
  obtain ⟨position, hold, fitted, -, -, -, -, -⟩ := h
  refine ⟨position, hold, fitted, ?_, ?_, by simp, by simp, by simp⟩ <;> cases d.mode <;> simp

/-- A train with no impulse in flight stays legal where its mark goes (R40). -/
theorem Dial.marked_legal {d : Dial} {v : Bool} (h : d.legal v = true) (free : d.impulse = none) :
    Dial.legal { d with uncertain := d.uncertain || d.inFlight, inFlight := false } v = true := by
  rw [Dial.legal_iff] at h ⊢
  obtain ⟨position, hold, fitted, unset, stopped, -, demand, due⟩ := h
  exact ⟨position, hold, fitted, unset, stopped, by simp [free], demand, due⟩

namespace State

/-! ## What is lost, block by block -/

/-- A cut commit leaves everything but the store. -/
theorem cutCommit_eq (s : State) : s.cutCommit = { s with store := s.cutCommit.store } := by
  unfold cutCommit
  split <;> rfl

/-- A commit that executes is cut: its slot is programmed in part. -/
theorem cutCommit_wf {s : State} (h : flashWf s.store.flash = true) : flashWf s.cutCommit.store.flash = true := by
  unfold cutCommit
  split
  · simp only [modStore_store]
    exact cutSlot_wf _ _ h
  · exact h

/-- Without a commit executing the store stays. -/
theorem cutCommit_of_no_commit {s : State} (h : (s.store.executing.all fun x => !x.1.isCommit) = true) : s.cutCommit = s := by
  unfold cutCommit
  split
  · rename_i e
    simp [e, StoreOp.isCommit] at h
  · rfl

theorem dropVolatile_tk (s : State) : s.dropVolatile.tk =
    { s.tk with runCount := 0, missedCount := 0, lastMissed := none, hourAhead := none
                taps := { v := .off, c := .off, s := .off } } := by
  rw [dropVolatile, cutCommit_eq]; rfl

theorem dropVolatile_cal (s : State) : s.dropVolatile.cal = { s.cal with day := none } := by
  rw [dropVolatile, cutCommit_eq]; rfl

theorem dropVolatile_dials (s : State) : s.dropVolatile.dials = s.dropDials.dials := by
  rw [dropVolatile, cutCommit_eq]; rfl

theorem dropVolatile_bells (s : State) : s.dropVolatile.bells =
    { BellTable.cold with bells := s.bells.bells.map fun r => .atStart r.config } := by
  rw [dropVolatile, cutCommit_eq]; rfl

theorem dropVolatile_claims (s : State) : s.dropVolatile.claims = { Claims.cold with hold := s.claims.hold } := by
  rw [dropVolatile, cutCommit_eq]; rfl

theorem dropVolatile_engine (s : State) : s.dropVolatile.engine = .atStart s.engine.priorities := by
  rw [dropVolatile, cutCommit_eq]; rfl


theorem dropVolatile_clavier (s : State) : s.dropVolatile.clavier =
    .atStart s.clavier.mode s.clavier.cls s.clavier.binding := by
  rw [dropVolatile, cutCommit_eq]; rfl

theorem dropVolatile_swing (s : State) : s.dropVolatile.swing = .atStart := rfl

theorem dropVolatile_lights (s : State) : s.dropVolatile.lights =
    { Lights.cold with
      circuits := s.lights.circuits.map fun r => .atStart r.config
      plans := s.lights.plans, solar := s.lights.solar
      handDate := none, dateSeen := none, timelineDate := none } := by
  rw [dropVolatile, cutCommit_eq]; rfl

theorem dropVolatile_load (s : State) : s.dropVolatile.load = { s.load with queue := [] } := by
  rw [dropVolatile, cutCommit_eq]; rfl

theorem dropVolatile_link (s : State) : s.dropVolatile.link =
    { s.link with ports := s.link.ports.map fun r => .atStart r.rights r.mask } := by
  rw [dropVolatile, cutCommit_eq]; rfl

theorem dropVolatile_store (s : State) : s.dropVolatile.store =
    .atStart s.cutCommit.store.flash s.cutCommit.store.cuts := rfl

theorem dropVolatile_signals (s : State) : s.dropVolatile.signals = [] := rfl

theorem dropVolatile_port (s : State) (p : Port) : s.dropVolatile.port p = .atStart (s.port p).rights (s.port p).mask := by
  rw [port, dropVolatile_link, PerPort.get_map]; rfl

/-- Nothing of a train is in flight once its volatile items are lost. -/
theorem dropVolatile_impulse (s : State) (n : Train) : (s.dropVolatile.dial n).impulse = none := by
  rw [dial, dropVolatile_dials]
  simp [dropDials, modDials]

/-! ## The losses and the starts are lawful -/

theorem dropVolatile_lawful (s : State) : s.Lawful s.dropVolatile where
  guard := .inl (by rw [dropVolatile_tk])
  flash law := cutCommit_wf law
  bounds law := by
    obtain ⟨-, -, -, -, -, refs, -, -, -⟩ := law
    rw [boundsLaw, dropVolatile_engine, dropVolatile_load, dropVolatile_clavier, dropVolatile_swing, dropVolatile_cal,
      dropVolatile_tk]
    exact ⟨Nat.zero_le _, Nat.zero_le _, Nat.zero_le _, Nat.zero_le _, Nat.zero_le _, refs, Nat.zero_le _, Nat.zero_le _,
      fun r => by cases r <;> exact Nat.zero_le _⟩
  time law := by
    obtain ⟨legal, -, low, high⟩ := law
    rw [timeLaw, dropVolatile_tk]
    exact ⟨legal, Nat.two_pow_pos 48, low, high⟩
  link law := by
    obtain ⟨-, p, admin⟩ := law
    refine ⟨fun q => ?_, p, ?_⟩
    · rw [dropVolatile_port]
      exact PortRec.atStart_legal _ _
    · rw [holds, dropVolatile_port]
      exact admin
  config law b := by
    rw [config, bell, dropVolatile_bells]
    simp only [Table.get_map]
    exact law b
  dials law n := by
    rw [dial, dropVolatile_dials, dropVolatile_tk]
    simp only [dropDials, modDials, Table.get_map]
    exact Dial.dropped_legal (law n)

/-- The supply's state is no table. -/
theorem Lawful.power {s t : State} (h : s.Lawful t) (x : Power) : s.Lawful { t with power := x } :=
  h.trans { Lawful.refl t with bounds := id }

theorem mainsFails_lawful (s : State) : s.Lawful s.mainsFails := s.dropVolatile_lawful.power _

theorem supplyLost_lawful (s : State) : s.Lawful s.supplyLost := s.dropVolatile_lawful.power _

/-- The marks are taken where nothing is in flight (R40). -/
theorem Keeps.markUncertain {s t : State} (h : s.Keeps t) (free : ∀ n, (t.dial n).impulse = none) :
    s.Keeps t.markUncertain := by
  have marks : s.Keeps (t.modDials fun x => x.map fun d =>
      { d with uncertain := d.uncertain || d.inFlight, inFlight := false }) :=
    h.trans { Keeps.refl t with
      dials := fun law n => by
        simp only [dial, modDials_dials, Table.get_map, modDials_tk]
        exact Dial.marked_legal (law n) (free n) }
  unfold State.markUncertain
  exact ite (marks.raiseAll _) marks

/-- What a start makes of the state once the volatile items are lost: its notices, marks and stages. -/
theorem start_keeps (s : State) (mains : Bool) : { s.dropVolatile with power := .on }.Keeps (s.start mains) := by
  have claim := (Keeps.refl { s.dropVolatile with power := .on }).raiseAll .claim
  have noticed : Keeps { s.dropVolatile with power := .on } _ := Keeps.ite (c := mains = true) (claim.raiseAll .mains) claim
  exact (noticed.markUncertain fun n => by
    split <;> exact s.dropVolatile_impulse n).startStages.settle

theorem start_lawful (s : State) (mains : Bool) : s.Lawful (s.start mains) :=
  (s.dropVolatile_lawful.power .on).keeps (s.start_keeps mains)

theorem warmStarts_lawful (s : State) : s.Lawful s.warmStarts := .ite (.refl s) (s.start_lawful true)

theorem resets_lawful (s : State) : s.Lawful s.resets :=
  .ite (((Lawful.refl s).modLocks fun _ => 0).trans (start_lawful _ false)) (.refl s)

/-- The responses that go on over a start are no part of a port's legality (R177). -/
theorem Lawful.keepSending {s t : State} (h : s.Lawful t) (old : State) : s.Lawful (keepSending old t) := by
  simp only [State.keepSending, List.foldl]
  exact ((h.modPortItems .v).modPortItems .c).modPortItems .s

/-- A scan of the bells changes no configuration. -/
theorem sample_config (t : BellTable) (matrix : BitVec 96) (lockout mains : Bool) (b : Bell) :
    ((t.sample matrix lockout mains).bells.get b).config = (t.bells.get b).config := by
  simp [BellTable.sample, BellRec.sample, Table.get]

theorem scanWorking_lawful (s : State) (matrix : BitVec 96) (lockout mains : Bool) :
    s.Lawful (s.scanWorking matrix lockout mains) := by
  have scanned := (Lawful.refl s).modBells (f := fun t => t.sample matrix lockout mains) fun b => sample_config ..
  exact .ite (scanned.trans (mainsFails_lawful _)) (scanned.keeps ((Keeps.refl _).deliverScan _).settle)

theorem scanMains_lawful (s : State) (mains : Bool) : s.Lawful (s.scanMains mains) := by
  have scanned := (Lawful.refl s).modBells (f := fun t => { t with mains := t.mains.sample mains }) fun _ => rfl
  exact .ite (scanned.trans (warmStarts_lawful _)) scanned

end State
end Sys2Proof.Machine
end

section
/-! PROOFS. That the receiver, the taking of a request, its answer, the reads and the parts are lawful (R170 to R173). -/

namespace Sys2Proof.Machine

/-- The fifo of a record whose frame is discarded holds the waiting frames alone. -/
theorem PortRec.discard_legal {r : PortRec} (h : r.legal = true) : PortRec.legal { r with receiver := .hunt } = true := by
  rw [PortRec.legal_iff] at h ⊢
  obtain ⟨fifo, -, waiting, counters⟩ := h
  exact ⟨(Nat.le_add_right _ _).trans fifo, rfl, waiting, counters⟩

/-- The receiver takes a legal state that holds one byte more, where the FIFO has room. -/
theorem PortRec.receive_legal {r : PortRec} {x : Receiver} (h : r.legal = true) (room : r.fifo < Config.fifo)
    (one : x.bytes ≤ r.receiver.bytes + 1) (legal : x.legal = true) : PortRec.legal { r with receiver := x } = true := by
  rw [PortRec.legal_iff] at h ⊢
  obtain ⟨-, -, waiting, counters⟩ := h
  refine ⟨?_, legal, waiting, counters⟩
  simp only [PortRec.fifo] at room ⊢
  omega

/-- A whole frame joins those that wait, where the FIFO has room for its check byte. -/
theorem PortRec.join_legal {r : PortRec} {n : Nat} {l : List Byte} (h : r.legal = true) (room : r.fifo < Config.fifo)
    (e : r.receiver = .check n l) : PortRec.legal { r with receiver := .hunt, waiting := r.waiting ++ [l] } = true := by
  rw [PortRec.legal_iff, e] at h
  rw [PortRec.legal_iff]
  obtain ⟨-, receiver, waiting, counters⟩ := h
  simp only [Receiver.legal, Bool.and_eq_true, decide_eq_true_eq, beq_iff_eq] at receiver
  refine ⟨?_, rfl, fun x hx => ?_, counters⟩
  · simp only [PortRec.fifo, e, Receiver.bytes, List.map_append, List.sum_append, List.map_cons, List.map_nil, List.sum_cons,
      List.sum_nil] at room ⊢
    omega
  · rcases List.mem_append.mp hx with hx | hx
    · exact waiting x hx
    · rw [List.mem_singleton.mp hx]
      omega

/-- The oldest frame leaves the FIFO, and is counted. -/
theorem PortRec.take_legal {r : PortRec} (h : r.legal = true) :
    PortRec.legal
      { r with waiting := r.waiting.tail, counters := { r.counters with taken := bump r.counters.taken } } = true := by
  rw [PortRec.legal_iff] at h ⊢
  obtain ⟨fifo, receiver, waiting, counters⟩ := h
  refine ⟨le_trans ?_ fifo, receiver, fun l hl => waiting l (List.mem_of_mem_tail hl), ?_⟩
  · simp only [PortRec.fifo]
    cases r.waiting with
    | nil => exact le_refl _
    | cons l rest =>
      simp only [List.tail_cons, List.map_cons, List.sum_cons]
      omega
  · simp only [LinkCounters.legal, Bool.and_eq_true, decide_eq_true_eq] at counters ⊢
    obtain ⟨⟨⟨⟨⟨⟨taken, sent⟩, length⟩, check⟩, gaps⟩, framing⟩, overflows⟩ := counters
    exact ⟨⟨⟨⟨⟨⟨bump_le taken, sent⟩, length⟩, check⟩, gaps⟩, framing⟩, overflows⟩

/-- A response that has gone is counted. -/
theorem PortRec.sent_legal {r : PortRec} (h : r.legal = true) :
    PortRec.legal { r with response := none, restart := false, counters :=
      { r.counters with sent := bump r.counters.sent } } = true := by
  rw [PortRec.legal_iff] at h ⊢
  obtain ⟨fifo, receiver, waiting, counters⟩ := h
  refine ⟨fifo, receiver, waiting, ?_⟩
  simp only [LinkCounters.legal, Bool.and_eq_true, decide_eq_true_eq] at counters ⊢
  obtain ⟨⟨⟨⟨⟨⟨taken, sent⟩, length⟩, check⟩, gaps⟩, framing⟩, overflows⟩ := counters
  exact ⟨⟨⟨⟨⟨⟨taken, bump_le sent⟩, length⟩, check⟩, gaps⟩, framing⟩, overflows⟩

namespace State.Lawful

variable {s t : State}

/-! ## Receiving -/

theorem linkError (h : s.Lawful t) (p : Port) (x : LinkError) : s.Lawful (t.linkError p x) :=
  ite ((h.modPort p fun law => by
    rw [PortRec.legal_iff] at law ⊢
    obtain ⟨fifo, receiver, waiting, counters⟩ := law
    exact ⟨fifo, receiver, waiting, LinkCounters.count_legal counters x⟩).keeps ((Keeps.refl _).raise .link p)) h

theorem discardFrame (h : s.Lawful t) (p : Port) (x : LinkError) : s.Lawful (t.discardFrame p x) :=
  (h.modPort p PortRec.discard_legal).linkError p x

theorem readByte (h : s.Lawful t) (p : Port) (b : Byte) (room : (t.port p).fifo < Config.fifo) : s.Lawful (t.readByte p b) := by
  have receive (x : Receiver) (one : x.bytes ≤ (t.port p).receiver.bytes + 1)
      (legal : (t.port p).receiver.legal = true → x.legal = true) : s.Lawful (t.receive p x) :=
    h.modPort p fun law => PortRec.receive_legal law room one (legal ((PortRec.legal_iff _).mp law).2.1)
  unfold State.readByte
  split
  next e => exact ite (receive _ (by simp [e, Receiver.bytes]) fun _ => rfl) h
  next e =>
    split
    · rename_i range
      exact receive _ (by simp [e, Receiver.bytes]) fun _ => by simp [Receiver.legal]; omega
    · exact h.discardFrame p _
  next n l e =>
    rw [e] at receive
    refine receive _ (by split <;> simp [Receiver.bytes] <;> omega) fun law => ?_
    simp only [Receiver.legal, Bool.and_eq_true, decide_eq_true_eq] at law
    split <;> simp [Receiver.legal] <;> omega
  next n l e => exact ite (h.modPort p fun law => PortRec.join_legal law room e) (h.discardFrame p _)

theorem byteArrives (h : s.Lawful t) (p : Port) (b : Byte) (stopBit : Bool) : s.Lawful (t.byteArrives p b stopBit) := by
  unfold State.byteArrives
  split
  · exact h.discardFrame p _
  · split
    · exact h.discardFrame p _
    · rename_i room
      exact h.readByte p b (Nat.lt_of_not_le room)

theorem gap (h : s.Lawful t) (p : Port) : s.Lawful (t.gap p) := ite h (h.discardFrame p _)

/-! ## Requests -/

theorem takeFrame (h : s.Lawful t) (p : Port) (parts snapshot : Bool) : s.Lawful (t.takeFrame p parts snapshot) :=
  h.modPort p fun law => (PortRec.legal_congr rfl rfl rfl).trans (PortRec.take_legal law)

theorem respond (p : Port) (code : Byte) {a : Answer} (h : s.Lawful a.state) : s.Lawful (State.respond p code a) :=
  h.modPortItems p

/-- A request is lawful where its owner is. -/
theorem request (s : State) (p : Port) (code : Byte) (params : List Byte) {owner : State → Answer}
    (ho : ∀ u : State, u.Lawful (owner u).state) : s.Lawful (s.request p code params owner) := by
  have taken := (refl s).takeFrame p false false
  unfold State.request
  dsimp only
  split
  · split
    · exact respond p code taken
    · exact respond p code (taken.trans (ho _))
  · exact refl s

/-- An owner whose parameters are read is lawful where it is for every value that they may give. -/
theorem parsed {r : Rd α} {params : List Byte} {owner : α → State → Answer} {P : α → Prop} (hr : Reads r P)
    (ho : ∀ a, P a → ∀ u : State, u.Lawful (owner a u).state) (u : State) : u.Lawful (State.parsed r params owner u).state := by
  unfold State.parsed
  split
  · rename_i a e
    exact ho a (hr.of_readAll e) u
  · exact refl u

/-- A request whose parameters a reader reads is lawful where its owner is for every value that they may give. -/
theorem requestReads (s : State) (p : Port) (code : Byte) (params : List Byte) {r : Rd α} {owner : α → State → Answer}
    {P : α → Prop} (hr : Reads r P) (ho : ∀ a, P a → ∀ u : State, u.Lawful (owner a u).state) :
    s.Lawful (s.request p code params (State.parsed r params owner)) :=
  request s p code params (parsed hr ho)

/-- A request whose owner is lawful on all values. -/
theorem requestAny (s : State) (p : Port) (code : Byte) (params : List Byte) (r : Rd α) {owner : α → State → Answer}
    (ho : ∀ a (u : State), u.Lawful (owner a u).state) :
    s.Lawful (s.request p code params (State.parsed r params owner)) :=
  requestReads s p code params (Reads.any r) fun a _ => ho a

/-- A request whose owner goes by the shared operations. -/
theorem requestKeeps (s : State) (p : Port) (code : Byte) (params : List Byte) (r : Rd α) {owner : α → State → Answer}
    (ho : ∀ a (u : State), u.Keeps (owner a u).state) :
    s.Lawful (s.request p code params (State.parsed r params owner)) :=
  requestAny s p code params r fun a u => of_keeps (ho a u)

theorem taken (h : s.Lawful t) (p : Port) (code : Byte) (payload : List Byte) : s.Lawful (t.taken p code payload).state :=
  h.modPortItems p (f := fun r => { r with outstanding := some code })

theorem complete (h : s.Lawful t) (p : Port) (code : Byte) (x : Status) (payload : List Byte) :
    s.Lawful (t.complete p code x payload) :=
  (h.modPortItems p).keeps ((Keeps.refl _).raise .done p)

/-! ## Reads and parts -/

theorem laterPage (u : State) (p : Port) (code : Byte) (params : List Byte) : u.Lawful (u.laterPage p code params).state := by
  unfold State.laterPage
  split
  · split
    · split <;> exact refl u
    · exact refl u
  · exact refl u

/-- A read is lawful where what it leaves is. -/
theorem read (s : State) (p : Port) (code : Byte) (params : List Byte) (data : State → Option (List Byte))
    {after : State → State} (ha : ∀ u : State, u.Lawful (after u) := by exact refl) :
    s.Lawful (s.read p code params data after) := by
  unfold State.read
  extract_lets later
  split
  · have taken := (refl s).takeFrame p false (later && s.holdsSnapshot p code (readArgs params))
    split
    · exact respond p code taken
    · split
      · exact respond p code (taken.trans (laterPage ..))
      · split
        · rename_i l _
          exact respond p code ((taken.trans (ha _)).modPortItems p (f := fun r =>
            { r with snapshot := some { code := code, args := readArgs params, data := l } }))
        · exact respond p code taken
  · exact refl s

/-- A part is lawful where the owner of the whole request is. -/
theorem part (s : State) (p : Port) (code : Byte) (params : List Byte) {owner : List Byte → State → Answer}
    (ho : ∀ l (u : State), u.Lawful (owner l u).state) : s.Lawful (s.part p code params owner) := by
  have taken := (refl s).takeFrame p true false
  have dropped := taken.modPortItems p (f := fun r => { r with parts := none })
  unfold State.part
  dsimp only
  split
  · split
    · exact respond p code (ite taken dropped)
    · split
      · exact respond p code dropped
      · split
        · exact respond p code (dropped.trans (ho _ _))
        · exact respond p code (taken.modPortItems p (f := fun r => { r with parts := some _ }))
  · exact refl s

/-- The last byte of a response has gone; after RESTART's a start follows (R171, R177). -/
theorem responseGone (s : State) (p : Port) : s.Lawful (s.responseGone p) := by
  have sent := (refl s).modPort p (f := fun r =>
    { r with response := none, restart := false, counters := { r.counters with sent := bump r.counters.sent } })
    PortRec.sent_legal
  unfold State.responseGone
  dsimp only
  split
  · exact ite ((sent.trans (start_lawful _ _)).keepSending _) sent
  · exact refl s

end State.Lawful
end Sys2Proof.Machine
end

section
/-! PROOFS. That the owner of each request is lawful, request by request. -/

namespace Sys2Proof.Machine

theorem insertRef_length (d : Date) (refs : List Date) : (insertRef d refs).length = refs.length + 1 := by
  induction refs with
  | nil => rfl
  | cons r refs ih =>
    unfold insertRef
    split <;> simp [ih]

/-- A year reference added to at most four leaves at most four (R20). -/
theorem addRef_length_le {refs : List Date} (h : refs.length ≤ 4) (d : Date) : (addRef d refs).length ≤ 4 := by
  have others := List.length_filter_le (fun r => r.year != d.year) refs
  simp only [addRef]
  split <;> simp only [insertRef_length, List.length_drop] <;> omega

namespace State

variable {s t : State}

/-! ## Answers -/

@[simp] theorem ok_state (payload : List Byte) (s : State) : (s.ok payload).state = s := rfl

/-! ## The timekeeper and the calendar -/

theorem ownSetTime_keeps (c : Counters) (legal : c.legal = true) (u : State) : u.Keeps (u.ownSetTime c).state := by
  unfold ownSetTime
  dsimp only
  split
  · rename_i slews
    simp only [State.slews, slewLimit, Bool.and_eq_true] at slews
    obtain ⟨⟨-, low⟩, high⟩ := slews
    have low := of_decide_eq_true low
    have high := of_decide_eq_true high
    rw [ok_state]
    refine (Keeps.refl u).modTk ?_
    refine ⟨.refl _, id, id, ?_⟩
    rintro ⟨clock, count, -, -⟩
    exact ⟨clock, count, by dsimp only; omega, by dsimp only; omega⟩
  · exact ((Keeps.refl u).stepTime legal).settle

theorem ownSetDst_keeps (r : DstRule) (u : State) : u.Keeps (u.ownSetDst r).state :=
  ((Keeps.refl u).modTk (.of_clock (.refl _) id rfl rfl rfl rfl)).evaluateDst.settle

theorem ownSetTick_keeps (p : Port) (x : Tap) (u : State) : u.Keeps (u.ownSetTick p x).state := by
  rw [ownSetTick, ok_state]
  refine (Keeps.refl u).modTk ?_
  exact .of_clock (.refl _) id rfl rfl rfl rfl

theorem Lawful.edited (h : s.Lawful t) : s.Lawful t.edited.state := h.keeps (Keeps.refl t).rerunChoice.settle

theorem ownSetYearRef_lawful (d : Date) (u : State) : u.Lawful (u.ownSetYearRef d).state :=
  ((Lawful.refl u).modCal fun refs => addRef_length_le refs d).edited

theorem ownClearYearRef_lawful (y : Nat) (u : State) : u.Lawful (u.ownClearYearRef y).state := by
  unfold ownClearYearRef
  split
  · exact ((Lawful.refl u).modCal fun refs => (List.length_filter_le ..).trans refs).edited
  · exact .refl u

theorem ownSetEntry_lawful (x : EntrySlot × Option Entry) (u : State) : u.Lawful (u.ownSetEntry x).state :=
  (Lawful.refl u).modCal.edited

theorem ownSetProgram_lawful (x : ProgramNo × Program) (u : State) : u.Lawful (u.ownSetProgram x).state :=
  have set := (Lawful.refl u).modCal (f := fun c => { c with programs := c.programs.set x.1 x.2 })
  .ite (set.keeps ((Keeps.refl _).handOver _ _).settle) set

/-! ## The dial trains -/

theorem ownSetDialConfig_keeps (x : Train × DialConfig) (hold : x.2.hold ≤ 720) (u : State) :
    u.Keeps (u.ownSetDialConfig x).state := by
  unfold ownSetDialConfig
  dsimp only
  split
  · split
    · exact .refl u
    · rename_i idle
      refine (Keeps.refl u).changeDial _ fun legal => ?_
      rw [Dial.legal_iff] at legal ⊢
      obtain ⟨position, -, -, -, -, mark, -, -⟩ := legal
      exact ⟨position, hold, .inr rfl, by simp, by simp, mark, by simp, by simp⟩
  · rename_i same
    rw [ne_eq, not_not] at same
    refine (Keeps.refl u).modDial_evaluateDial _ fun legal l now => ?_
    rw [Dial.legal_iff] at legal
    obtain ⟨position, -, fitted, unset, stopped, mark, demand, due⟩ := legal
    by_cases running : (u.dial x.1).mode = .running
    · refine Dial.evaluate_legal_of_running ?_ ?_ ?_ ?_ ?_ _ l now
      · exact running
      · exact position
      · exact hold
      · exact same.trans (fitted.resolve_right (by simp [running]))
      · exact mark
    · unfold Dial.evaluate
      rw [if_pos running, Dial.legal_iff]
      exact ⟨position, hold, fitted.imp_left same.trans, unset, stopped, mark, fun d => absurd (demand d).1 running, due⟩

theorem ownSetDial_keeps (x : Train × Nat × Option Polarity) (position : x.2.1 < 1440) (u : State) :
    u.Keeps (u.ownSetDial x).state := by
  obtain ⟨n, place, polarity⟩ := x
  unfold ownSetDial
  dsimp only at position ⊢
  split
  · exact .refl u
  rename_i fitted
  split
  · exact .refl u
  have set : u.Keeps (u.modDial n fun d =>
      { d with position := place, lastPolarity := polarity.getD d.lastPolarity, uncertain := false }) :=
    (Keeps.refl u).modDial n fun legal => by
      rw [Dial.legal_iff] at legal ⊢
      obtain ⟨-, hold, fitted, unset, stopped, mark, demand, due⟩ := legal
      exact ⟨position, hold, fitted, unset, stopped, mark, demand, due⟩
  rw [ok_state]
  refine Keeps.ite ((set.modDial_evaluateDial n fun legal l now => ?_).raiseAll _) set
  rw [Dial.legal_iff, dial_modDial, if_pos rfl] at legal
  obtain ⟨position, hold, -, -, -, mark, -, -⟩ := legal
  rw [dial_modDial, if_pos rfl]
  refine Dial.evaluate_legal_of_running ?_ ?_ ?_ ?_ ?_ _ l now
  · rfl
  · exact position
  · exact hold
  · simpa using fitted
  · exact mark

theorem ownDialStop_keeps (n : Train) (u : State) : u.Keeps (u.ownDialStop n).state := by
  unfold ownDialStop
  split
  · exact .refl u
  rename_i fitted
  refine Keeps.ite ((Keeps.refl u).changeDial n fun legal => ?_) (.refl u)
  rw [Dial.legal_iff] at legal ⊢
  obtain ⟨position, hold, -, -, -, mark, -, -⟩ := legal
  exact ⟨position, hold, .inl (by simpa using fitted), by simp, by simp, mark, by simp, by simp⟩

theorem ownDialRelease_keeps (n : Train) (u : State) : u.Keeps (u.ownDialRelease n).state := by
  unfold ownDialRelease
  split
  · exact .refl u
  rename_i fitted
  split
  · exact .refl u
  rw [ok_state]
  refine Keeps.ite (((Keeps.refl u).modDial_evaluateDial n fun legal l now => ?_).raiseAll _) ((Keeps.refl u).evaluateDial n)
  rw [Dial.legal_iff] at legal
  obtain ⟨position, hold, -, -, -, mark, -, -⟩ := legal
  refine Dial.evaluate_legal_of_running ?_ ?_ ?_ ?_ ?_ _ l now
  · rfl
  · exact position
  · exact hold
  · simpa using fitted
  · exact mark

/-! ## Bells and claims -/

theorem Keeps.unfitHammer (h : s.Keeps t) (b : Bell) : s.Keeps (t.unfitHammer b) :=
  ((h.setHammer b _ _ _).modBell b).purge _ _

theorem Keeps.fitHammer (h : s.Keeps t) (b : Bell) : s.Keeps (t.fitHammer b) :=
  ite (h.enterParking b) (h.enterUnparking b _)

theorem ownSetBell_lawful (x : Bell × BellConfig) (legal : x.2.legal = true) (u : State) : u.Lawful (u.ownSetBell x).state := by
  obtain ⟨b, c⟩ := x
  unfold ownSetBell
  dsimp only at legal ⊢
  split
  · exact .refl u
  · have set := (Lawful.refl u).modBell b (f := fun r => { r with config := c }) fun _ => legal
    exact set.keeps (Keeps.ite ((Keeps.refl _).unfitHammer b) (Keeps.ite ((Keeps.refl _).fitHammer b) (.refl _))).settle

theorem takeLatches_lawful (u : State) : u.Lawful u.takeLatches := by
  unfold takeLatches
  refine (Lawful.refl u).modBells fun b => ?_
  simp only [Table.get_map]

theorem clearHammer_keeps (b : Bell) (u : State) : u.Keeps (u.clearHammer b).state := by
  have cleared := (Keeps.refl u).modBell b (f := fun r => { r with cause := none })
  unfold clearHammer
  extract_lets r park home answer done
  have answered {t : State} (h : u.Keeps t) : u.Keeps (answer t).state := h.settle
  split
  · exact .refl u
  split
  · exact .refl u
  split
  · exact answered (cleared.enterParked b _)
  split
  · exact answered (cleared.enterParking b)
  split
  · exact answered (cleared.setHammer b _ _ _)
  · exact .refl u

theorem clearSwing_keeps (b : Bell) (u : State) : u.Keeps (u.clearSwing b).state := by
  unfold clearSwing
  split
  · exact .refl u
  split
  · exact .refl u
  · exact (((Keeps.refl u).modSwingRec b _).toSettling b _).settle

theorem ownClearFault_keeps (p : Port) (n : Nat) (right : Right) (params : List Byte) {clear : Bell → State → Answer}
    (h : ∀ b (u : State), u.Keeps (clear b u).state) (u : State) :
    u.Keeps (u.ownClearFault p n right params clear).state := by
  unfold ownClearFault
  split
  · exact .refl u
  split
  · exact .refl u
  split
  · exact h _ u
  · exact .refl u

theorem ownClaim_keeps (p : Port) (x : BellSet × ClaimKind) (u : State) : u.Keeps (u.ownClaim p x).state := by
  unfold ownClaim
  dsimp only
  split
  · exact ((Keeps.refl u).foldl (fun _ b c => c.takeClaim p x.2 b) _).settle
  · exact .refl u

theorem ownRenew_keeps (p : Port) (m : BellSet) (u : State) : u.Keeps (u.ownRenew p m).state :=
  (Keeps.refl u).foldl (fun _ b c => c.setClaim b _) _

theorem ownRelease_keeps (p : Port) (m : BellSet) (u : State) : u.Keeps (u.ownRelease p m).state :=
  ((Keeps.refl u).foldl (fun _ b c => c.giveUpClaim b) _).settle

/-! ## Strikes and players -/

theorem ownTunePlay_lawful (p : Port) (x : PlayRequest) (u : State) : u.Lawful (u.ownTunePlay p x).state := by
  unfold ownTunePlay
  dsimp only
  split
  · exact .refl u
  split
  · exact .refl u
  · exact Lawful.taken (.of_keeps (((Keeps.refl u).modPlayers _).enqueueStoreOp _)) p _ _

theorem ownTuneStop_keeps (u : State) : u.Keeps u.ownTuneStop.state := by
  unfold ownTuneStop
  split
  · exact .refl u
  · exact (Keeps.refl u).stopRequest _
  · exact ((Keeps.refl u).stopRequest _).purge _ _
  · exact ((Keeps.refl u).stopRequest _).purge _ _

theorem ownTollStart_keeps (p : Port) (x : TollRequest) (u : State) : u.Keeps (u.ownTollStart p x).state := by
  simp only [ownTollStart, ok_state]
  exact ((Keeps.refl u).modToll p _).modPlayers _

theorem ownTollStop_keeps (p : Port) (u : State) : u.Keeps (u.ownTollStop p).state := by
  unfold ownTollStop
  split
  · exact ((Keeps.refl u).modToll p _).purge _ _
  · exact .refl u

theorem ownStrike_keeps (p : Port) (x : Bell × Nat) (u : State) : u.Keeps (u.ownStrike p x).state :=
  ((Keeps.refl u).plan _).arbitrate.settle

/-! ## The clavier and the swing controller -/

theorem Lawful.changeMode (h : s.Lawful t) (m : KeyMode) : s.Lawful (t.changeMode m) := ite h h.modClavier

theorem bindClavier_lawful (x : KeyMode × Nat × Option Port) (u : State) : u.Lawful (u.bindClavier x).state := by
  obtain ⟨mode, cls, binding⟩ := x
  have set := ((Lawful.refl u).changeMode mode).modClavier (f := fun c => { c with cls := cls, binding := binding })
  unfold bindClavier
  dsimp only
  split
  · exact .ite (set.keeps ((Keeps.refl _).raise _ _)) set
  · exact set

theorem ownSetClavier_lawful (p : Port) (params : List Byte) (u : State) : u.Lawful (u.ownSetClavier p params).state := by
  unfold ownSetClavier
  dsimp only
  split
  · exact .refl u
  split
  · exact .refl u
  · exact Lawful.parsed (Reads.any _) (fun x _ => bindClavier_lawful x) u

theorem ownReadKeys_lawful (u : State) : u.Lawful u.ownReadKeys.state := by
  simp only [ownReadKeys, ok_state]
  refine (Lawful.refl u).modClavier ?_
  exact fun _ => Nat.zero_le _

theorem startBells_keeps (p : Port) (minutes : Option Nat) (bs : List Bell) {u : State} {yes : List Bell}
    {no : List (Bell × StartRefusal)} (h : s.Keeps u) : s.Keeps (startBells p minutes bs (u, yes, no)).1 := by
  induction bs generalizing u yes no with
  | nil => exact h
  | cons b rest ih =>
    unfold startBells
    split
    · exact ih h
    · exact ih (h.toParking b _ _)

theorem ownSwingStart_keeps (p : Port) (x : BellSet × Option Nat) (u : State) : u.Keeps (u.ownSwingStart p x).state :=
  (startBells_keeps p x.2 (bellsOf x.1) (.refl u)).settle

theorem ownSwingStop_keeps (m : BellSet) (u : State) : u.Keeps (u.ownSwingStop m).state :=
  ((Keeps.refl u).foldl (fun _ b c => c.bringDown b _) _).settle

/-! ## Lights and load -/

theorem ownSetCircuit_lawful (x : Circuit × CircuitConfig) (u : State) : u.Lawful (u.ownSetCircuit x).state := by
  obtain ⟨c, k⟩ := x
  have set := (Lawful.refl u).modCircuit c fun r => { r with config := k }
  have watched : u.Lawful (u.watchReservation c fun v => v.modCircuit c fun r => { r with config := k }) :=
    .ite (set.keeps ((Keeps.refl _).signal _)) set
  unfold ownSetCircuit
  dsimp only
  split
  · exact .refl u
  · exact watched.keeps ((Keeps.refl _).rewant c _ _).settle

theorem ownSetPlan_lawful (x : PlanNo × List PlanStep) (u : State) : u.Lawful (u.ownSetPlan x).state :=
  have set := (Lawful.refl u).modLights fun l => { l with plans := l.plans.set x.1 x.2 }
  .ite (set.keeps ((Keeps.refl _).buildTimeline _).settle) set

theorem ownSetLevel_keeps (p : Port) (x : LevelRequest) (u : State) : u.Keeps (u.ownSetLevel p x).state :=
  ((Keeps.refl u).foldl (fun _ c k => (k.modCircuit c).rewant c _ _) _).settle

theorem ownSetSolar_lawful (x : Table 24 SolarPoint) (u : State) : u.Lawful (u.ownSetSolar x).state :=
  ((Lawful.refl u).modLights fun l => { l with solar := x }).keeps ((Keeps.refl _).buildTimeline _).settle

theorem ownSetLoad_lawful (x : Nat × Nat × Nat) (u : State) : u.Lawful (u.ownSetLoad x).state := by
  obtain ⟨capacity, reserve, wait⟩ := x
  have set := (Lawful.refl u).modLoad (f := fun l => { l with capacity := capacity, reserve := reserve, wait := wait })
  unfold ownSetLoad
  dsimp only
  split
  · exact .refl u
  · exact set.keeps (Keeps.ite ((Keeps.refl _).signal _) (.refl _)).settle

/-! ## The store -/

theorem Keeps.setDirectory (h : s.Keeps t) (x : TuneSlot) (e : DirEntry) : s.Keeps (t.setDirectory x e) := h.modStore

theorem Lawful.readEnds (h : s.Lawful t) (op : StoreOp) (result : Except Status Tune) : s.Lawful (t.readEnds op result) := by
  unfold State.readEnds
  split
  · exact h.keeps ((Keeps.refl t).clockFetchEnds _)
  · split
    · exact (h.complete _ _ _ _).keeps ((Keeps.refl _).playFetched _)
    · exact h
  · exact h.complete _ _ _ _
  · exact h

theorem storeOpEnds_lawful (s : State) (failed : Nat) : s.Lawful (s.storeOpEnds failed) := by
  unfold storeOpEnds
  split
  · refine .ite (.refl s) ?_
    exact ((Lawful.of_keeps ((Keeps.refl s).setDirectory _ _)).readEnds _ _).keeps (Keeps.refl _).nextStoreOp
  · exact .refl s

theorem commitEnds_lawful (s : State) (left : Option (List Byte)) : s.Lawful (s.commitEnds left) := by
  unfold commitEnds
  split
  · refine (Lawful.complete ((Lawful.refl s).modStore ?_) _ _ _ _).keeps ((Keeps.refl _).slotWritten _).nextStoreOp
    exact fun wf => slotProgram_wf _ _ wf
  · exact .refl s

theorem abandons_lawful (s : State) : s.Lawful s.abandons := .ite ((Lawful.refl s).modStore) (.refl s)

theorem ownTuneBegin_lawful (p : Port) (x : Nat × Nat × Policy) (u : State) : u.Lawful (u.ownTuneBegin p x).state := by
  unfold ownTuneBegin
  split
  · exact .refl u
  · simp only [ok_state]
    exact (Lawful.refl u).modStore

theorem ownTuneWrite_lawful (p : Port) (params : List Byte) (u : State) : u.Lawful (u.ownTuneWrite p params).state := by
  unfold ownTuneWrite
  split
  · exact .refl u
  split
  · exact .refl u
  split
  · exact .refl u
  · simp only [ok_state]
    exact (Lawful.refl u).modStore

theorem ownTuneCommit_lawful (p : Port) (x : TuneSlot) (u : State) : u.Lawful (u.ownTuneCommit p x).state := by
  unfold ownTuneCommit
  split
  · exact .refl u
  split
  · exact (((Lawful.refl u).modStore).keeps ((Keeps.refl _).enqueueStoreOp _)).taken p _ _
  · exact .refl u

theorem ownTuneInfo_lawful (p : Port) (x : TuneSlot) (u : State) : u.Lawful (u.ownTuneInfo p x).state :=
  Lawful.taken (.of_keeps ((Keeps.refl u).enqueueStoreOp _)) p _ _

/-! ## Settings and the links -/

theorem ownSetClaimHold_lawful (p : Port) (n : Nat) (u : State) : u.Lawful (u.ownSetClaimHold p n).state := by
  rw [ownSetClaimHold, ok_state]
  exact (Lawful.refl u).modClaims _

theorem ownSetPriority_lawful (x : Priorities) (u : State) : u.Lawful (u.ownSetPriority x).state := by
  rw [ownSetPriority, ok_state]
  exact (Lawful.refl u).modEngine

theorem ownReadNotices_lawful (p : Port) (u : State) : u.Lawful (u.ownReadNotices p).state := by
  rw [ownReadNotices, ok_state]
  exact (Lawful.refl u).modPortItems p

theorem ownSetMask_lawful (p : Port) (m : BitVec 14) (u : State) : u.Lawful (u.ownSetMask p m).state := by
  rw [ownSetMask, ok_state]
  exact (Lawful.refl u).modPortItems p

theorem ownLock_lawful (x : BitVec 6) (u : State) : u.Lawful (u.ownLock x).state := by
  simp only [ownLock, ok_state]
  exact (Lawful.refl u).modLocks (· ||| x)

theorem ownRestart_lawful (p : Port) (u : State) : u.Lawful (u.ownRestart p).state := by
  rw [ownRestart, ok_state]
  exact (Lawful.refl u).modPortItems p

/-- SET-RIGHTS writes the rights of each port, and ADMIN stays with one (R174). -/
theorem ownSetRights_lawful (x : PerPort (BitVec 10)) (admin : ∃ p, x.get p &&& Right.admin.bit ≠ 0) (u : State) :
    u.Lawful (u.ownSetRights x).state := by
  have port (q : Port) : (u.ownSetRights x).state.port q = { u.port q with rights := x.get q } := by cases q <;> rfl
  exact { Lawful.refl u with
    link := fun ⟨law, _⟩ => by
      refine ⟨fun q => ?_, ?_⟩
      · rw [port]
        exact (PortRec.legal_congr rfl rfl rfl).trans (law q)
      · obtain ⟨p, h⟩ := admin
        refine ⟨p, ?_⟩
        rw [holds, port]
        simpa using h
    bounds := id }

end State
end Sys2Proof.Machine
end

section
/-! PROOFS. That every command but a cold start is lawful, and what follows: the law of the guard (O16) and the laws of every
table (O60). -/

namespace Sys2Proof.Machine

namespace State

namespace Keeps

variable {s t : State}

theorem pulseEnds (h : s.Keeps t) (k : HammerSlot) : s.Keeps (t.pulseEnds k) := by
  unfold State.pulseEnds
  split
  · exact ite (((h.modEngine ⟨rfl, id, id⟩).pulseEnded _).arbitrate) h
  · exact h

theorem lateDrops (h : s.Keeps t) : s.Keeps t.lateDrops := by
  unfold State.lateDrops
  split
  · exact h.dropEntry _ _
  · exact h

theorem startEnds (h : s.Keeps t) (b : Bell) : s.Keeps (t.startEnds b) := ite (ite (h.toRinging b) (h.swingFaults b _)) h

theorem pulseMissed (h : s.Keeps t) (b : Bell) : s.Keeps (t.pulseMissed b) := ite (h.swingFaults b _) h

theorem durationEnds (h : s.Keeps t) (b : Bell) : s.Keeps (t.durationEnds b) := ite (h.toStopping b _ _) h

theorem stopTimesOut (h : s.Keeps t) (b : Bell) : s.Keeps (t.stopTimesOut b) := ite (h.swingFaults b _) h

theorem settleEnds (h : s.Keeps t) (b : Bell) : s.Keeps (t.settleEnds b) := ite (h.toIdle b _ _) h

theorem staggerEnds (h : s.Keeps t) : s.Keeps t.staggerEnds := by
  unfold State.staggerEnds
  split
  · exact h.slotNext _
  · exact h

theorem slotEnds (h : s.Keeps t) : s.Keeps t.slotEnds := by
  unfold State.slotEnds
  split
  · exact h.slotRunEnds _
  · exact h

theorem rampMoves (h : s.Keeps t) (c : Circuit) : s.Keeps (t.rampMoves c) :=
  ite (watchReservation (h.modCircuit c (CircuitRec.move_config _))) h

theorem loadWaitExpires (h : s.Keeps t) (b : Bell) : s.Keeps (t.loadWaitExpires b) := by
  unfold State.loadWaitExpires
  split
  · exact ite ((h.giveUp b _).raiseFor _ _) h
  · exact h

end Keeps

namespace Lawful

theorem scan_lawful {s : State} {matrix : BitVec 96} {lockout mains : Bool} :
    s.Lawful (match s.power with
      | .on => s.scanWorking matrix lockout mains
      | .absent => s.scanMains mains
      | .off => s) := by
  split
  · exact s.scanWorking_lawful _ _ _
  · exact s.scanMains_lawful _
  · exact refl s

/-- GET-SENSORS takes the latches, or leaves them. -/
theorem takeOrLeave_lawful {c : Prop} [Decidable c] (u : State) : u.Lawful ((if c then takeLatches else id) u) := by
  split
  · exact u.takeLatches_lawful
  · exact refl u

/-- Every command but a cold start is lawful. -/
theorem exec_next (c : Instr) (s : State) (hc : c ≠ .coldStart) : ∃ t, exec c s = .next t ∧ s.Lawful t :=
  match c with
  | .coldStart => absurd rfl hc
  | .warmStart => ⟨_, rfl, s.warmStarts_lawful⟩
  | .resetInput => ⟨_, rfl, s.resets_lawful⟩
  | .mainsFail => ⟨_, rfl, ite s.mainsFails_lawful (refl s)⟩
  | .lossOfMainSupply => ⟨_, rfl, s.supplyLost_lawful⟩
  | .tickEnd => ⟨_, rfl, of_keeps (Keeps.refl s).tick.settle⟩
  | .sensorScan .. => ⟨_, rfl, scan_lawful ..⟩
  | .clavierScan .. => ⟨_, rfl, ite (of_keeps ((Keeps.refl s).scanClavier _ _).settle) (refl s)⟩
  | .parkTimerExpiry _ => ⟨_, rfl, of_keeps (by split; exacts [((Keeps.refl s).parkTimerExpires _).settle, .refl s])⟩
  | .dialCatchUp _ => ⟨_, rfl, of_keeps (by split; exacts [(Keeps.refl s).dialCatchesUp _, .refl s])⟩
  | .impulseEnd _ => ⟨_, rfl, of_keeps (by split; exacts [(Keeps.refl s).dialImpulseEnds _, .refl s])⟩
  | .entryDue => ⟨_, rfl, of_keeps (Keeps.refl s).arbitrate.settle⟩
  | .waitRecoveryMet => ⟨_, rfl, of_keeps (Keeps.refl s).arbitrate.settle⟩
  | .pulseEnd _ => ⟨_, rfl, of_keeps (by split; exacts [((Keeps.refl s).pulseEnds _).settle, .refl s])⟩
  | .lateDrop => ⟨_, rfl, of_keeps (Keeps.refl s).lateDrops⟩
  | .claimLapse _ => ⟨_, rfl, of_keeps (by split; exacts [((Keeps.refl s).claimLapses _).settle, .refl s])⟩
  | .noteHandOver _ => ⟨_, rfl, of_keeps ((Keeps.refl s).handOverNext _).settle⟩
  | .deferTest => ⟨_, rfl, of_keeps (Keeps.refl s).deferTests.settle⟩
  | .deferExpired => ⟨_, rfl, of_keeps (Keeps.refl s).deferExpires⟩
  | .tollInstant _ => ⟨_, rfl, of_keeps ((Keeps.refl s).tollStrikes _).settle⟩
  | .startEnd _ => ⟨_, rfl, of_keeps (by split; exacts [((Keeps.refl s).startEnds _).settle, .refl s])⟩
  | .pulseDeadline _ => ⟨_, rfl, of_keeps (by split; exacts [((Keeps.refl s).pulseMissed _).settle, .refl s])⟩
  | .durationEnd _ => ⟨_, rfl, of_keeps (by split; exacts [((Keeps.refl s).durationEnds _).settle, .refl s])⟩
  | .quietReached _ => ⟨_, rfl, of_keeps (by split; exacts [((Keeps.refl s).testRest _).settle, .refl s])⟩
  | .stopDeadline _ => ⟨_, rfl, of_keeps (by split; exacts [((Keeps.refl s).stopTimesOut _).settle, .refl s])⟩
  | .settleEnd _ => ⟨_, rfl, of_keeps (by split; exacts [((Keeps.refl s).settleEnds _).settle, .refl s])⟩
  | .staggerEnd => ⟨_, rfl, of_keeps (Keeps.refl s).staggerEnds.settle⟩
  | .slotEnd => ⟨_, rfl, of_keeps (Keeps.refl s).slotEnds.settle⟩
  | .rampMove _ => ⟨_, rfl, of_keeps (by split; exacts [((Keeps.refl s).rampMoves _).settle, .refl s])⟩
  | .loadWaitExpiry _ => ⟨_, rfl, of_keeps (by split; exacts [((Keeps.refl s).loadWaitExpires _).settle, .refl s])⟩
  | .storeOpEnd _ => ⟨_, rfl, s.storeOpEnds_lawful _⟩
  | .commitEnd _ => ⟨_, rfl, s.commitEnds_lawful _⟩
  | .stagingAbandon => ⟨_, rfl, s.abandons_lawful⟩
  | .byteReceived .. => ⟨_, rfl, ite ((refl s).byteArrives _ _ _) (refl s)⟩
  | .gapDiscard _ => ⟨_, rfl, (refl s).gap _⟩
  | .responseSent _ => ⟨_, rfl, responseGone s _⟩
  | .unknownRequest .. => ⟨_, rfl, ite (request s _ _ _ refl) (refl s)⟩
  | .requestPart .. => ⟨_, rfl, ite (part s _ _ _ fun _ => refl) (refl s)⟩
  | .readPage .. => ⟨_, rfl, ite (read s _ _ _ _) (refl s)⟩
  | .readNotices .. => ⟨_, rfl, request s _ _ _ (ownReadNotices_lawful _)⟩
  | .setMask .. => ⟨_, rfl, requestAny s _ _ _ _ (ownSetMask_lawful _)⟩
  | .setRights .. => ⟨_, rfl, requestReads s _ _ _ reads_setRights ownSetRights_lawful⟩
  | .lock .. => ⟨_, rfl, requestAny s _ _ _ _ ownLock_lawful⟩
  | .restart .. => ⟨_, rfl, request s _ _ _ (ownRestart_lawful _)⟩
  | .setTime .. => ⟨_, rfl, requestReads s _ _ _ reads_setTime fun c legal u => of_keeps (ownSetTime_keeps c legal u)⟩
  | .setDst .. => ⟨_, rfl, requestKeeps s _ _ _ _ ownSetDst_keeps⟩
  | .setTick .. => ⟨_, rfl, requestKeeps s _ _ _ _ (ownSetTick_keeps _)⟩
  | .setYearRef .. => ⟨_, rfl, requestAny s _ _ _ _ ownSetYearRef_lawful⟩
  | .clearYearRef .. => ⟨_, rfl, requestAny s _ _ _ _ ownClearYearRef_lawful⟩
  | .setEntry .. => ⟨_, rfl, requestAny s _ _ _ _ ownSetEntry_lawful⟩
  | .setProgram .. => ⟨_, rfl, requestAny s _ _ _ _ ownSetProgram_lawful⟩
  | .setDialConfig .. => ⟨_, rfl, requestReads s _ _ _ reads_setDialConfig fun x hold u => of_keeps (ownSetDialConfig_keeps x hold u)⟩
  | .setDial .. => ⟨_, rfl, requestReads s _ _ _ reads_setDial fun x position u => of_keeps (ownSetDial_keeps x position u)⟩
  | .dialStop .. => ⟨_, rfl, requestKeeps s _ _ _ _ ownDialStop_keeps⟩
  | .dialRelease .. => ⟨_, rfl, requestKeeps s _ _ _ _ ownDialRelease_keeps⟩
  | .setBell .. => ⟨_, rfl, requestReads s _ _ _ reads_setBell ownSetBell_lawful⟩
  | .clearFaultHammer .. => ⟨_, rfl, ite (refl s) (request s _ _ _ fun u => of_keeps (ownClearFault_keeps _ _ _ _ clearHammer_keeps u))⟩
  | .clearFaultSwing .. => ⟨_, rfl, ite (request s _ _ _ fun u => of_keeps (ownClearFault_keeps _ _ _ _ clearSwing_keeps u)) (refl s)⟩
  | .claim .. => ⟨_, rfl, requestKeeps s _ _ _ _ (ownClaim_keeps _)⟩
  | .renew .. => ⟨_, rfl, requestKeeps s _ _ _ _ (ownRenew_keeps _)⟩
  | .release .. => ⟨_, rfl, requestKeeps s _ _ _ _ (ownRelease_keeps _)⟩
  | .setClaimHold .. => ⟨_, rfl, requestAny s _ _ _ _ (ownSetClaimHold_lawful _)⟩
  | .setStrikePriority .. => ⟨_, rfl, requestAny s _ _ _ _ ownSetPriority_lawful⟩
  | .tunePlay .. => ⟨_, rfl, requestAny s _ _ _ _ (ownTunePlay_lawful _)⟩
  | .tuneStop .. => ⟨_, rfl, request s _ _ _ fun u => of_keeps u.ownTuneStop_keeps⟩
  | .tollStart .. => ⟨_, rfl, requestKeeps s _ _ _ _ (ownTollStart_keeps _)⟩
  | .tollStop .. => ⟨_, rfl, request s _ _ _ fun u => of_keeps (ownTollStop_keeps _ u)⟩
  | .strike .. => ⟨_, rfl, requestKeeps s _ _ _ _ (ownStrike_keeps _)⟩
  | .setClavier .. => ⟨_, rfl, request s _ _ _ (ownSetClavier_lawful _ _)⟩
  | .readKeys .. => ⟨_, rfl, request s _ _ _ ownReadKeys_lawful⟩
  | .swingStart .. => ⟨_, rfl, requestKeeps s _ _ _ _ (ownSwingStart_keeps _)⟩
  | .swingStop .. => ⟨_, rfl, requestKeeps s _ _ _ _ ownSwingStop_keeps⟩
  | .setCircuit .. => ⟨_, rfl, requestAny s _ _ _ _ ownSetCircuit_lawful⟩
  | .setPlan .. => ⟨_, rfl, ite (refl s) (part s _ _ _ fun _ => parsed (.any _) fun x _ => ownSetPlan_lawful x)⟩
  | .setLevel .. => ⟨_, rfl, ite (refl s) (requestKeeps s _ _ _ _ (ownSetLevel_keeps _))⟩
  | .setLevelRelease .. => ⟨_, rfl, ite (requestKeeps s _ _ _ _ (ownSetLevel_keeps _)) (refl s)⟩
  | .setSolar .. => ⟨_, rfl, ite (refl s) (part s _ _ _ fun _ => parsed (.any _) fun x _ => ownSetSolar_lawful x)⟩
  | .setLoad .. => ⟨_, rfl, requestAny s _ _ _ _ ownSetLoad_lawful⟩
  | .tuneBegin .. => ⟨_, rfl, requestAny s _ _ _ _ (ownTuneBegin_lawful _)⟩
  | .tuneWrite .. => ⟨_, rfl, request s _ _ _ (ownTuneWrite_lawful _ _)⟩
  | .tuneCommit .. => ⟨_, rfl, requestAny s _ _ _ _ (ownTuneCommit_lawful _)⟩
  | .tuneInfo .. => ⟨_, rfl, requestAny s _ _ _ _ (ownTuneInfo_lawful _)⟩
  | .getLink .. | .getDone .. | .getRights .. | .getTime .. | .getDst .. | .getYearRef ..
  | .getEntry .. | .getEntryMap .. | .getProgram .. | .getDay .. | .calendarQuery .. | .getDials ..
  | .getBellConfig .. | .getBells .. | .getClaims .. | .getStrikes .. | .getCounters .. | .getPlayers ..
  | .getClavier .. | .getSwing .. | .getLights .. | .getLoad .. | .getSolar .. | .getPlan ..
  | .getStore .. =>
    ⟨_, rfl, read s _ _ _ _⟩
  | .getSensors .. => ⟨_, rfl, read s _ _ _ _ takeOrLeave_lawful⟩

theorem of_exec {c : Instr} {s t : State} (hc : c ≠ .coldStart) (h : exec c s = .next t) : s.Lawful t := by
  obtain ⟨u, e, lawful⟩ := exec_next c s hc
  rw [e] at h
  cases h
  exact lawful

end Lawful

theorem exec_coldStart (s : State) : exec .coldStart s = .next s.coldStarts := rfl

/-- A cold start keeps the laws of the tables: it leaves the values of the reset, over a flash that a cut leaves canonical. -/
theorem coldStarts_laws (s : State) :
    (s.flashLaw → s.coldStarts.flashLaw) ∧ s.coldStarts.boundsLaw ∧ s.coldStarts.timeLaw ∧ s.coldStarts.linkLaw ∧
      s.coldStarts.configLaw ∧ s.coldStarts.dialLaw := by
  obtain ⟨bounds, -, time, -, -, -, -, -, -, -, -, dials, link, config⟩ := resetMeetsEveryLaw
  rw [coldStarts_eq]
  exact ⟨fun law => cutCommit_wf law, bounds, time, link, config, dials⟩

end State

/-- Settles O16, by the guard's part of what every command but a cold start keeps. -/
theorem lawOfTheGuard : Obligations.LawOfTheGuard :=
  fun _ _ _ hc h => (State.Lawful.of_exec hc h).guard

/-- Settles O60: a cold start leaves legal values, and every other command is lawful. -/
theorem everyStepKeepsTheTables : Obligations.EveryStepKeepsTheTables := by
  intro s t h
  unfold step at h
  split at h
  · cases h
    exact ⟨id, id, id, id, id, id⟩
  · rename_i c rest e
    by_cases hc : c = .coldStart
    · subst hc
      obtain ⟨flash, bounds, time, link, config, dials⟩ := State.coldStarts_laws { s with pending := rest }
      rw [State.exec_coldStart] at h
      obtain rfl := Host.Outcome.next.inj h
      exact ⟨flash, fun _ => bounds, fun _ => time, fun _ => link, fun _ => config, fun _ => dials⟩
    · have lawful := State.Lawful.of_exec hc h
      exact ⟨lawful.flash, lawful.bounds, lawful.time, lawful.link, lawful.config, lawful.dials⟩

end Sys2Proof.Machine
end

section
/-! PROOFS. What the signals between the blocks, and what the swing controller and the lights do in the same event, leave alone:
the relation `Settles` from a state to a later one. -/

namespace Sys2Proof.Machine

/-- The clock player keeps its program and its held announcements, its quarter run but for the counts, and, where no blow of the
hour is queued, its hour strike; no hour strike begins. -/
structure Players.Settles (silent : Prop) (a b : Players) : Prop where
  program : b.program = a.program
  held : b.held = a.held
  quarter : ∃ counts : QuarterRun → RunCounts, b.quarterRun = a.quarterRun.map fun r => { r with counts := counts r }
  hour : silent → b.hourRun = a.hourRun
  gone : a.hourRun = none → b.hourRun = none

/-- The lighting controller keeps what it was handed over and today's timeline, and takes on no override. -/
structure Lights.Settles (a b : Lights) : Prop where
  handDate : b.handDate = a.handDate
  plan : b.plan = a.plan
  valid : b.valid = a.valid
  dateSeen : b.dateSeen = a.dateSeen
  timelineDate : b.timelineDate = a.timelineDate
  timeline : b.timeline = a.timeline
  override : ∀ c o, (b.circuits.get c).override = some o → (a.circuits.get c).override = some o

/-- The swing controller keeps the day and the minutes handed to it, and every slot run in progress but for what it has done;
`guarded` says that it keeps its slot guard too. -/
structure Swing.Settles (guarded : Prop) (a b : Swing) : Prop where
  day : b.day = a.day
  held : b.held = a.held
  runs : ∀ r ∈ a.runs, ∃ x ∈ b.runs, x.date = r.date ∧ x.number = r.number ∧ x.bells = r.bells ∧ x.start = r.start ∧ x.ends = r.ends
  guard : guarded → b.guard = a.guard

/-- No blow of an hour strike is queued. -/
def State.noBlowQueued (s : State) : Prop := ∀ e ∈ s.engine.queue, e.source ≠ .hour

/-- `t` is a state that the signals of an event may make of `s`: strikes leave the queue only, and none is lost as a silent or
unfetched chime. -/
structure State.Settles (guarded : Prop) (s t : State) : Prop where
  players : s.players.Settles s.noBlowQueued t.players
  queue : t.engine.queue ⊆ s.engine.queue
  silent : t.engine.losses.silent = s.engine.losses.silent
  fetch : t.engine.losses.fetch = s.engine.losses.fetch
  lights : s.lights.Settles t.lights
  swing : s.swing.Settles guarded t.swing

/-! ## A preorder -/

theorem Players.Settles.refl (silent : Prop) (a : Players) : a.Settles silent a :=
  ⟨rfl, rfl, ⟨QuarterRun.counts, by simp⟩, fun _ => rfl, id⟩

theorem Lights.Settles.refl (a : Lights) : a.Settles a := ⟨rfl, rfl, rfl, rfl, rfl, rfl, fun _ _ h => h⟩

theorem Swing.Settles.refl (guarded : Prop) (a : Swing) : a.Settles guarded a :=
  ⟨rfl, rfl, fun r h => ⟨r, h, rfl, rfl, rfl, rfl, rfl⟩, fun _ => rfl⟩

theorem Players.Settles.trans {silent silent' : Prop} {a b c : Players} (h : a.Settles silent b) (g : b.Settles silent' c)
    (hs : silent → silent') : a.Settles silent c where
  program := g.program.trans h.program
  held := g.held.trans h.held
  quarter := by
    obtain ⟨x, hx⟩ := h.quarter
    obtain ⟨y, hy⟩ := g.quarter
    exact ⟨fun r => y { r with counts := x r }, by rw [hy, hx, Option.map_map]; rfl⟩
  hour q := (g.hour (hs q)).trans (h.hour q)
  gone q := g.gone (h.gone q)

theorem Lights.Settles.trans {a b c : Lights} (h : a.Settles b) (g : b.Settles c) : a.Settles c :=
  ⟨g.handDate.trans h.handDate, g.plan.trans h.plan, g.valid.trans h.valid, g.dateSeen.trans h.dateSeen,
    g.timelineDate.trans h.timelineDate, g.timeline.trans h.timeline, fun k o e => h.override k o (g.override k o e)⟩

theorem Swing.Settles.trans {guarded : Prop} {a b c : Swing} (h : a.Settles guarded b) (g : b.Settles guarded c) :
    a.Settles guarded c where
  day := g.day.trans h.day
  held := g.held.trans h.held
  runs r hr := by
    obtain ⟨x, hx, date, number, bells, start, ends⟩ := h.runs r hr
    obtain ⟨y, hy, date', number', bells', start', ends'⟩ := g.runs x hx
    exact ⟨y, hy, date'.trans date, number'.trans number, bells'.trans bells, start'.trans start, ends'.trans ends⟩
  guard q := (g.guard q).trans (h.guard q)

/-! ## Losses -/

theorem Losses.silent_count (l : Losses) {r : DropReason} (h : r ≠ .silent) : (l.count r).silent = l.silent := by
  cases r with
  | silent => exact absurd rfl h
  | _ => rfl

theorem Losses.fetch_count (l : Losses) {r : DropReason} (h : r ≠ .fetch) : (l.count r).fetch = l.fetch := by
  cases r with
  | fetch => exact absurd rfl h
  | _ => rfl

namespace State.Settles

variable {guarded : Prop} {s t u : State}

theorem refl (s : State) : s.Settles guarded s :=
  ⟨.refl _ _, fun _ h => h, rfl, rfl, .refl _, .refl _ _⟩

theorem trans (h : s.Settles guarded t) (g : t.Settles guarded u) : s.Settles guarded u where
  players := h.players.trans g.players fun none e he => none e (h.queue he)
  queue := fun _ he => h.queue (g.queue he)
  silent := g.silent.trans h.silent
  fetch := g.fetch.trans h.fetch
  lights := h.lights.trans g.lights
  swing := h.swing.trans g.swing

theorem ite {c : Prop} [Decidable c] (h : s.Settles guarded t) (g : s.Settles guarded u) :
    s.Settles guarded (if c then t else u) := by
  split <;> assumption

/-- A fold over a list, each of whose elements leaves the relation as it is. -/
theorem foldl {f : State → α → State} {as : List α} (h : s.Settles guarded t)
    (hf : ∀ u, ∀ a ∈ as, s.Settles guarded u → s.Settles guarded (f u a)) : s.Settles guarded (as.foldl f t) := by
  induction as generalizing t with
  | nil => exact h
  | cons a as ih =>
    exact ih (hf t a List.mem_cons_self h) fun u b hb => hf u b (List.mem_cons_of_mem a hb)

/-! ## The changes of one block -/

theorem modBell (h : s.Settles guarded t) (b : Bell) (f : BellRec → BellRec) : s.Settles guarded (t.modBell b f) :=
  h.trans { refl t with silent := rfl }

theorem modPlayers (h : s.Settles guarded t) {f : Players → Players} (hf : t.players.Settles s.noBlowQueued (f t.players)) :
    s.Settles guarded (t.modPlayers f) :=
  { h with players := h.players.trans hf id }

theorem modClavier (h : s.Settles guarded t) (f : Clavier → Clavier) : s.Settles guarded (t.modClavier f) :=
  h.trans { refl t with silent := rfl }

theorem modSwing (h : s.Settles guarded t) {f : Swing → Swing} (hf : t.swing.Settles guarded (f t.swing)) :
    s.Settles guarded (t.modSwing f) :=
  h.trans { refl (guarded := guarded) t with swing := hf }

theorem modSwingRec (h : s.Settles guarded t) (b : Bell) (f : SwingRec → SwingRec) : s.Settles guarded (t.modSwingRec b f) :=
  h.modSwing { Swing.Settles.refl _ _ with day := rfl }

theorem modLights (h : s.Settles guarded t) {f : Lights → Lights} (hf : t.lights.Settles (f t.lights)) :
    s.Settles guarded (t.modLights f) :=
  h.trans { refl t with lights := hf }

/-- A circuit's record changes, its override staying or ending. -/
theorem modCircuit (h : s.Settles guarded t) (c : Circuit) {f : CircuitRec → CircuitRec}
    (hf : ∀ r o, (f r).override = some o → r.override = some o := by exact fun _ _ h => h) :
    s.Settles guarded (t.modCircuit c f) :=
  h.modLights { Lights.Settles.refl _ with
    override := fun d o e => by
      change ((t.modCircuit c f).circuit d).override = some o at e
      change (t.circuit d).override = some o
      rw [circuit_modCircuit] at e
      split at e
      · rename_i same
        exact same ▸ hf _ o e
      · exact e }

theorem modLoad (h : s.Settles guarded t) (f : Load → Load) : s.Settles guarded (t.modLoad f) :=
  h.trans { refl t with silent := rfl }

theorem modPort (h : s.Settles guarded t) (p : Port) (f : PortRec → PortRec) : s.Settles guarded (t.modPort p f) :=
  h.trans { refl t with silent := rfl }

theorem signal (h : s.Settles guarded t) (x : Signal) : s.Settles guarded (t.signal x) := h.trans { refl t with silent := rfl }

theorem takeSignal (h : s.Settles guarded t) (l : List Signal) : s.Settles guarded { t with signals := l } :=
  h.trans { refl t with silent := rfl }

theorem raise (h : s.Settles guarded t) (k : NoticeKind) (p : Port) : s.Settles guarded (t.raise k p) := h.modPort ..

theorem raiseAll (h : s.Settles guarded t) (k : NoticeKind) : s.Settles guarded (t.raiseAll k) :=
  ((h.raise k .v).raise k .c).raise k .s

theorem raiseFor (h : s.Settles guarded t) (k : NoticeKind) (p : Option Port) : s.Settles guarded (t.raiseFor k p) := by
  cases p with
  | none => exact h.raiseAll k
  | some p => exact h.raise k p

/-! ## Hammers -/

theorem setHammer (h : s.Settles guarded t) (b : Bell) (x : Hammer) (timer : Option Nat) (quiet : Bool) :
    s.Settles guarded (t.setHammer b x timer quiet) := by
  unfold State.setHammer
  exact (ite (h.modBell b _) ((h.modBell b _).raiseAll _)).signal _

theorem faultHammer (h : s.Settles guarded t) (b : Bell) (x : HammerCause) (quiet : Bool) :
    s.Settles guarded (t.faultHammer b x quiet) := ((h.setHammer b .fault none quiet).modBell b _).raiseAll _

theorem enterUnparking (h : s.Settles guarded t) (b : Bell) (quiet : Bool) : s.Settles guarded (t.enterUnparking b quiet) :=
  ite (h.faultHammer ..) (ite (h.setHammer ..) (h.setHammer ..))

theorem enterParked (h : s.Settles guarded t) (b : Bell) (quiet : Bool) : s.Settles guarded (t.enterParked b quiet) :=
  have c := h.setHammer b .parked none quiet
  ite (h.faultHammer ..) (ite (c.enterUnparking ..) c)

theorem enterParking (h : s.Settles guarded t) (b : Bell) : s.Settles guarded (t.enterParking b) :=
  ite (h.faultHammer ..) (ite (h.enterParked ..) (h.setHammer ..))

theorem changeDemands (h : s.Settles guarded t) (b : Bell) (f : Demands → Demands) : s.Settles guarded (t.changeDemands b f) := by
  have c := h.modBell b fun r => { r with demands := f r.demands }
  unfold State.changeDemands
  dsimp only
  split
  · exact ite c (c.enterParking b)
  · exact c.enterParking b
  · exact ite (c.enterUnparking b false) c
  · exact c

/-! ## Strikes that are dropped -/

/-- A loss that is neither a silent nor an unfetched chime. -/
theorem lose (h : s.Settles guarded t) (r : DropReason) (silent : r ≠ .silent) (fetch : r ≠ .fetch) :
    s.Settles guarded (t.lose r) := by
  have counted : s.Settles guarded (t.modEngine fun e => { e with losses := e.losses.count r }) :=
    h.trans { refl t with
      silent := Losses.silent_count _ silent
      fetch := Losses.fetch_count _ fetch }
  exact ite (counted.raiseAll _) h

theorem hourOutcome (h : s.Settles guarded t) (id index : Nat) (o : EndOutcome) (queued : ¬s.noBlowQueued) :
    s.Settles guarded (t.hourOutcome id index o) := by
  unfold State.hourOutcome
  split
  · rename_i run
    have change (f : Players → Players) (program : (f t.players).program = t.players.program)
        (held : (f t.players).held = t.players.held) (quarter : (f t.players).quarterRun = t.players.quarterRun) :
        s.Settles guarded (t.modPlayers f) :=
      h.modPlayers ⟨program, held, ⟨QuarterRun.counts, by simp [quarter]⟩, fun none => absurd none queued,
        fun none => by rw [run] at none; cases none⟩
    refine ite ?_ h
    dsimp only
    split
    · exact change _ rfl rfl rfl
    · exact ite (change _ rfl rfl rfl) (ite (change _ rfl rfl rfl) (change _ rfl rfl rfl))
  · exact h

theorem quarterOutcome (h : s.Settles guarded t) (id : Nat) (o : EndOutcome) : s.Settles guarded (t.quarterOutcome id o) :=
  h.modPlayers ⟨rfl, rfl, ⟨fun r => if r.id = id then r.counts.outcome o else r.counts, by
    dsimp only
    congr 1
    funext r
    split <;> rfl⟩, fun _ => rfl, fun none => none⟩

/-- The request player and the tolls are no part of what is kept. -/
theorem modRequestPlayer (h : s.Settles guarded t) {f : Players → Players} (program : (f t.players).program = t.players.program)
    (held : (f t.players).held = t.players.held) (quarter : (f t.players).quarterRun = t.players.quarterRun)
    (hour : (f t.players).hourRun = t.players.hourRun) : s.Settles guarded (t.modPlayers f) :=
  h.modPlayers ⟨program, held, ⟨QuarterRun.counts, by simp [quarter]⟩, fun _ => hour, hour.trans⟩

theorem completeRequest (h : s.Settles guarded t) : s.Settles guarded t.completeRequest := by
  have finish : s.Settles guarded (t.finishRequest .complete) := by
    unfold State.finishRequest
    split
    · exact (h.modRequestPlayer rfl rfl rfl rfl).raise ..
    · exact h
  unfold State.completeRequest
  split
  · exact ite finish h
  · exact h

theorem tuneOutcome (h : s.Settles guarded t) (id : Nat) (o : EndOutcome) : s.Settles guarded (t.tuneOutcome id o) := by
  unfold State.tuneOutcome
  split
  · exact ite (completeRequest (h.modRequestPlayer rfl rfl rfl rfl)) h
  · exact h

theorem modToll (h : s.Settles guarded t) (p : Port) (f : Option TollRun → Option TollRun) : s.Settles guarded (t.modToll p f) :=
  h.modRequestPlayer rfl rfl rfl rfl

theorem tollOutcome (h : s.Settles guarded t) (p : Port) (id : Nat) (o : EndOutcome) :
    s.Settles guarded (t.tollOutcome p id o) := by
  have complete {v : State} (h : s.Settles guarded v) : s.Settles guarded (v.completeToll p) := by
    unfold State.completeToll
    split
    · exact ite ((h.modToll ..).raise ..) h
    · exact h
  unfold State.tollOutcome
  split
  · exact ite (complete (h.modToll ..)) h
  · exact h

/-- The end outcome of an entry that was queued. -/
theorem endOutcome (h : s.Settles guarded t) {e : QueueEntry} (he : e ∈ s.engine.queue) (o : EndOutcome) :
    s.Settles guarded (t.endOutcome e o) := by
  unfold State.endOutcome
  split
  · exact h.quarterOutcome ..
  · rename_i source _
    exact h.hourOutcome _ _ _ fun none => none e he source
  · exact h.tuneOutcome ..
  · exact h.tollOutcome ..
  · exact h.modClavier _
  · exact h

/-- The entries of a bell leave the queue where its swing or its claim takes it. -/
theorem purge (h : s.Settles guarded t) (f : QueueEntry → Bool) (r : DropReason) (silent : r ≠ .silent) (fetch : r ≠ .fetch) :
    s.Settles guarded (t.purge f r) := by
  refine h.foldl fun u e he g => ?_
  have queued : e ∈ s.engine.queue := h.queue (List.mem_filter.mp he).1
  have erased : s.Settles guarded (u.modEngine fun g => { g with queue := g.queue.erase e }) :=
    g.trans { refl u with queue := fun _ hx => List.mem_of_mem_erase hx }
  exact (erased.lose r silent fetch).endOutcome queued _

/-! ## The tower load and the lights -/

theorem watchReservation {c : Circuit} {f : State → State} (h : s.Settles guarded (f t)) :
    s.Settles guarded (t.watchReservation c f) := ite (h.signal _) h

theorem grantCircuit (h : s.Settles guarded t) (c : Circuit) (time : Nat) (before quiet : Bool) :
    s.Settles guarded (t.grantCircuit c time before quiet) :=
  have g := ite h (watchReservation (h.modCircuit c fun r o e => by
    unfold CircuitRec.retarget at e
    split at e <;> exact e))
  ite (g.raiseAll _) g

theorem rewant (h : s.Settles guarded t) (c : Circuit) (time : Nat) (quiet : Bool) : s.Settles guarded (t.rewant c time quiet) :=
  ite h ((h.modCircuit c).grantCircuit ..)

theorem shedFor (h : s.Settles guarded t) (cs : List Circuit) (d : Nat) : s.Settles guarded (t.shedFor cs d) := by
  induction cs generalizing t d with
  | nil => exact h
  | cons c cs ih => exact ite h (ite (ih h _) (ih ((h.modCircuit c).raiseAll _) _))

theorem makeRoom (h : s.Settles guarded t) {need : Nat} (e : t.makeRoom need = some u) : s.Settles guarded u := by
  unfold State.makeRoom at e
  dsimp only at e
  split at e
  · exact Option.some.inj e ▸ h
  · split at e
    · exact Option.some.inj e ▸ h.shedFor ..
    · cases e

theorem restoreLights (h : s.Settles guarded t) : s.Settles guarded t.restoreLights :=
  ite (h.foldl fun _ c _ k => (ite ((k.modCircuit c).raiseAll _) k).grantCircuit ..) h

theorem leaveLoadQueue (h : s.Settles guarded t) (b : Bell) : s.Settles guarded (t.leaveLoadQueue b) :=
  have c := h.modLoad fun l => { l with queue := l.queue.filter fun e => e.bell != b }
  ite (c.signal _) c

theorem endOverride (h : s.Settles guarded t) (c : Circuit) (time : Nat) : s.Settles guarded (t.endOverride c time) := by
  unfold State.endOverride
  split
  · exact ((h.modCircuit c fun _ _ e => by cases e).raiseAll _).rewant ..
  · exact h.rewant ..

theorem takeStep (h : s.Settles guarded t) (x : PlanStep) (time : Nat) : s.Settles guarded (t.takeStep x time) :=
  h.foldl fun _ c _ k => (k.modCircuit c).endOverride ..

theorem takeRingSteps (h : s.Settles guarded t) (starts : Bool) : s.Settles guarded (t.takeRingSteps starts) :=
  h.foldl fun _ _ _ k => k.takeStep ..

theorem endOverrides (h : s.Settles guarded t) (ends : Nat → Bool) : s.Settles guarded (t.endOverrides ends) :=
  h.foldl fun _ c _ k => ite (k.endOverride c 0) k

/-! ## The swing states -/

theorem ringCrossing (h : s.Settles guarded t) (before : Nat) : s.Settles guarded (t.ringCrossing before) :=
  ite (h.takeRingSteps true) (ite (h.takeRingSteps false) h)

/-- Each slot run changes in what it has done only. -/
theorem modRuns (h : s.Settles guarded t) (f : SlotRun → SlotRun)
    (hf : ∀ r, (f r).date = r.date ∧ (f r).number = r.number ∧ (f r).bells = r.bells ∧ (f r).start = r.start ∧
      (f r).ends = r.ends) : s.Settles guarded (t.modSwing fun w => { w with runs := w.runs.map f }) :=
  h.modSwing { Swing.Settles.refl _ _ with runs := fun r hr => ⟨f r, List.mem_map_of_mem hr, hf r⟩ }

theorem modRun (h : s.Settles guarded t) (id : Nat) (f : SlotRun → SlotRun)
    (hf : ∀ r, (f r).date = r.date ∧ (f r).number = r.number ∧ (f r).bells = r.bells ∧ (f r).start = r.start ∧
      (f r).ends = r.ends := by exact fun _ => ⟨rfl, rfl, rfl, rfl, rfl⟩) : s.Settles guarded (t.modRun id f) :=
  h.modRuns _ fun r => by
    split
    · exact hf r
    · exact ⟨rfl, rfl, rfl, rfl, rfl⟩

theorem slotRunHears (h : s.Settles guarded t) (b : Bell) (x : SwingState) : s.Settles guarded (t.slotRunHears b x) := by
  unfold State.slotRunHears
  split
  · rename_i r _
    have stops := h.modRun r.id fun q => { q with waiting := none }
    dsimp only
    split
    · exact ite (stops.signal _) (h.modRun r.id _)
    · exact stops.signal _
    · exact stops.signal _
    · exact h
  · exact h

theorem setSwing (h : s.Settles guarded t) (b : Bell) (f : SwingRec → SwingRec) (quiet : Bool) :
    s.Settles guarded (t.setSwing b f quiet) := by
  have c := h.modSwingRec b f
  have d := (ite (c := quiet = true) c (c.raiseAll .bell)).changeDemands b fun d =>
    { d with swing := ((t.modSwingRec b f).swingState b).demandsPark, start := d.start && (t.modSwingRec b f).swingState b != .idle }
  unfold State.setSwing
  exact ((ite ((d.modBell b _).signal _) (d.modBell b _)).ringCrossing _).slotRunHears ..

theorem toStarting (h : s.Settles guarded t) (b : Bell) : s.Settles guarded (t.toStarting b) := h.setSwing ..

theorem toIdle (h : s.Settles guarded t) (b : Bell) (cause : Option SwingCause) (quiet : Bool) :
    s.Settles guarded (t.toIdle b cause quiet) := h.setSwing ..

theorem swingFaults (h : s.Settles guarded t) (b : Bell) (cause : SwingFault) : s.Settles guarded (t.swingFaults b cause) :=
  ((h.leaveLoadQueue b).setSwing ..).raiseAll _

theorem toParking (h : s.Settles guarded t) (b : Bell) (origin : Origin) (minutes : Option Nat) :
    s.Settles guarded (t.toParking b origin minutes) := by
  have c := (h.setSwing b (fun r =>
    { r with state := .parking, origin := some origin, minutes := minutes, durationEnd := none, timer := none
             lastCause := none }) false).purge (fun e => e.bell == b) .interlock (by decide) (by decide)
  exact ite (c.signal _) c

theorem joinLoadQueue (h : s.Settles guarded t) (b : Bell) : s.Settles guarded (t.joinLoadQueue b) :=
  ite ((h.toIdle ..).raiseFor ..) (h.modLoad _)

theorem toWaitLoad (h : s.Settles guarded t) (b : Bell) : s.Settles guarded (t.toWaitLoad b) := by
  have c := h.setSwing b (fun r => { r with state := .waitLoad }) false
  unfold State.toWaitLoad
  dsimp only
  split
  · split
    · rename_i e
      exact (c.makeRoom e).toStarting b
    · exact c.joinLoadQueue b
  · exact c.joinLoadQueue b

theorem admitHeads (h : s.Settles guarded t) (n : Nat) : s.Settles guarded (t.admitHeads n) := by
  induction n generalizing t with
  | zero => exact h
  | succ n ih =>
    unfold State.admitHeads
    split
    · exact h
    · split
      · rename_i room
        exact ih (((h.makeRoom room).modLoad _).toStarting _)
      · exact h

theorem takeBells (h : s.Settles guarded t) (id : Nat) (bs : List Bell) : s.Settles guarded (t.takeBells id bs) := by
  induction bs generalizing t with
  | nil => exact h.modRun _ _
  | cons b bs ih =>
    unfold State.takeBells
    split
    · exact ih ((h.modRun _ _).raiseAll _)
    · exact (h.modRun _ _).toParking ..

theorem slotNext (h : s.Settles guarded t) (id : Nat) : s.Settles guarded (t.slotNext id) := by
  unfold State.slotNext
  split
  · exact (h.modRun _ _).takeBells ..
  · exact h

theorem recordSlot (h : s.Settles guarded t) (x : SlotRecord) : s.Settles guarded (t.recordSlot x) :=
  h.modSwing { Swing.Settles.refl _ _ with day := rfl }

theorem startSlot (h : s.Settles guarded t) (d : Date) (number : Nat) (x : RingSlot) :
    s.Settles guarded (t.startSlot d number x) := by
  unfold State.startSlot
  dsimp only
  split
  · exact (h.recordSlot _).raiseAll _
  · refine (h.modSwing { Swing.Settles.refl _ _ with runs := fun r hr => ?_ }).slotNext _
    exact ⟨r, List.mem_append_left _ hr, rfl, rfl, rfl, rfl, rfl⟩

/-! ## Minutes, and the signals -/

/-- A minute that the swing controller acts on, but for its guard. -/
theorem actOnMinute (h : s.Settles False t) (d : Date) (m : Nat) : s.Settles False (t.actOnMinute d m) := by
  have c := h.foldl (f := fun s (x : Nat × RingSlot) =>
    (s.recordSlot { date := d, number := x.1, outcome := .missed, started := [], skipped := [] }).raiseAll .bell)
    (as := (t.slotsOf d).filter fun x => laterThanSlotGuard (d, x.2.start) false t.swing.guard && x.2.start < m)
    fun _ _ _ c => (c.recordSlot _).raiseAll _
  exact ite ((c.foldl fun _ _ _ c => c.startSlot ..).modSwing
    { Swing.Settles.refl False _ with guard := fun no => no.elim }) c

theorem hammerReported (h : s.Settles guarded t) (b : Bell) : s.Settles guarded (t.hammerReported b) := by
  unfold State.hammerReported
  split
  · exact h.toWaitLoad b
  · exact h.swingFaults ..
  · exact ite h (h.swingFaults ..)
  · exact ite h (h.swingFaults ..)
  · exact ite h (h.swingFaults ..)
  · exact h

theorem deliver (h : s.Settles guarded t) (x : Signal) : s.Settles guarded (State.deliver x t) := by
  cases x with
  | hammer b => exact h.hammerReported b
  | loadFell => exact (h.admitHeads _).restoreLights
  | slotNext id => exact h.slotNext id

theorem settleFor (h : s.Settles guarded t) (n : Nat) : s.Settles guarded (t.settleFor n) := by
  induction n generalizing t with
  | zero => exact h
  | succ n ih =>
    unfold State.settleFor
    split
    · exact h
    · exact ih ((h.takeSignal _).deliver _)

theorem settle (h : s.Settles guarded t) : s.Settles guarded t.settle := h.settleFor _

end State.Settles
end Sys2Proof.Machine
end

section
/-! PROOFS. What the stages of a start leave alone: the relation `Starts` from a state to a later one (R19, R41). -/

namespace Sys2Proof.Machine

/-- `t` is a state that the stages of a start, and the evaluations that follow it, may make of `s`: no bell, claim, swing or
strike changes, the load settings stay, MAINS is not raised, and the load controller alone is called. -/
structure State.Starts (s t : State) : Prop where
  bells : t.bells = s.bells
  claims : t.claims = s.claims
  queue : t.engine.queue = s.engine.queue
  slots : t.engine.slots = s.engine.slots
  recs : t.swing.recs = s.swing.recs
  runs : t.swing.runs = s.swing.runs
  held : t.swing.held = s.swing.held
  load : t.load = s.load
  mains : ∀ p, t.noticed .mains p → s.noticed .mains p
  signals : ∀ x ∈ t.signals, x ∈ s.signals ∨ x = .loadFell

/-- The bits of two kinds of notice have nothing in common. -/
theorem NoticeKind.bit_and_bit {j k : NoticeKind} (h : j ≠ k) : NoticeKind.bit j &&& NoticeKind.bit k = 0 := by
  cases j <;> cases k <;> first | exact absurd rfl h | rfl

/-- A program hand-over at the clock player does not reach the swing controller. -/
theorem State.chimeHandOver_swing (s : State) (p : Program) (date : Bool) : (s.chimeHandOver p date).swing = s.swing :=
  chimeHandOver_within (changesOnly.refl [.engine, .players, .link, .store] s) (List.Subset.refl _) p date .swing (by decide)

namespace State.Starts

variable {s t u : State}

theorem refl (s : State) : s.Starts s := ⟨rfl, rfl, rfl, rfl, rfl, rfl, rfl, rfl, fun _ h => h, fun _ h => .inl h⟩

theorem trans (h : s.Starts t) (g : t.Starts u) : s.Starts u where
  bells := g.bells.trans h.bells
  claims := g.claims.trans h.claims
  queue := g.queue.trans h.queue
  slots := g.slots.trans h.slots
  recs := g.recs.trans h.recs
  runs := g.runs.trans h.runs
  held := g.held.trans h.held
  load := g.load.trans h.load
  mains := fun p x => h.mains p (g.mains p x)
  signals := fun x hx => (g.signals x hx).elim (h.signals x) .inr

theorem ite {c : Prop} [Decidable c] (h : s.Starts t) (g : s.Starts u) : s.Starts (if c then t else u) := by
  split <;> assumption

theorem foldl {f : State → α → State} (h : s.Starts t) (hf : ∀ u a, s.Starts u → s.Starts (f u a)) (as : List α) :
    s.Starts (as.foldl f t) := by
  induction as generalizing t with
  | nil => exact h
  | cons a as ih => exact ih (hf t a h)

/-! ## The changes of one block -/

theorem modTk (h : s.Starts t) (f : Timekeeper → Timekeeper) : s.Starts (t.modTk f) := h.trans { refl t with bells := rfl }
theorem modCal (h : s.Starts t) (f : Calendar → Calendar) : s.Starts (t.modCal f) := h.trans { refl t with bells := rfl }
theorem modDial (h : s.Starts t) (n : Train) (f : Dial → Dial) : s.Starts (t.modDial n f) :=
  h.trans { refl t with bells := rfl }
theorem modPlayers (h : s.Starts t) (f : Players → Players) : s.Starts (t.modPlayers f) := h.trans { refl t with bells := rfl }
theorem modBuffer (h : s.Starts t) (q : Quarter) (f : Buffer → Buffer) : s.Starts (t.modBuffer q f) := h.modPlayers _
theorem modLights (h : s.Starts t) (f : Lights → Lights) : s.Starts (t.modLights f) := h.trans { refl t with bells := rfl }
theorem modCircuit (h : s.Starts t) (c : Circuit) (f : CircuitRec → CircuitRec) : s.Starts (t.modCircuit c f) := h.modLights _
theorem modStore (h : s.Starts t) (f : Store → Store) : s.Starts (t.modStore f) := h.trans { refl t with bells := rfl }

theorem modDay (h : s.Starts t) (d : Option (Date × List RingSlot)) : s.Starts (t.modSwing fun w => { w with day := d }) :=
  h.trans { refl t with bells := rfl }

theorem loadFell (h : s.Starts t) : s.Starts (t.signal .loadFell) :=
  h.trans { refl t with
    signals := fun x hx => by
      rcases List.mem_append.mp hx with hx | hx
      · exact .inl hx
      · exact .inr (List.mem_singleton.mp hx) }

theorem takeSignals (h : s.Starts t) {l : List Signal} (hl : ∀ x ∈ l, x ∈ t.signals) : s.Starts { t with signals := l } :=
  h.trans { refl t with signals := fun x hx => .inl (hl x hx) }

/-- Another notice than MAINS is raised. -/
theorem raise (h : s.Starts t) (k : NoticeKind) (hk : k ≠ .mains) (p : Port) : s.Starts (t.raise k p) :=
  h.trans { refl t with
    mains := fun q n => by
      unfold noticed at n ⊢
      rw [State.raise, port_modPort] at n
      split at n
      · rename_i e
        subst e
        rw [BitVec.and_or_distrib_right, NoticeKind.bit_and_bit hk] at n
        simpa using n
      · exact n }

theorem raiseAll (h : s.Starts t) (k : NoticeKind) (hk : k ≠ .mains := by decide) : s.Starts (t.raiseAll k) :=
  ((h.raise k hk .v).raise k hk .c).raise k hk .s

theorem lose (h : s.Starts t) (r : DropReason) : s.Starts (t.lose r) := by
  have counted : s.Starts (t.modEngine fun e => { e with losses := e.losses.count r }) := h.trans { refl t with bells := rfl }
  exact ite (counted.raiseAll _) h

/-! ## The buffers and the announcements -/

theorem enqueueStoreOp (h : s.Starts t) (op : StoreOp) : s.Starts (t.enqueueStoreOp op) := ite (h.modStore _) (h.modStore _)

theorem assignBuffer (h : s.Starts t) (q : Quarter) (x : Option TuneSlot) : s.Starts (t.assignBuffer q x) := by
  cases x with
  | none => exact (h.modPlayers _).modBuffer ..
  | some x =>
    change s.Starts (t.wantBuffer q x)
    unfold State.wantBuffer
    split
    · exact ite ((h.modPlayers _).modBuffer ..) (h.modBuffer ..)
    · exact h.modBuffer ..

theorem assignBufferWhenFree (h : s.Starts t) (q : Quarter) (x : Option TuneSlot) : s.Starts (t.assignBufferWhenFree q x) :=
  ite (h.modBuffer ..) (h.assignBuffer q x)

theorem requestFetch (h : s.Starts t) : s.Starts t.requestFetch := by
  unfold State.requestFetch
  refine ite h ?_
  split
  · split
    · exact ((h.modPlayers _).modBuffer ..).enqueueStoreOp _
    · exact h
  · exact h

theorem endQuarterRun (h : s.Starts t) : s.Starts t.endQuarterRun := by
  unfold State.endQuarterRun
  split
  · unfold State.releaseBuffer
    split
    · exact ((h.modPlayers _).assignBuffer ..).requestFetch
    · exact h.modPlayers _
  · exact h

theorem advanceQuarter (h : s.Starts t) : s.Starts t.advanceQuarter := by
  unfold State.advanceQuarter
  split
  · exact ite h.endQuarterRun (h.modPlayers _)
  · exact h

theorem beginQuarterRun (h : s.Starts t) (r : QuarterRun) : s.Starts (t.beginQuarterRun r) := by
  unfold State.beginQuarterRun
  split
  · exact ite (h.modPlayers _) (h.endQuarterRun.modPlayers _)
  · exact h.modPlayers _

theorem quarterChime (h : s.Starts t) (p : Program) (q : Quarter) (minute count : Nat) :
    s.Starts (t.quarterChime p q minute count) := by
  unfold State.quarterChime
  split
  · exact h
  · exact ite (h.lose _) (ite (h.lose _) (h.beginQuarterRun _).advanceQuarter)

theorem testFourthQuarter (h : s.Starts t) : s.Starts t.testFourthQuarter := by
  unfold State.testFourthQuarter
  split
  · exact ite h (ite (h.modPlayers _).advanceQuarter (ite (h.modPlayers _) ((h.modPlayers _).lose _)))
  · exact h

theorem prepareFourthQuarter (h : s.Starts t) (p : Program) (x : HourAhead) : s.Starts (t.prepareFourthQuarter p x) := by
  unfold State.prepareFourthQuarter
  split
  · exact h
  · split
    · exact h.lose _
    · exact (h.beginQuarterRun _).testFourthQuarter

theorem silentHour (h : s.Starts t) (p : Program) : s.Starts (t.silentHour p) :=
  have c := ite (c := (p.tunes.get 3).isSome = true) (h.lose .silent) h
  ite (c.lose .silent) c

theorem takeHourAhead (h : s.Starts t) (p : Program) (x : HourAhead) : s.Starts (t.takeHourAhead p x) :=
  ite (h.silentHour p) (ite ((h.prepareFourthQuarter p x).modPlayers _) (h.prepareFourthQuarter p x))

theorem takeQuarter (h : s.Starts t) (p : Program) (q : QuarterInstant) (count : Nat) : s.Starts (t.takeQuarter p q count) := by
  unfold State.takeQuarter
  split
  · exact h.quarterChime ..
  · exact h.quarterChime ..
  · exact h.quarterChime ..
  · exact h

theorem chimeAnnounced (h : s.Starts t) (x : HeldAnnouncement) : s.Starts (t.chimeAnnounced x) := by
  unfold State.chimeAnnounced
  split
  · split
    · exact h.takeQuarter ..
    · exact h.takeHourAhead ..
  · exact h.modPlayers _

theorem chimeHandOver (h : s.Starts t) (p : Program) (date : Bool) : s.Starts (t.chimeHandOver p date) := by
  unfold State.chimeHandOver
  exact ((((h.modPlayers _).foldl (fun _ _ c => ite (c.assignBufferWhenFree ..) c) _).requestFetch).modPlayers _).foldl
    (fun _ _ c => c.chimeAnnounced _) _

/-! ## The lights -/

theorem watchReservation {c : Circuit} {f : State → State} (h : s.Starts (f t)) : s.Starts (t.watchReservation c f) :=
  ite h.loadFell h

theorem grantCircuit (h : s.Starts t) (c : Circuit) (time : Nat) (before quiet : Bool) :
    s.Starts (t.grantCircuit c time before quiet) :=
  have g := ite h (watchReservation (h.modCircuit c _))
  ite (g.raiseAll _) g

theorem rewant (h : s.Starts t) (c : Circuit) (time : Nat) (quiet : Bool) : s.Starts (t.rewant c time quiet) :=
  ite h ((h.modCircuit c _).grantCircuit ..)

theorem restoreLights (h : s.Starts t) : s.Starts t.restoreLights :=
  ite (h.foldl (fun _ c k => (ite ((k.modCircuit c _).raiseAll _) k).grantCircuit ..) _) h

theorem endOverride (h : s.Starts t) (c : Circuit) (time : Nat) : s.Starts (t.endOverride c time) := by
  unfold State.endOverride
  split
  · exact ((h.modCircuit c _).raiseAll _).rewant ..
  · exact h.rewant ..

theorem takeStep (h : s.Starts t) (x : PlanStep) (time : Nat) : s.Starts (t.takeStep x time) :=
  h.foldl (fun _ c k => (k.modCircuit c _).endOverride ..) _

theorem rewantAll (h : s.Starts t) (time : Circuit → Nat) (quiet : Bool) : s.Starts (t.rewantAll time quiet) :=
  h.foldl (fun _ _ k => k.rewant ..) _

theorem buildTimeline (h : s.Starts t) (quiet : Bool) : s.Starts (t.buildTimeline quiet) :=
  ite (((h.modLights _).foldl (fun _ _ k => k.foldl (fun _ c k => k.modCircuit c _) _) _).rewantAll ..) (h.rewantAll ..)

theorem takeLightMinute (h : s.Starts t) (m : HeldMinute) : s.Starts (t.takeLightMinute m) :=
  have due := ite (c := (m.valid && t.lights.timelineDate == some m.date) = true)
    ((h.modLights fun g => { g with timeline := g.timeline.map fun x => { x with done := x.done || x.minute ≤ m.minute } }).foldl
      (fun _ x k => k.takeStep x.step (if x.minute = m.minute then x.step.ramp else 0)) _) h
  due.foldl (fun _ c k => ite (k.endOverride c 0) k) _

theorem lightHandOver (h : s.Starts t) (d : Date) (plan : Option PlanNo) (valid : Option Bool) (quiet : Bool) :
    s.Starts (t.lightHandOver d plan valid quiet) := by
  have built := (h.modLights fun g =>
    { g with handDate := some d, plan := plan, dateSeen := if valid.isSome then some d else g.dateSeen
             valid := valid.getD g.valid }).buildTimeline quiet
  unfold State.lightHandOver State.fallbackNotice State.takeHeldMinutes
  exact (((ite (built.raiseAll .light) built).modLights _).foldl (fun _ _ k => k.takeLightMinute _) _)

/-! ## The dials, the date change and the stages -/

theorem evaluateDials (h : s.Starts t) : s.Starts t.evaluateDials :=
  h.foldl (fun _ n k => ite (k.modDial n _) ((k.modDial n _).raiseAll _)) _

/-- A date change where the swing controller holds no minute. -/
theorem dateChange (h : s.Starts t) (none : t.swing.held = []) (quiet : Bool) : s.Starts (t.dateChange quiet) := by
  have chimed := fun f p date => (h.modCal f).chimeHandOver p date
  unfold State.dateChange handOver
  dsimp only [modCal_cal]
  rw [swingHandOver_of_none_held]
  · exact ((chimed _ _ _).modDay _).lightHandOver ..
  · rw [chimeHandOver_swing]
    exact none

theorem recordMissed (h : s.Starts t) (after : Nat) : s.Starts (t.recordMissed after) :=
  ite ((h.modTk _).raiseAll _) h

theorem giveHourAhead (h : s.Starts t) : s.Starts t.giveHourAhead := ite ((h.modTk _).chimeAnnounced _) h

/-- The timekeeper's stages, where the swing controller holds no minute. -/
theorem startStages (h : s.Starts t) (none : t.swing.held = []) : s.Starts t.startStages := by
  have forced : t.Starts t.setInForce := (refl t).modTk _
  have timed := ite (c := t.setInForce.tk.dstInForce = t.tk.dstInForce) forced (forced.raiseAll .time)
  unfold State.startStages
  extract_lets flag noticed recorded ahead
  have announced : t.Starts ahead := (ite (timed.recordMissed _) timed).giveHourAhead
  exact h.trans (announced.dateChange (announced.held.trans none) true).evaluateDials

/-- With an empty load queue the signal that the load fell grants the lights only. -/
theorem settle (h : s.Starts t) (signals : ∀ x ∈ t.signals, x = .loadFell) (empty : t.load.queue = []) : s.Starts t.settle := by
  have run (n : Nat) : ∀ u : State, s.Starts u → (∀ x ∈ u.signals, x = .loadFell) → u.load.queue = [] → s.Starts (u.settleFor n) := by
    induction n with
    | zero => exact fun u h _ _ => h
    | succ n ih =>
      intro u h signals empty
      cases e : u.signals with
      | nil => rwa [settleFor_of_quiet e]
      | cons x rest =>
        rw [settleFor_cons e]
        rw [e] at signals
        obtain rfl := signals x List.mem_cons_self
        have taken : u.Starts { u with signals := rest } := (refl u).takeSignals fun x hx => by
          rw [e]; exact List.mem_cons_of_mem _ hx
        have granted : { u with signals := rest }.Starts (State.deliver .loadFell { u with signals := rest }) := by
          change State.Starts _ (State.admitHeads u.load.queue.length { u with signals := rest }).restoreLights
          rw [empty]
          exact (refl _).restoreLights
        refine ih _ (h.trans (taken.trans granted)) (fun x hx => ?_) ?_
        · exact (granted.signals x hx).elim (fun hx => signals x (List.mem_cons_of_mem _ hx)) id
        · rw [granted.load]
          exact empty
  exact run _ t h signals empty

end State.Starts
end Sys2Proof.Machine
end

section
/-! PROOFS. Which fields of the timekeeper and of the dial trains the timekeeper's stages leave alone. -/

namespace Sys2Proof.Machine

/-- The counting chain, the time-valid flag, the daylight rule and flag and the taps are the same. -/
structure Timekeeper.SameClock (a b : Timekeeper) : Prop where
  divider : b.divider = a.divider
  counters : b.counters = a.counters
  slew : b.slew = a.slew
  runCount : b.runCount = a.runCount
  timeValid : b.timeValid = a.timeValid
  dstRule : b.dstRule = a.dstRule
  dstInForce : b.dstInForce = a.dstInForce
  taps : b.taps = a.taps

theorem Timekeeper.SameClock.refl (a : Timekeeper) : a.SameClock a := ⟨rfl, rfl, rfl, rfl, rfl, rfl, rfl, rfl⟩

theorem Timekeeper.SameClock.trans {a b c : Timekeeper} (h : a.SameClock b) (g : b.SameClock c) : a.SameClock c :=
  ⟨g.divider.trans h.divider, g.counters.trans h.counters, g.slew.trans h.slew, g.runCount.trans h.runCount,
    g.timeValid.trans h.timeValid, g.dstRule.trans h.dstRule, g.dstInForce.trans h.dstInForce, g.taps.trans h.taps⟩

/-- What an evaluation leaves of a dial train's record: its mode, its position and polarity, its flag and its configuration. -/
structure Dial.Stays (a b : Dial) : Prop where
  mode : b.mode = a.mode
  position : b.position = a.position
  lastPolarity : b.lastPolarity = a.lastPolarity
  uncertain : b.uncertain = a.uncertain
  fitted : b.fitted = a.fitted
  width : b.width = a.width
  period : b.period = a.period
  hold : b.hold = a.hold

theorem Dial.beginImpulse_stays (d : Dial) (now : Nat) : d.Stays (d.beginImpulse now) := by
  unfold Dial.beginImpulse
  split <;> exact ⟨rfl, rfl, rfl, rfl, rfl, rfl, rfl, rfl⟩

theorem Dial.evaluate_stays (d : Dial) (t : LocalTime) (v : Bool) (now : Nat) : d.Stays (d.evaluate t v now) := by
  unfold Dial.evaluate
  split
  · exact ⟨rfl, rfl, rfl, rfl, rfl, rfl, rfl, rfl⟩
  · split
    · exact ⟨rfl, rfl, rfl, rfl, rfl, rfl, rfl, rfl⟩
    · obtain ⟨mode, position, polarity, uncertain, fitted, width, period, hold⟩ := Dial.beginImpulse_stays
        { d with
          state := d.stateFor (d.lagAt t), lag := some (d.lagAt t), demanded := d.demandsFor (d.lagAt t)
          catchUpDue := d.stateFor (d.lagAt t) == DialState.catching && d.catchesUp now } now
      exact ⟨mode, position, polarity, uncertain, fitted, width, period, hold⟩

namespace State

/-! ## Which blocks the timekeeper's operations leave -/

@[simp] theorem raise_tk (k : NoticeKind) (p : Port) (s : State) : (s.raise k p).tk = s.tk := rfl
@[simp] theorem raiseAll_tk (k : NoticeKind) (s : State) : (s.raiseAll k).tk = s.tk := rfl

@[simp] theorem chimeAnnounced_tk (s : State) (x : HeldAnnouncement) : (s.chimeAnnounced x).tk = s.tk :=
  chimeAnnounced_within (changesOnly.refl [.engine, .players, .link, .store] s) (List.Subset.refl _) x .timekeeper (by decide)

@[simp] theorem chimeWithdrawn_tk (s : State) (x : HourAhead) : (s.chimeWithdrawn x).tk = s.tk :=
  chimeWithdrawn_within (changesOnly.refl [.players, .store] s) (List.Subset.refl _) x .timekeeper (by decide)

@[simp] theorem dateChange_tk (s : State) (quiet : Bool) : (s.dateChange quiet).tk = s.tk :=
  dateChange_within (changesOnly.refl _ s) (List.Subset.refl _) quiet .timekeeper (by decide)

@[simp] theorem evaluateDials_tk (s : State) : s.evaluateDials.tk = s.tk :=
  evaluateDials_within (changesOnly.refl _ s) (List.Subset.refl _) .timekeeper (by decide)

@[simp] theorem lightTimeChange_tk (s : State) (x y : LocalTime) : (s.lightTimeChange x y).tk = s.tk :=
  lightTimeChange_within (changesOnly.refl _ s) (List.Subset.refl _) x y .timekeeper (by decide)

@[simp] theorem settle_tk (s : State) : s.settle.tk = s.tk :=
  settle_within (changesOnly.refl _ s) (List.Subset.refl _) .timekeeper (by decide)

@[simp] theorem settle_dials (s : State) : s.settle.dials = s.dials :=
  settle_within (changesOnly.refl _ s) (List.Subset.refl _) .dials (by decide)

@[simp] theorem dateChange_dials (s : State) (quiet : Bool) : (s.dateChange quiet).dials = s.dials :=
  dateChange_within (changesOnly.refl _ s) (List.Subset.refl _) quiet .dials (by decide)

@[simp] theorem recordMissed_dials (s : State) (after : Nat) : (s.recordMissed after).dials = s.dials :=
  recordMissed_within (changesOnly.refl _ s) (List.Subset.refl _) after .dials (by decide)

@[simp] theorem giveHourAhead_dials (s : State) : s.giveHourAhead.dials = s.dials :=
  giveHourAhead_within (changesOnly.refl _ s) (List.Subset.refl _) .dials (by decide)

theorem recordMissed_sameClock (s : State) (after : Nat) : s.tk.SameClock (s.recordMissed after).tk := by
  unfold recordMissed
  dsimp only
  split <;> exact ⟨rfl, rfl, rfl, rfl, rfl, rfl, rfl, rfl⟩

theorem giveHourAhead_sameClock (s : State) : s.tk.SameClock s.giveHourAhead.tk := by
  unfold giveHourAhead
  dsimp only
  split
  · rw [chimeAnnounced_tk]
    exact ⟨rfl, rfl, rfl, rfl, rfl, rfl, rfl, rfl⟩
  · exact .refl _

/-! ## The evaluation of the dial trains -/

/-- An evaluation of one train leaves the others. -/
theorem dial_evaluateDial (s : State) (n m : Train) : (s.evaluateDial n).dial m =
    if m = n then (s.dial n).evaluate s.localTime s.tk.timeValid s.now else s.dial m := by
  have e : (s.evaluateDial n).dial m =
      (s.modDial n fun d => d.evaluate s.localTime s.tk.timeValid s.now).dial m := by
    unfold evaluateDial changeDial
    dsimp only
    split <;> rfl
  rw [e, dial_modDial]

theorem evaluateDial_tk (s : State) (n : Train) : (s.evaluateDial n).tk = s.tk :=
  evaluateDial_within (changesOnly.refl _ s) (List.Subset.refl _) n .timekeeper (by decide)

/-- Every train is evaluated once, at one instant (R35). -/
theorem dial_evaluateDials (s : State) (m : Train) :
    s.evaluateDials.dial m = (s.dial m).evaluate s.localTime s.tk.timeValid s.now := by
  have step (ns : List Train) : ∀ u : State, u.tk = s.tk → ns.Nodup →
      (ns.foldl (fun s n => s.evaluateDial n) u).dial m =
        if m ∈ ns then (u.dial m).evaluate s.localTime s.tk.timeValid s.now else u.dial m := by
    induction ns with
    | nil => intro u _ _; simp
    | cons n ns ih =>
      intro u hu nodup
      obtain ⟨fresh, nodup⟩ := List.nodup_cons.mp nodup
      have here : (u.dial n).evaluate u.localTime u.tk.timeValid u.now =
          (u.dial n).evaluate s.localTime s.tk.timeValid s.now := by
        unfold localTime now
        rw [hu]
      rw [List.foldl_cons, ih _ ((evaluateDial_tk u n).trans hu) nodup, dial_evaluateDial, here]
      by_cases e : m = n
      · subst e
        simp [fresh]
      · simp [e]
  have all := step allTrains s rfl (List.nodup_finRange 4)
  rw [if_pos (show m ∈ allTrains from List.mem_finRange m)] at all
  exact all

end State
end Sys2Proof.Machine
end

section
/-! PROOFS. The warm starts (O11): what a start keeps of the retained store and of the counting chain, what it clears, and what it
makes of the dial trains, the notices and the ports. -/

namespace Sys2Proof.Machine.State

/-- What is kept keeps every item of a port's record but its notices. -/
theorem Keeps.port_eq {s t : State} (h : s.Keeps t) (p : Port) : t.port p = { s.port p with notices := (t.port p).notices } := by
  have record : (t.port p).withoutNotices = (s.port p).withoutNotices := h.link.ports p
  generalize t.port p = x at record ⊢
  generalize s.port p = y at record ⊢
  cases x
  cases y
  simp only [PortRec.withoutNotices, PortRec.mk.injEq] at record ⊢
  simp [record]

/-- The state of a start once the volatile items are lost, CLAIM is raised and, after a return of mains, MAINS. -/
def startNoticed (s : State) (mains : Bool) : State :=
  let t := { s.dropVolatile with power := .on }.raiseAll .claim
  if mains then t.raiseAll .mains else t

theorem start_eq (s : State) (mains : Bool) : s.start mains = (s.startNoticed mains).markUncertain.startStages.settle := rfl

variable (s : State) (mains : Bool)

/-- The notices of a start change the ports only. -/
theorem startNoticed_within :
    State.changesOnly [.link] { s.dropVolatile with power := .on } (s.startNoticed mains) :=
  have claim := raiseAll_within (changesOnly.refl [.link] { s.dropVolatile with power := .on }) (List.Subset.refl _) .claim
  ite_within (raiseAll_within claim (List.Subset.refl _) .mains) claim

theorem markUncertain_within' (t : State) : t.changesOnly [.dials, .link] t.markUncertain :=
  markUncertain_within (changesOnly.refl _ t) (List.Subset.refl _)

/-- From its notices on, a start changes no bell, claim, swing or strike. -/
theorem start_starts : (s.startNoticed mains).Starts (s.start mains) := by
  have base := s.startNoticed_within mains
  have swing : (s.startNoticed mains).swing = .atStart := (base .swing (by decide)).trans s.dropVolatile_swing
  have load : (s.startNoticed mains).load = { s.load with queue := [] } := (base .load (by decide)).trans s.dropVolatile_load
  have signals : (s.startNoticed mains).signals = [] := (base .signals (by decide)).trans s.dropVolatile_signals
  have marked : (s.startNoticed mains).Starts (s.startNoticed mains).markUncertain := by
    have marks : (s.startNoticed mains).Starts ((s.startNoticed mains).modDials fun t => t.map fun d =>
      { d with uncertain := d.uncertain || d.inFlight, inFlight := false }) := { Starts.refl (s.startNoticed mains) with bells := rfl }
    exact Starts.ite (marks.raiseAll .dial) marks
  have staged := marked.startStages (marked.held.trans (by rw [swing]; rfl))
  rw [start_eq]
  refine staged.settle (fun x hx => ?_) ?_
  · exact (staged.signals x hx).resolve_left (by simp [signals])
  · rw [staged.load, load]

/-- From its notices on, a start keeps the tables. -/
theorem start_keeps_noticed : (s.startNoticed mains).Keeps (s.start mains) := by
  have base := s.startNoticed_within mains
  have free (n : Train) : ((s.startNoticed mains).dial n).impulse = none := by
    have dials : (s.startNoticed mains).dials = s.dropVolatile.dials := base .dials (by decide)
    rw [dial, dials]
    exact s.dropVolatile_impulse n
  exact ((Keeps.refl (s.startNoticed mains)).markUncertain free).startStages.settle

/-! ## The timekeeper -/

/-- The timekeeper's stages evaluate the daylight flag, and leave the rest of the clock (R19). -/
theorem startStages_sameClock (t : State) : t.setInForce.tk.SameClock t.startStages.tk := by
  unfold startStages
  extract_lets flag noticed recorded ahead
  have timed : noticed.tk = flag.tk := by
    simp only [noticed]
    split <;> rfl
  have missed : noticed.tk.SameClock recorded.tk := by
    simp only [recorded]
    split
    · exact recordMissed_sameClock ..
    · exact .refl _
  rw [evaluateDials_tk, dateChange_tk]
  rw [timed] at missed
  exact missed.trans (giveHourAhead_sameClock recorded)

/-- A start keeps the counting chain, evaluates the daylight flag, and sets the running count to 0. -/
theorem start_clock :
    Timekeeper.SameClock
      { s.tk with runCount := 0, dstInForce := s.tk.dstRule.inForceAt s.tk.counters, taps := { v := .off, c := .off, s := .off } }
      (s.start mains).tk := by
  have base : (s.startNoticed mains).markUncertain.tk = s.dropVolatile.tk :=
    (markUncertain_within' _ .timekeeper (by decide)).trans (s.startNoticed_within mains .timekeeper (by decide))
  have stages := startStages_sameClock (s.startNoticed mains).markUncertain
  rw [setInForce, modTk_tk, base, dropVolatile_tk] at stages
  obtain ⟨divider, counters, slew, runCount, timeValid, dstRule, dstInForce, taps⟩ := stages
  rw [start_eq, settle_tk]
  exact ⟨divider, counters, slew, runCount, timeValid, dstRule, dstInForce, taps⟩

/-! ## The dial trains -/

theorem startStages_dials (t : State) (n : Train) : (t.dial n).Stays (t.startStages.dial n) := by
  unfold startStages
  extract_lets flag noticed recorded ahead
  have timed : noticed.dials = t.dials := by
    simp only [noticed]
    split <;> rfl
  have missed : recorded.dials = noticed.dials := by
    simp only [recorded]
    split
    · exact recordMissed_dials ..
    · rfl
  have same : (ahead.dateChange true).dials = t.dials :=
    (dateChange_dials ..).trans ((giveHourAhead_dials _).trans (missed.trans timed))
  rw [dial_evaluateDials, dial, dial, same]
  exact Dial.evaluate_stays ..

/-- A start takes the marks of the trains to their uncertain flags, and keeps their configurations and positions (R40). -/
theorem start_dials (n : Train) :
    Dial.Stays { s.dial n with uncertain := (s.dial n).uncertain || (s.dial n).inFlight } ((s.start mains).dial n) := by
  have base : (s.startNoticed mains).dials = s.dropDials.dials :=
    (s.startNoticed_within mains .dials (by decide)).trans s.dropVolatile_dials
  have marked : (s.startNoticed mains).markUncertain.dials = s.dropDials.dials.map fun d =>
      { d with uncertain := d.uncertain || d.inFlight, inFlight := false } := by
    rw [← base]
    unfold markUncertain
    dsimp only
    split <;> rfl
  have stages := startStages_dials (s.startNoticed mains).markUncertain n
  have settled : (s.start mains).dial n = (s.startNoticed mains).markUncertain.startStages.dial n := by
    rw [start_eq, dial, settle_dials]
    rfl
  rw [settled]
  rw [dial, marked] at stages
  obtain ⟨mode, position, polarity, uncertain, fitted, width, period, hold⟩ := stages
  simp only [dropDials, modDials, Table.get_map] at mode position polarity uncertain fitted width period hold
  exact ⟨mode, position, polarity, uncertain, fitted, width, period, hold⟩

/-! ## The rest of the retained store, what is cleared, and the notices -/

theorem start_power : (s.start mains).power = .on := by
  have stages := startStages_within (changesOnly.refl _ (s.startNoticed mains).markUncertain) (List.Subset.refl _)
  rw [start_eq]
  exact ((settle_within (changesOnly.refl _ _) (List.Subset.refl _)) .power (by decide)).trans
    ((stages .power (by decide)).trans ((markUncertain_within' _ .power (by decide)).trans
      (s.startNoticed_within mains .power (by decide))))

/-- A start keeps the retained store and the counting chain. -/
theorem start_keepsRetained : s.keepsRetained (s.start mains) := by
  have kept := s.start_keeps mains
  have clock := s.start_clock mains
  have cal := kept.cal
  have clavier := kept.clavier
  have lights := kept.lights
  have load := kept.load
  simp only [dropVolatile_cal, dropVolatile_clavier, dropVolatile_lights, dropVolatile_load] at cal clavier lights load
  refine ⟨clock.divider, clock.counters, clock.slew, clock.timeValid, clock.dstRule, cal.yearRefs, cal.entries, cal.programs,
    fun b => ?_, kept.hold.trans (by rw [dropVolatile_claims]), kept.engine.priorities.trans (by rw [dropVolatile_engine]; rfl),
    clavier.mode, clavier.cls, clavier.binding, fun c => ?_, lights.plans, lights.solar, load.capacity, load.reserve, load.wait,
    fun n => ?_, fun p => ?_, fun idle => ?_⟩
  · have config := kept.bells.config b
    simp only [dropVolatile_bells, Table.get_map] at config
    exact config
  · have config := lights.config c
    simp only [Table.get_map] at config
    exact config
  · obtain ⟨-, -, -, -, fitted, width, period, hold⟩ := s.start_dials mains n
    exact ⟨fitted, width, period, hold⟩
  · rw [kept.port_eq]
    change (s.dropVolatile.port p).rights = _ ∧ (s.dropVolatile.port p).mask = _
    rw [dropVolatile_port]
    exact ⟨rfl, rfl⟩
  · rw [kept.store.flash]
    simp only [dropVolatile_store, cutCommit_of_no_commit idle]
    rfl

/-- A start clears what is on the main supply. -/
theorem start_clearsVolatile : (s.start mains).clearsVolatile := by
  have base := s.startNoticed_within mains
  have kept := s.start_keeps mains
  have starts := s.start_starts mains
  have clock := s.start_clock mains
  have bells : (s.start mains).bells = s.dropVolatile.bells := starts.bells.trans (base .bells (by decide))
  have claims : (s.start mains).claims = s.dropVolatile.claims := starts.claims.trans (base .claims (by decide))
  have engine : (s.startNoticed mains).engine = s.dropVolatile.engine := base .engine (by decide)
  have swing : (s.startNoticed mains).swing = s.dropVolatile.swing := base .swing (by decide)
  have load : (s.start mains).load = s.dropVolatile.load := starts.load.trans (base .load (by decide))
  refine ⟨clock.runCount, ?_, fun k => ?_, fun b => ?_, fun b => ?_, fun b => ?_, ?_, ?_, ?_, ?_⟩
  · rw [starts.queue, engine, dropVolatile_engine]
    rfl
  · rw [starts.slots, engine, dropVolatile_engine]
    exact Table.get_replicate ..
  · rw [claim, claims, dropVolatile_claims]
    exact Table.get_replicate ..
  · rw [swingState, swingRec, starts.recs, swing, dropVolatile_swing]
    simp [Swing.atStart, SwingRec.atStart]
  · rw [motorLine, bell, bells, dropVolatile_bells]
    simp [BellRec.atStart]
  · rw [load, dropVolatile_load]
  · rw [starts.runs, swing, dropVolatile_swing]
    rfl
  · exact kept.store.staging
  · rw [bells, dropVolatile_bells]
    rfl

theorem start_locks : (s.start mains).link.locks = s.link.locks := by
  have locks := (s.start_keeps mains).link.locks
  rw [dropVolatile_link] at locks
  exact locks

/-- Every port's record is that of a start but for its notices. -/
theorem start_port (p : Port) : ((s.start mains).port p).response = none ∧ ((s.start mains).port p).restart = false := by
  rw [(s.start_keeps mains).port_eq]
  change (s.dropVolatile.port p).response = _ ∧ (s.dropVolatile.port p).restart = _
  rw [dropVolatile_port]
  exact ⟨rfl, rfl⟩

/-- The notices right after a start's first stage. -/
theorem startNoticed_port (p : Port) : ((s.startNoticed mains).port p).notices =
    if mains then NoticeKind.claim.bit ||| NoticeKind.mains.bit else NoticeKind.claim.bit := by
  have base : ({ s.dropVolatile with power := .on }.port p).notices = 0 := by
    change (s.dropVolatile.port p).notices = 0
    rw [dropVolatile_port]
    rfl
  unfold startNoticed
  cases mains <;> cases p <;> simp_all [raiseAll, raise, port_modPort]

/-- CLAIM is raised on every port (R66). -/
theorem start_claim : (s.start mains).noticedAll .claim := fun p =>
  (s.start_keeps_noticed mains).link.notices .claim p (by
    change ((s.startNoticed mains).port p).notices &&& NoticeKind.claim.bit ≠ 0
    rw [startNoticed_port]
    cases mains <;> decide)

/-- MAINS is raised after a return of mains only (R176). -/
theorem start_mains (p : Port) : (s.start mains).noticed .mains p ↔ mains = true := by
  have raised : (s.startNoticed mains).noticed .mains p ↔ mains = true := by
    rw [noticed, startNoticed_port]
    cases mains <;> decide
  constructor
  · exact fun h => raised.mp ((s.start_starts mains).mains p h)
  · exact fun h => (s.start_keeps_noticed mains).link.notices .mains p (raised.mpr h)

end Sys2Proof.Machine.State

namespace Sys2Proof.Machine

namespace State

/-- What every warm start makes of a state, whatever began it (R19). -/
structure WarmStarted (s t : State) : Prop where
  power : t.power = .on
  retained : s.keepsRetained t
  cleared : t.clearsVolatile
  dials : ∀ n, Dial.Stays { s.dial n with uncertain := (s.dial n).uncertain || (s.dial n).inFlight } (t.dial n)
  daylight : t.tk.dstInForce = s.tk.dstRule.inForceAt s.tk.counters
  claim : t.noticedAll .claim

theorem start_warmStarted (s : State) (mains : Bool) : s.WarmStarted (s.start mains) :=
  ⟨s.start_power mains, s.start_keepsRetained mains, s.start_clearsVolatile mains, s.start_dials mains,
    (s.start_clock mains).dstInForce, s.start_claim mains⟩

/-- A warm start of a state that differs from `s` in its link alone, the rights and masks of the ports being the same. -/
theorem WarmStarted.of_link {s t : State} {link : Link} (h : { s with link := link }.WarmStarted t)
    (same : ∀ p, (link.ports.get p).rights = (s.port p).rights ∧ (link.ports.get p).mask = (s.port p).mask) :
    s.WarmStarted t := by
  obtain ⟨power, retained, cleared, dials, daylight, claim⟩ := h
  refine ⟨power, ?_, cleared, dials, daylight, claim⟩
  obtain ⟨divider, counters, slew, timeValid, dstRule, yearRefs, entries, programs, config, hold, priorities, mode, cls, binding,
    circuits, plans, solar, capacity, reserve, wait, trains, ports, flash⟩ := retained
  exact ⟨divider, counters, slew, timeValid, dstRule, yearRefs, entries, programs, config, hold, priorities, mode, cls, binding,
    circuits, plans, solar, capacity, reserve, wait, trains,
    fun p => ⟨(ports p).1.trans (same p).1, (ports p).2.trans (same p).2⟩, flash⟩

/-- The responses that go on over a start change nothing else of it (R177). -/
theorem WarmStarted.keepSending {s t : State} (h : s.WarmStarted t) (old : State) : s.WarmStarted (keepSending old t) := by
  obtain ⟨power, retained, cleared, dials, daylight, claim⟩ := h
  refine ⟨power, ?_, cleared, dials, daylight, fun p => ?_⟩
  · obtain ⟨divider, counters, slew, timeValid, dstRule, yearRefs, entries, programs, config, hold, priorities, mode, cls,
      binding, circuits, plans, solar, capacity, reserve, wait, trains, ports, flash⟩ := retained
    refine ⟨divider, counters, slew, timeValid, dstRule, yearRefs, entries, programs, config, hold, priorities, mode, cls,
      binding, circuits, plans, solar, capacity, reserve, wait, trains, fun p => ?_, flash⟩
    rw [keepSending_port]
    exact ports p
  · rw [noticed, keepSending_port]
    exact claim p

/-- The state in which a response has been sent, before any start that follows it. -/
def responseEnds (p : Port) (s : State) : State :=
  s.modPort p fun r =>
    { r with response := none, restart := false, counters := { r.counters with sent := bump r.counters.sent } }

/-- After RESTART's response the start follows (R177). -/
theorem responseGone_of_restart {s : State} {p : Port} (sends : (s.port p).response.isSome = true)
    (restart : (s.port p).restart = true) :
    s.responseGone p = keepSending (s.responseEnds p) ((s.responseEnds p).start false) := by
  obtain ⟨x, e⟩ := Option.isSome_iff_exists.mp sends
  simp only [responseGone, e, restart, if_true, responseEnds]

theorem responseEnds_port (s : State) (p q : Port) : (s.responseEnds p).port q =
    if q = p then
      { s.port p with
        response := none, restart := false
        counters := { (s.port p).counters with sent := bump (s.port p).counters.sent } }
    else s.port q := port_modPort ..

end State

/-- Settles O11: each command comes to a start of a state that differs from the given one in its link alone. -/
theorem warmStartKeepsTheRetainedStore : Obligations.WarmStartKeepsTheRetainedStore := by
  refine ⟨fun s on => ?_, fun c s cases => ?_⟩
  · change Host.Outcome.next (if s.power = .on then s else s.start true) = _
    rw [if_pos on]
  rcases cases with ⟨rfl, off⟩ | ⟨rfl, on⟩ | ⟨p, rfl, sends, restart⟩
  · obtain ⟨power, retained, cleared, dials, daylight, claim⟩ := s.start_warmStarted true
    refine ⟨s.start true, ?_, power, retained, cleared, fun n => ?_, daylight, ?_, claim, fun p => ?_, fun q => ?_⟩
    · change Host.Outcome.next (if s.power = .on then s else s.start true) = _
      rw [if_neg off]
    · exact ⟨(dials n).mode, (dials n).position, (dials n).lastPolarity, (dials n).uncertain⟩
    · exact s.start_locks true
    · exact (s.start_mains true p).trans (by simp)
    · intro goesOn
      exact ⟨fun ⟨_, no, _⟩ => (by cases no), fun _ => s.start_port true q⟩
  · have started := State.start_warmStarted (s.modLink fun l => { l with locks := 0 }) false
    obtain ⟨power, retained, cleared, dials, daylight, claim⟩ := started.of_link (s := s) fun _ => ⟨rfl, rfl⟩
    refine ⟨(s.modLink fun l => { l with locks := 0 }).start false, ?_, power, retained, cleared, fun n => ?_, daylight, ?_, claim,
      fun p => ?_, fun q => ?_⟩
    · change Host.Outcome.next (if s.power = .on then (s.modLink fun l => { l with locks := 0 }).start false else s) = _
      rw [if_pos on]
    · exact ⟨(dials n).mode, (dials n).position, (dials n).lastPolarity, (dials n).uncertain⟩
    · exact (State.start_locks ..).trans (by simp)
    · exact (State.start_mains _ false p).trans (by simp)
    · intro goesOn
      exact ⟨fun ⟨_, no, _⟩ => (by cases no), fun _ => State.start_port _ false q⟩
  · have started := (State.start_warmStarted (s.responseEnds p) false).keepSending (s.responseEnds p)
    obtain ⟨power, retained, cleared, dials, daylight, claim⟩ := started.of_link (s := s) fun q => by
      change ((s.responseEnds p).port q).rights = _ ∧ ((s.responseEnds p).port q).mask = _
      rw [State.responseEnds_port]
      split
      · rename_i e
        subst e
        exact ⟨rfl, rfl⟩
      · exact ⟨rfl, rfl⟩
    refine ⟨(s.responseEnds p).keepSending ((s.responseEnds p).start false), ?_, power, retained, cleared, fun n => ?_, daylight,
      ?_, claim, fun q => ?_, fun q => ?_⟩
    · change Host.Outcome.next (s.responseGone p) = _
      rw [State.responseGone_of_restart sends restart]
    · exact ⟨(dials n).mode, (dials n).position, (dials n).lastPolarity, (dials n).uncertain⟩
    · rw [State.keepSending_locks, State.start_locks]
      rfl
    · have mains := State.start_mains (s.responseEnds p) false q
      rw [State.noticed] at mains
      rw [State.noticed, State.keepSending_port]
      exact mains.trans (by simp)
    · intro goesOn
      rw [State.keepSending_port, State.responseEnds_port]
      refine ⟨fun ⟨p', e, other⟩ => ?_, fun here => ?_⟩
      · cases e
        rw [if_neg other]
        exact ⟨rfl, rfl⟩
      · have same : q = p := by
          by_contra other
          exact here ⟨p, rfl, other⟩
        rw [if_pos same]
        exact ⟨rfl, rfl⟩

end Sys2Proof.Machine
end

section
/-! PROOFS. The stages of a correction (R6, R11): the quarters passed over, the hour-ahead that is withdrawn and given anew, and the
runs of the clock player that go on (R14, R15, R107). -/

namespace Sys2Proof.Machine

/-- What filling the buffers leaves of the clock player, and of the strike engine. -/
structure State.Fetches (s t : State) : Prop where
  program : t.players.program = s.players.program
  held : t.players.held = s.players.held
  quarter : t.players.quarterRun = s.players.quarterRun
  hour : t.players.hourRun = s.players.hourRun
  engine : t.engine = s.engine

/-- The quarter run and the hour strike of `s` go on in `t`, the hour strike where no blow of it is queued; none begins. -/
structure State.RunsGoOn (s t : State) : Prop where
  quarter : ∃ counts : QuarterRun → RunCounts, t.players.quarterRun = s.players.quarterRun.map fun r => { r with counts := counts r }
  hour : s.noBlowQueued → t.players.hourRun = s.players.hourRun
  gone : s.players.hourRun = none → t.players.hourRun = none
  queue : t.engine.queue ⊆ s.engine.queue

namespace State.Fetches

variable {s t u : State}

theorem refl (s : State) : s.Fetches s := ⟨rfl, rfl, rfl, rfl, rfl⟩

theorem trans (h : s.Fetches t) (g : t.Fetches u) : s.Fetches u :=
  ⟨g.program.trans h.program, g.held.trans h.held, g.quarter.trans h.quarter, g.hour.trans h.hour, g.engine.trans h.engine⟩

theorem ite {c : Prop} [Decidable c] (h : s.Fetches t) (g : s.Fetches u) : s.Fetches (if c then t else u) := by
  split <;> assumption

theorem foldl {f : State → α → State} (h : s.Fetches t) (hf : ∀ u a, s.Fetches u → s.Fetches (f u a)) (as : List α) :
    s.Fetches (as.foldl f t) := by
  induction as generalizing t with
  | nil => exact h
  | cons a as ih => exact ih (hf t a h)

theorem modFetch (h : s.Fetches t) (x : Option (Quarter × Bool)) : s.Fetches (t.modPlayers fun y => { y with clockFetch := x }) :=
  h.trans ⟨rfl, rfl, rfl, rfl, rfl⟩

theorem modBuffer (h : s.Fetches t) (q : Quarter) (f : Buffer → Buffer) : s.Fetches (t.modBuffer q f) :=
  h.trans ⟨rfl, rfl, rfl, rfl, rfl⟩

theorem modStore (h : s.Fetches t) (f : Store → Store) : s.Fetches (t.modStore f) := h.trans ⟨rfl, rfl, rfl, rfl, rfl⟩

theorem assignBuffer (h : s.Fetches t) (q : Quarter) (x : Option TuneSlot) : s.Fetches (t.assignBuffer q x) := by
  cases x with
  | none => exact (h.modFetch _).modBuffer ..
  | some x =>
    change s.Fetches (t.wantBuffer q x)
    unfold State.wantBuffer
    split
    · exact ite ((h.modFetch _).modBuffer ..) (h.modBuffer ..)
    · exact h.modBuffer ..

theorem assignBufferWhenFree (h : s.Fetches t) (q : Quarter) (x : Option TuneSlot) : s.Fetches (t.assignBufferWhenFree q x) :=
  ite (h.modBuffer ..) (h.assignBuffer q x)

theorem requestFetch (h : s.Fetches t) : s.Fetches t.requestFetch := by
  unfold State.requestFetch
  refine ite h ?_
  split
  · split
    · exact ite (((h.modFetch _).modBuffer ..).modStore _) (((h.modFetch _).modBuffer ..).modStore _)
    · exact h
  · exact h

theorem releaseBuffer (h : s.Fetches t) (q : Quarter) : s.Fetches (t.releaseBuffer q) := by
  unfold State.releaseBuffer
  split
  · exact (h.assignBuffer ..).requestFetch
  · exact h

/-- The buffers are given the slots of a program. -/
theorem fillBuffers (h : s.Fetches t) (p : Program) (date : Bool) : s.Fetches (((List.finRange 4).foldl (fun s q =>
    if date || (s.players.buffers.get q).target != p.tunes.get q then s.assignBufferWhenFree q (p.tunes.get q) else s)
    t).requestFetch) :=
  (h.foldl (fun _ _ c => .ite (c.assignBufferWhenFree ..) c) _).requestFetch

end State.Fetches

namespace State.RunsGoOn

variable {s t u : State}

theorem of_same (quarter : t.players.quarterRun = s.players.quarterRun) (hour : t.players.hourRun = s.players.hourRun)
    (queue : t.engine.queue = s.engine.queue) : s.RunsGoOn t :=
  ⟨⟨QuarterRun.counts, by simp [quarter]⟩, fun _ => hour, hour.trans, fun _ he => queue ▸ he⟩

theorem of_settles {guarded : Prop} (h : s.Settles guarded t) : s.RunsGoOn t :=
  ⟨h.players.quarter, h.players.hour, h.players.gone, h.queue⟩

theorem trans (h : s.RunsGoOn t) (g : t.RunsGoOn u) : s.RunsGoOn u where
  quarter := by
    obtain ⟨x, hx⟩ := h.quarter
    obtain ⟨y, hy⟩ := g.quarter
    exact ⟨fun r => y { r with counts := x r }, by rw [hy, hx, Option.map_map]; rfl⟩
  hour silent := (g.hour fun e he => silent e (h.queue he)).trans (h.hour silent)
  gone none := g.gone (h.gone none)
  queue _ he := h.queue (g.queue he)

/-- A change of blocks other than the players and the strike engine. -/
theorem of_frame {L : List Block} (h : s.changesOnly L t) (players : Block.players ∉ L := by decide)
    (engine : Block.engine ∉ L := by decide) : s.RunsGoOn t := by
  have p : t.players = s.players := h .players players
  have e : t.engine = s.engine := h .engine engine
  exact of_same (by rw [p]) (by rw [p]) (by rw [e])

/-- A program hand-over to a clock player that holds no announcement. -/
theorem chimeHandOver (s : State) (none : s.players.held = []) (p : Program) (date : Bool) : s.RunsGoOn (s.chimeHandOver p date) := by
  obtain ⟨-, held, quarter, hour, engine⟩ :=
    (Fetches.refl (s.modPlayers fun y => { y with program := some p })).fillBuffers p date
  unfold State.chimeHandOver
  dsimp only at held ⊢
  rw [held, modPlayers_players, none]
  exact of_same quarter hour (congrArg Engine.queue engine)

/-- A date change on a clock player that holds no announcement. -/
theorem dateChange (s : State) (none : s.players.held = []) (quiet : Bool) : s.RunsGoOn (s.dateChange quiet) := by
  have chosen (f : Calendar → Calendar) : s.RunsGoOn (s.modCal f) := of_same rfl rfl rfl
  have handed (f : Calendar → Calendar) (p : Program) := (chosen f).trans (chimeHandOver (s.modCal f) none p true)
  have rung (u : State) (d : Date) (slots : List RingSlot) : u.RunsGoOn (u.swingHandOver d slots) := by
    unfold swingHandOver
    exact (of_same (s := u) (t := u.modSwing fun w => { w with day := some (d, slots), held := w.held.filter fun x => x.1 != d })
      rfl rfl rfl).trans (of_settles ((Settles.refl (guarded := False) _).foldl fun _ _ _ c => c.actOnMinute ..))
  exact ((handed _ _).trans (rung _ _ _)).trans (of_frame
    (lightHandOver_within (changesOnly.refl [.lights, .link, .signals] _) (List.Subset.refl _) _ _ _ _))

end State.RunsGoOn

namespace State

/-! ## The stages of a correction, in two parts -/

/-- The first stages: the hour-ahead is withdrawn, and the quarters passed over are recorded (R6 stages 3 and 4). -/
def passOver (before : LocalTime) (record : Bool) (s : State) : State :=
  let s := s.withdrawHourAhead
  if record && s.localTime.later before then s.recordMissed (max s.guardNumber before.quarter.number) else s

/-- The last stages, from the evaluation of the dials on (R6 stages 6 to 8). -/
def announceChange (before : LocalTime) (setValid : Bool) (s : State) : State :=
  let s := s.evaluateDials
  let s := s.lightTimeChange before s.localTime
  let s := if setValid || s.localTime.date != before.date then s.dateChange false else s
  s.raiseAll .time

theorem correct_eq (before : LocalTime) (record setValid : Bool) (s : State) :
    s.correct before record setValid = (s.passOver before record).giveHourAhead.announceChange before setValid := rfl

variable (s : State) (before : LocalTime) (record setValid : Bool)

/-! ### The timekeeper -/

theorem localTime_of_sameClock {s t : State} (h : s.tk.SameClock t.tk) : t.localTime = s.localTime := by
  unfold localTime
  rw [h.counters, h.dstInForce]

/-- A withdrawal takes the hour-ahead, and no more of the timekeeper. -/
theorem withdrawHourAhead_tk : s.withdrawHourAhead.tk = { s.tk with hourAhead := none } := by
  unfold withdrawHourAhead
  split
  · rw [chimeWithdrawn_tk]
    rfl
  · rename_i none
    rw [← none]

theorem passOver_sameClock : s.tk.SameClock (s.passOver before record).tk := by
  have withdrawn : s.tk.SameClock s.withdrawHourAhead.tk := by
    rw [withdrawHourAhead_tk]
    exact ⟨rfl, rfl, rfl, rfl, rfl, rfl, rfl, rfl⟩
  unfold passOver
  dsimp only
  split
  · exact withdrawn.trans (recordMissed_sameClock ..)
  · exact withdrawn

theorem announceChange_tk : (s.announceChange before setValid).tk = s.tk := by
  unfold announceChange
  dsimp only
  rw [raiseAll_tk]
  split <;> simp only [dateChange_tk, lightTimeChange_tk, evaluateDials_tk]

theorem correct_sameClock : s.tk.SameClock (s.correct before record setValid).tk := by
  rw [correct_eq, announceChange_tk]
  exact (s.passOver_sameClock before record).trans (giveHourAhead_sameClock _)

theorem passOver_hourAhead : (s.passOver before record).tk.hourAhead = none := by
  have withdrawn : s.withdrawHourAhead.tk.hourAhead = none := by rw [withdrawHourAhead_tk]
  unfold passOver recordMissed
  dsimp only
  split
  · split <;> exact withdrawn
  · exact withdrawn

/-- Where an hour-ahead is given, and where none is (R15). -/
theorem giveHourAhead_tk : s.giveHourAhead.tk =
    if s.tk.timeValid = true ∧ s.localTime.minute = 59 ∧ s.localTime.nextHour.laterThan s.tk.guard = true then
      { s.tk with
        hourAhead := some
          { date := s.localTime.nextHour.date, hour := s.localTime.nextHour.index / 4
            count := s.now + (15360 - (s.localTime.second * 256 + s.localTime.tick)) } }
    else s.tk := by
  have given : (s.tk.timeValid && s.localTime.minute == 59 && s.localTime.nextHour.laterThan s.tk.guard) = true ↔
      s.tk.timeValid = true ∧ s.localTime.minute = 59 ∧ s.localTime.nextHour.laterThan s.tk.guard = true := by
    simp [and_assoc]
  unfold giveHourAhead
  dsimp only
  rw [if_congr given rfl rfl]
  split
  · rw [chimeAnnounced_tk]
    rfl
  · rfl

/-- Without an hour-ahead to give, nothing is announced. -/
theorem giveHourAhead_of_not (h : ¬(s.tk.timeValid = true ∧ s.localTime.minute = 59 ∧
    s.localTime.nextHour.laterThan s.tk.guard = true)) : s.giveHourAhead = s := by
  unfold giveHourAhead
  dsimp only
  rw [if_neg]
  simpa [and_assoc] using h

theorem announceChange_keeps : s.Keeps (s.announceChange before setValid) := by
  have lit := ((Keeps.refl s).evaluateDials).lightTimeChange before s.evaluateDials.localTime
  unfold announceChange
  exact (Keeps.ite (lit.dateChange false) lit).raiseAll .time

end State
end Sys2Proof.Machine
end

section
/-! PROOFS. A correction records the quarters passed over and moves the hour-ahead: what the statements about SET-TIME, SET-DST and
the daylight flag share (R6, R11, R14, R15, R107). -/

namespace Sys2Proof.Machine.State

/-! ## Notices that stay pending -/

/-- A notice raised on all ports stands pending on each. -/
theorem noticed_raiseAll (s : State) (k : NoticeKind) : (s.raiseAll k).noticedAll k := by
  intro p
  have raised : ((s.raiseAll k).port p).notices = (s.port p).notices ||| k.bit := by
    rw [raiseAll_eq, port]
    exact congrArg PortRec.notices (PerPort.get_map ..)
  rw [noticed, raised, BitVec.or_comm]
  refine notices_or_ne_zero _ ?_
  rw [BitVec.and_self]
  cases k <;> decide

theorem Keeps.noticedAll {s t : State} {k : NoticeKind} (h : s.Keeps t) (n : s.noticedAll k) : t.noticedAll k :=
  fun p => h.link.notices k p (n p)

/-! ## The withdrawal at the clock player -/

/-- The quarter run ends, and what its buffer waited for is filled. -/
theorem endQuarterRun_fetches (s : State) : (s.modPlayers fun y => { y with quarterRun := none }).Fetches s.endQuarterRun := by
  unfold endQuarterRun
  split
  · exact (Fetches.refl _).releaseBuffer _
  · rename_i none
    exact ⟨rfl, rfl, none, rfl, rfl⟩

/-- The withdrawal of an hour-ahead ends the runs from it, and leaves the others and the strike engine (R107). -/
structure Withdraws (h : HourAhead) (s t : State) : Prop where
  held : t.players.held = s.players.held.filter fun x => x != .hourAhead h
  quarter : t.players.quarterRun =
    if (s.players.quarterRun.any fun r => r.ahead == some h.count) = true then none else s.players.quarterRun
  hour : t.players.hourRun =
    if (s.players.hourRun.any fun r => r.instant == h.count) = true then none else s.players.hourRun
  engine : t.engine = s.engine

theorem chimeWithdrawn_withdraws (s : State) (h : HourAhead) : s.Withdraws h (s.chimeWithdrawn h) := by
  unfold chimeWithdrawn
  extract_lets dropped ended
  obtain ⟨held, quarter, hour, engine⟩ : ended.players.held = (s.players.held.filter fun x => x != .hourAhead h) ∧
      ended.players.quarterRun =
        (if (s.players.quarterRun.any fun r => r.ahead == some h.count) = true then none else s.players.quarterRun) ∧
      ended.players.hourRun = s.players.hourRun ∧ ended.engine = s.engine := by
    have fetched := endQuarterRun_fetches dropped
    simp only [ended]
    split
    · rename_i from_it
      exact ⟨fetched.held, fetched.quarter.trans (if_pos from_it).symm, fetched.hour, fetched.engine⟩
    · rename_i other
      exact ⟨rfl, (if_neg other).symm, rfl, rfl⟩
  split
  · rename_i from_it
    rw [hour] at from_it
    exact ⟨held, quarter, (if_pos from_it).symm, engine⟩
  · rename_i other
    rw [hour] at other
    exact ⟨held, quarter, hour.trans (if_neg other).symm, engine⟩

theorem withdrawHourAhead_withdraws {s : State} {h : HourAhead} (ahead : s.tk.hourAhead = some h) :
    s.Withdraws h s.withdrawHourAhead := by
  unfold withdrawHourAhead
  rw [ahead]
  obtain ⟨held, quarter, hour, engine⟩ := chimeWithdrawn_withdraws (s.modTk fun k => { k with hourAhead := none }) h
  exact ⟨held, quarter, hour, engine⟩

/-- The record of quarters passed over does not reach the clock player. -/
theorem passOver_players (s : State) (before : LocalTime) (record : Bool) :
    (s.passOver before record).players = s.withdrawHourAhead.players ∧
      (s.passOver before record).engine = s.withdrawHourAhead.engine := by
  unfold passOver recordMissed
  dsimp only
  split
  · split <;> exact ⟨rfl, rfl⟩
  · exact ⟨rfl, rfl⟩

/-- The last stages of a correction let the clock player's runs go on, where it holds no announcement. -/
theorem announceChange_runsGoOn (s : State) (before : LocalTime) (setValid : Bool) (none : s.players.held = []) :
    s.RunsGoOn (s.announceChange before setValid) := by
  have lit : s.changesOnly [.dials, .lights, .link, .signals] (s.evaluateDials.lightTimeChange before s.evaluateDials.localTime) :=
    lightTimeChange_within (evaluateDials_within (changesOnly.refl _ s) (by decide)) (by decide) _ _
  have held : (s.evaluateDials.lightTimeChange before s.evaluateDials.localTime).players.held = [] := by
    rw [show _ = s.players from lit .players (by decide)]
    exact none
  have notice (u : State) : u.RunsGoOn (u.raiseAll .time) := .of_same rfl rfl rfl
  unfold announceChange
  dsimp only
  split
  · exact ((RunsGoOn.of_frame lit).trans (.dateChange _ held false)).trans (notice _)
  · exact (RunsGoOn.of_frame lit).trans (notice _)

/-! ## What a correction does -/

section

variable {s u t : State} {before : LocalTime} {record setValid : Bool}

/-- After a correction the hour-ahead is as its own local time and guard have it (R6, R11, R15). -/
theorem correctsHourAhead_of_correct (ahead : u.tk.hourAhead = s.tk.hourAhead) (players : u.players = s.players)
    (engine : u.engine = s.engine) (count : u.now = s.now) (tk : t.tk = (u.correct before record setValid).tk)
    (runs : (u.correct before record setValid).RunsGoOn t) : s.correctsHourAhead t := by
  rw [correct_eq] at tk runs
  rw [announceChange_tk] at tk
  have passed := u.passOver_sameClock before record
  have given := giveHourAhead_sameClock (u.passOver before record)
  have time : t.localTime = (u.passOver before record).localTime := localTime_of_sameClock (tk ▸ given)
  have valid : t.tk.timeValid = (u.passOver before record).tk.timeValid := tk ▸ given.timeValid
  have guard : t.tk.guard = (u.passOver before record).tk.guard := by
    rw [tk, giveHourAhead_tk]
    split <;> rfl
  unfold correctsHourAhead
  dsimp only
  rw [time, valid, guard]
  refine ⟨fun give => ?_, fun none => ?_⟩
  · rw [tk, giveHourAhead_tk, if_pos give]
    have now : (u.passOver before record).now = s.now := (passed.runCount).trans count
    rw [now]
  · rw [giveHourAhead_of_not _ none] at tk runs
    refine ⟨tk ▸ u.passOver_hourAhead before record, fun h outstanding empty => ?_⟩
    obtain ⟨held, quarter, hour, same⟩ := withdrawHourAhead_withdraws (ahead.trans outstanding)
    obtain ⟨samePlayers, sameEngine⟩ := u.passOver_players before record
    rw [← samePlayers, players] at held quarter hour
    rw [← sameEngine, engine] at same
    have goOn := (announceChange_runsGoOn _ before setValid (held.trans (by rw [empty]; rfl))).trans runs
    refine ⟨fun r run => ⟨fun it => ?_, fun other => ?_⟩, fun r run => ⟨fun it => ?_, fun other quiet => ?_⟩⟩
    · obtain ⟨counts, e⟩ := goOn.quarter
      rw [e, quarter, run]
      simp [it]
    · obtain ⟨counts, e⟩ := goOn.quarter
      refine ⟨{ r with counts := counts r }, ?_, rfl, rfl⟩
      rw [e, quarter, run]
      simp [other]
    · refine goOn.gone ?_
      rw [hour, run]
      simp [it]
    · rw [goOn.hour (by unfold noBlowQueued; rw [same]; exact quiet), hour, run]
      simp [other]

/-- A correction records the quarters that local time has passed over since `before` (R14). -/
theorem recordsPassed_of_correct (valid : record = s.tk.timeValid) (count : u.tk.missedCount = s.tk.missedCount)
    (last : u.tk.lastMissed = s.tk.lastMissed) (tk : t.tk = (u.correct before record setValid).tk)
    (kept : (u.correct before record setValid).noticedAll .chime → t.noticedAll .chime) : s.recordsPassed t u.tk.guard before := by
  have time : t.localTime = u.localTime := localTime_of_sameClock (tk ▸ u.correct_sameClock before record setValid)
  have withdrawn : u.withdrawHourAhead.localTime = u.localTime := by
    unfold localTime
    rw [withdrawHourAhead_tk]
  have chimes : (u.passOver before record).noticedAll .chime → t.noticedAll .chime := fun raised =>
    kept ((((Keeps.refl _).giveHourAhead).trans (announceChange_keeps _ before setValid)).noticedAll raised)
  have unchanged : t.tk.guard = (u.passOver before record).tk.guard ∧
      t.tk.missedCount = (u.passOver before record).tk.missedCount ∧
      t.tk.lastMissed = (u.passOver before record).tk.lastMissed := by
    rw [tk, correct_eq, announceChange_tk, giveHourAhead_tk]
    split <;> exact ⟨rfl, rfl, rfl⟩
  obtain ⟨guard, missed, lastMissed⟩ := unchanged
  unfold recordsPassed
  dsimp only
  rw [time, guard, missed, lastMissed]
  have number : u.withdrawHourAhead.guardNumber = (u.tk.guard.map QuarterInstant.number).getD 0 := by
    unfold guardNumber
    rw [withdrawHourAhead_tk]
  constructor
  · rintro ⟨on, later, passes⟩
    have raised : u.passOver before record =
        ((u.withdrawHourAhead.modTk fun k =>
          { k with missedCount := bumpBy k.missedCount (u.localTime.quarter.number -
                      max ((u.tk.guard.map QuarterInstant.number).getD 0) before.quarter.number)
                   lastMissed := some u.localTime.quarter
                   guard := some u.localTime.quarter }).raiseAll .chime) := by
      unfold passOver recordMissed
      dsimp only
      rw [withdrawn, number, valid, on, later, Bool.true_and, if_pos rfl, if_pos passes]
    rw [raised] at chimes ⊢
    rw [raiseAll_tk, modTk_tk, withdrawHourAhead_tk]
    refine ⟨rfl, rfl, ?_, chimes (noticed_raiseAll _ .chime)⟩
    dsimp only
    rw [count]
    rfl
  · intro stays
    have same : u.passOver before record = u.withdrawHourAhead := by
      unfold passOver recordMissed
      dsimp only
      rw [withdrawn, number, valid]
      by_cases moves : (s.tk.timeValid && u.localTime.later before) = true
      · rw [if_pos moves, if_neg]
        intro passes
        rw [Bool.and_eq_true] at moves
        exact stays ⟨moves.1, moves.2, passes⟩
      · rw [if_neg moves]
    rw [same, withdrawHourAhead_tk]
    exact ⟨rfl, count, last⟩

end

end Sys2Proof.Machine.State
end

section
/-! PROOFS. SET-TIME, SET-DST and SET-TICK (R4 to R6, R8, R10, R18). -/

namespace Sys2Proof.Machine.State

/-! ## Answers -/

theorem responds_respond (p : Port) (code : Byte) (a : Answer) :
    (respond p code a).responds p code a.status a.payload := by
  unfold responds respond
  rw [port_modPort, if_pos rfl]

theorem noticedAll_respond {k : NoticeKind} {a : Answer} (h : a.state.noticedAll k) (p : Port) (code : Byte) :
    (respond p code a).noticedAll k := by
  intro q
  unfold noticed respond
  rw [port_modPort]
  split
  · subst q
    exact h p
  · exact h q

/-- An accepted request whose parameters read as `x` goes to its owner with `x`. -/
theorem parsed_accepted {s : State} {p : Port} {code : Byte} {l : List Byte} {r : Rd α} {x : α} (h : s.accepts p code l)
    (reads : readAll r l = some x) (owner : α → State → Answer) :
    s.request p code l (parsed r l owner) = respond p code (owner x (s.takeFrame p false false)) := by
  rw [request_accepted h]
  unfold parsed
  rw [reads]

/-! ## A correction that is answered -/

section

variable (u : State) (before : LocalTime) (record setValid : Bool) (p : Port) (code : Byte) (l : List Byte)

/-- The state after a correction, its signals and its answer. -/
def corrects : State := respond p code ((u.correct before record setValid).settle.ok l)

theorem corrects_tk : (u.corrects before record setValid p code l).tk = (u.correct before record setValid).tk :=
  settle_tk _

theorem corrects_noticedAll {k : NoticeKind} (h : (u.correct before record setValid).noticedAll k) :
    (u.corrects before record setValid p code l).noticedAll k :=
  noticedAll_respond (a := (u.correct before record setValid).settle.ok l) ((Keeps.refl _).settle.noticedAll h) p code

theorem corrects_time : (u.corrects before record setValid p code l).noticedAll .time :=
  corrects_noticedAll _ _ _ _ _ _ _ (by
    rw [correct_eq]
    exact noticed_raiseAll _ .time)

theorem corrects_runs : (u.correct before record setValid).RunsGoOn (u.corrects before record setValid p code l) :=
  (RunsGoOn.of_settles (Settles.refl (guarded := False) _).settle).trans
    (.of_same (s := (u.correct before record setValid).settle) rfl rfl rfl)

theorem corrects_responds : (u.corrects before record setValid p code l).responds p code .ok l :=
  responds_respond _ _ _

theorem corrects_hourAhead {s : State} (ahead : u.tk.hourAhead = s.tk.hourAhead) (players : u.players = s.players)
    (engine : u.engine = s.engine) (count : u.now = s.now) :
    s.correctsHourAhead (u.corrects before record setValid p code l) :=
  correctsHourAhead_of_correct ahead players engine count (corrects_tk ..) (corrects_runs ..)

theorem corrects_passed {s : State} (count : u.tk.missedCount = s.tk.missedCount) (last : u.tk.lastMissed = s.tk.lastMissed) :
    s.recordsPassed (u.corrects before s.tk.timeValid setValid p code l) u.tk.guard before :=
  recordsPassed_of_correct rfl count last (corrects_tk ..) (corrects_noticedAll _ _ _ _ _ _ _)

theorem corrects_sameClock : u.tk.SameClock (u.corrects before record setValid p code l).tk :=
  corrects_tk .. ▸ u.correct_sameClock ..

end

/-- No local time is later than itself. -/
theorem later_self (l : LocalTime) : l.later l = false := by
  simp [LocalTime.later]

/-- Where local time, the guard and the record stay, nothing is passed over. -/
theorem recordsPassed_of_same {s t : State} (time : t.localTime = s.localTime) (guard : t.tk.guard = s.tk.guard)
    (count : t.tk.missedCount = s.tk.missedCount) (last : t.tk.lastMissed = s.tk.lastMissed) :
    s.recordsPassed t s.tk.guard s.localTime := by
  refine ⟨fun ⟨_, passes, _⟩ => ?_, fun _ => ⟨guard, count, last⟩⟩
  rw [time, later_self] at passes
  exact absurd passes Bool.false_ne_true

/-! ## SET-TIME -/

theorem exec_setTime {s : State} {p : Port} {l : List Byte} {c : Counters} (h : s.accepts p 0x10 l)
    (reads : readAll rSetTime l = some c) :
    exec (.setTime p l) s = .next (respond p 0x10 (ownSetTime c (s.takeFrame p false false))) :=
  congrArg Host.Outcome.next (parsed_accepted h reads ownSetTime)

theorem slews_iff (s : State) (delta : Int) :
    s.slews delta = true ↔ s.tk.timeValid = true ∧ s.tk.counters ≠ .final ∧ -512 ≤ delta ∧ delta ≤ 512 := by
  simp only [slews, Counters.stopped, Bool.and_eq_true, Bool.not_eq_true', beq_eq_false_iff_ne, decide_eq_true_eq,
    and_assoc, ne_eq]
  exact Iff.rfl

/-- A step takes the named instant, and is corrected from the local time before (R6). -/
theorem ownSetTime_of_not_slews {s : State} {c : Counters} (h : s.slews (s.correction c) = false) (p : Port) :
    respond p 0x10 (ownSetTime c (s.takeFrame p false false)) =
      ((((s.takeFrame p false false).modTk fun k =>
        { k with counters := c, divider := 0, slew := 0, timeValid := true }).setInForce).corrects s.localTime s.tk.timeValid
          (!s.tk.timeValid) p 0x10 (le 1 1 ++ leInt 4 (limitDelta (s.correction c)))) := by
  refine congrArg (respond p 0x10) (if_neg (c := s.slews (s.correction c) = true) ?_)
  rw [h]
  exact Bool.false_ne_true

theorem setTimeSlews {s : State} {p : Port} {l : List Byte} {c : Counters} (h : s.accepts p 0x10 l)
    (reads : readAll rSetTime l = some c) (slews : s.slews (s.correction c) = true) :
    exec (.setTime p l) s = .next ((s.modTk fun k => { k with slew := s.correction c * 128 }).answers p 0x10 .ok
      (le 1 0 ++ leInt 4 (s.correction c))) := by
  obtain ⟨-, -, low, high⟩ := (s.slews_iff _).mp slews
  have within : limitDelta (s.correction c) = s.correction c := by
    unfold limitDelta
    omega
  have slewed : ownSetTime c (s.takeFrame p false false) =
      ((s.takeFrame p false false).modTk fun k => { k with slew := s.correction c * 128 }).ok
        (le 1 0 ++ leInt 4 (limitDelta (s.correction c))) :=
    if_pos (c := s.slews (s.correction c) = true) slews
  rw [exec_setTime h reads, slewed, within, ← respond_takeFrame]
  rfl

end Sys2Proof.Machine.State

namespace Sys2Proof.Machine

open State in
/-- Settles O17: a slew is exact; a step is a correction from the local time before, and its stages say the rest. -/
theorem setTimeSlewsOrSteps : Obligations.SetTimeSlewsOrSteps := by
  intro p l c s accepted reads
  refine ⟨fun valid runs low high => ?_, fun steps => ?_⟩
  · exact setTimeSlews accepted reads ((s.slews_iff _).mpr ⟨valid, runs, low, high⟩)
  · have not : s.slews (s.correction c) = false := by
      rw [← Bool.not_eq_true, s.slews_iff]
      rintro ⟨valid, runs, low, high⟩
      rcases steps with invalid | stopped | below | above
      · exact absurd valid (by rw [invalid]; decide)
      · exact runs stopped
      · exact absurd low (Int.not_le.mpr below)
      · exact absurd high (Int.not_le.mpr above)
    refine ⟨_, exec_setTime accepted reads, ?_⟩
    rw [ownSetTime_of_not_slews not]
    have clock := corrects_sameClock (((s.takeFrame p false false).modTk fun k =>
      { k with counters := c, divider := 0, slew := 0, timeValid := true }).setInForce) s.localTime s.tk.timeValid
      (!s.tk.timeValid) p 0x10 (le 1 1 ++ leInt 4 (limitDelta (s.correction c)))
    exact ⟨corrects_responds .., clock.counters, clock.divider, clock.slew, clock.timeValid, clock.dstInForce, clock.runCount,
      corrects_time _ _ _ _ _ _ _, corrects_hourAhead _ _ _ _ _ _ _ rfl rfl rfl rfl, corrects_passed _ _ _ _ _ _ rfl rfl⟩

/-! ## SET-DST and SET-TICK -/

namespace State

theorem exec_setDst {s : State} {p : Port} {l : List Byte} {r : DstRule} (h : s.accepts p 0x12 l)
    (reads : readAll rSetDst l = some r) :
    exec (.setDst p l) s = .next (respond p 0x12 (ownSetDst r (s.takeFrame p false false))) :=
  congrArg Host.Outcome.next (parsed_accepted h reads ownSetDst)

variable {s : State} {r : DstRule}

/-- Where the flag stays, the rule is written and the signals that stood are delivered. -/
theorem ownSetDst_of_same (same : r.inForceAt s.tk.counters = s.tk.dstInForce) (p : Port) :
    ownSetDst r (s.takeFrame p false false) =
      (((s.takeFrame p false false).modTk fun k => { k with dstRule := r }).settle.ok []) := by
  unfold ownSetDst evaluateDst
  exact congrArg (fun u : State => u.settle.ok []) (if_pos same)

/-- Where the flag changes, local time is corrected from what it was (R10, R11). -/
theorem ownSetDst_of_changed (changed : r.inForceAt s.tk.counters ≠ s.tk.dstInForce) (p : Port) :
    respond p 0x12 (ownSetDst r (s.takeFrame p false false)) =
      ((((s.takeFrame p false false).modTk fun k => { k with dstRule := r }).setInForce).corrects s.localTime s.tk.timeValid
        false p 0x12 []) := by
  unfold ownSetDst evaluateDst
  exact congrArg (fun u : State => respond p 0x12 (u.settle.ok [])) (if_neg changed)

end State

open State in
/-- Settles O18: a rule that leaves the flag is written and no more; one that changes it is a correction from the local time
before. -/
theorem daylightRuleAndTaps : Obligations.DaylightRuleAndTaps := by
  intro p l s
  refine ⟨fun r accepted reads => ⟨?_, fun same quiet => ?_⟩, fun x accepted reads => ?_⟩
  · refine ⟨_, exec_setDst accepted reads, ?_⟩
    by_cases same : r.inForceAt s.tk.counters = s.tk.dstInForce
    · rw [ownSetDst_of_same same]
      have tk : (respond p 0x12 (((s.takeFrame p false false).modTk fun k => { k with dstRule := r }).settle.ok [])).tk =
        { s.tk with dstRule := r } := settle_tk _
      refine ⟨responds_respond .., ?_, ?_, ?_, ?_, ?_, ?_, ?_, ?_, fun changed => absurd same changed⟩
      · rw [tk]
      · rw [tk, same]
      · rw [tk]
      · rw [tk]
      · rw [tk]
      · rw [tk]
      · rw [tk]
      · refine recordsPassed_of_same ?_ (by rw [tk]) (by rw [tk]) (by rw [tk])
        unfold localTime
        rw [tk]
    · rw [ownSetDst_of_changed same]
      have clock := corrects_sameClock (((s.takeFrame p false false).modTk fun k => { k with dstRule := r }).setInForce)
        s.localTime s.tk.timeValid false p 0x12 []
      exact ⟨corrects_responds .., clock.dstRule, clock.dstInForce, clock.counters, clock.divider, clock.slew,
        clock.timeValid, clock.runCount, corrects_passed _ _ _ _ _ _ rfl rfl,
        fun _ => ⟨corrects_time _ _ _ _ _ _ _, corrects_hourAhead _ _ _ _ _ _ _ rfl rfl rfl rfl⟩⟩
  · rw [exec_setDst accepted reads, ownSetDst_of_same same,
      settle_of_quiet (s := modTk _ (takeFrame p false false s)) quiet, ← respond_takeFrame]
    rfl
  · refine (congrArg Host.Outcome.next (parsed_accepted accepted reads (ownSetTick p))).trans ?_
    rw [← respond_takeFrame]
    rfl

end Sys2Proof.Machine
end

section
/-! PROOFS. The boundaries of a tick end as stages (R11, R13, R15 to R18): which blocks each stage may change, and what the
timekeeper holds after them. -/

namespace Sys2Proof.Machine

/-- A tick that completes a second leaves the tick counter at 0 (R1). -/
theorem Counters.advance_tick_zero {c : Counters} (tick : c.tick = 255) : c.advance.tick = 0 := by
  unfold Counters.advance Counters.withDate
  simp only [tick, Nat.lt_irrefl, if_false]
  split
  · rfl
  · split
    · rfl
    · split <;> rfl

namespace State

/-! ## The stages -/

variable (s : State) (l : LocalTime)

/-- The stages at which the clock player hears of a quarter or of the coming hour (R13, R15). -/
def chimesReached : State :=
  let l := s.localTime
  let s := if l.second = 0 ∧ l.minute % 15 = 0 then s.quarterReached l else s
  if l.second = 0 ∧ l.minute = 59 then s.giveHourAhead else s

/-- The stages up to the date change (R16). -/
def dateReached : State :=
  let l := s.localTime
  let s := s.chimesReached
  if l.second = 0 ∧ l.minuteOfDay = 0 then s.dateChange false else s

/-- The stages up to the minute announcement (R17). -/
def minutesReached : State :=
  let l := s.localTime
  let s := s.dateReached
  if l.second = 0 then s.minuteReached l else s

/-- The stages before the evaluation of the daylight flag. -/
def reached : State :=
  let l := s.localTime
  let s := s.minutesReached
  let s := if l.second % 30 = 0 then s.evaluateDials else s
  s.tapsReached l

/-- Nothing changes the daylight flag at this tick end. -/
def flagStays : Prop :=
  s.tk.counters.second ≠ 0 ∨ s.tk.counters.minute ≠ 0 ∨ s.tk.dstRule.inForceAt s.tk.counters = s.tk.dstInForce

theorem boundaries_eq : s.boundaries =
    if s.reached.tk.counters.second = 0 ∧ s.reached.tk.counters.minute = 0 then s.reached.evaluateDst else s.reached := rfl

/-! ## Blocks -/

theorem chimesReached_within : s.changesOnly [.timekeeper, .engine, .players, .link, .store] s.chimesReached :=
  ite_within (giveHourAhead_within (ite_within (quarterReached_within (changesOnly.refl _ s) (List.Subset.refl _) _)
    (changesOnly.refl _ s)) (List.Subset.refl _))
    (ite_within (quarterReached_within (changesOnly.refl _ s) (List.Subset.refl _) _) (changesOnly.refl _ s))

theorem dateReached_within : s.chimesReached.changesOnly
    [.calendar, .bells, .engine, .players, .clavier, .swing, .lights, .link, .store, .signals] s.dateReached :=
  ite_within (dateChange_within (changesOnly.refl _ _) (List.Subset.refl _) false) (changesOnly.refl _ _)

theorem minutesReached_within : s.dateReached.changesOnly
    [.bells, .engine, .players, .clavier, .swing, .lights, .link, .signals] s.minutesReached :=
  ite_within (minuteReached_within (changesOnly.refl _ _) (List.Subset.refl _) _) (changesOnly.refl _ _)

theorem reached_within : s.minutesReached.changesOnly [.dials, .link] s.reached :=
  tapsReached_within (ite_within (evaluateDials_within (changesOnly.refl _ _) (List.Subset.refl _)) (changesOnly.refl _ _))
    (by decide) _

/-- From the date change on, the stages leave the timekeeper. -/
theorem reached_tk : s.reached.tk = s.chimesReached.tk := by
  have date : s.dateReached.tk = s.chimesReached.tk := s.dateReached_within .timekeeper (by decide)
  have minute : s.minutesReached.tk = s.dateReached.tk := s.minutesReached_within .timekeeper (by decide)
  have rest : s.reached.tk = s.minutesReached.tk := s.reached_within .timekeeper (by decide)
  rw [rest, minute, date]

theorem dateReached_tk : s.dateReached.tk = s.chimesReached.tk := s.dateReached_within .timekeeper (by decide)

/-! ## The timekeeper -/

/-- The hour-ahead of an hour ends at it (R15). -/
def endHourAhead : State := s.modTk fun k =>
  { k with hourAhead := if k.hourAhead.any fun h => h.date == l.date && h.hour * 4 == l.quarter.index then none
                        else k.hourAhead }

theorem quarterReached_of_later (later : (s.tk.timeValid && l.quarter.laterThan s.tk.guard) = true) :
    s.quarterReached l =
      ((s.endHourAhead l).modTk fun k => { k with guard := some l.quarter }).chimeAnnounced (.quarter l.quarter s.now) :=
  if_pos later

theorem quarterReached_of_not (not : ¬(s.tk.timeValid && l.quarter.laterThan s.tk.guard) = true) :
    s.quarterReached l = s.endHourAhead l := if_neg not

/-- The timekeeper where a quarter instant is reached by counting (R12, R13, R15). -/
theorem quarterReached_tk : (s.quarterReached l).tk =
    { (s.endHourAhead l).tk with
      guard := if (s.tk.timeValid && l.quarter.laterThan s.tk.guard) = true then some l.quarter else s.tk.guard } := by
  split
  · rename_i later
    rw [quarterReached_of_later _ _ later, chimeAnnounced_tk]
    rfl
  · rename_i not
    rw [quarterReached_of_not _ _ not]
    rfl

/-- At no quarter, or at one, the chime stages keep the clock and the record, and move the guard as R13 says. -/
structure ChimesGuard (s t : State) : Prop where
  clock : s.tk.SameClock t.tk
  guard : t.tk.guard =
    if s.localTime.second = 0 ∧ s.localTime.minute % 15 = 0 ∧
      (s.tk.timeValid && s.localTime.quarter.laterThan s.tk.guard) = true then some s.localTime.quarter else s.tk.guard
  missed : t.tk.missedCount = s.tk.missedCount
  last : t.tk.lastMissed = s.tk.lastMissed

variable {s} in
theorem ChimesGuard.giveHourAhead {t : State} (h : s.ChimesGuard t) : s.ChimesGuard t.giveHourAhead := by
  obtain ⟨clock, guard, missed, last⟩ := h
  refine ⟨clock.trans (giveHourAhead_sameClock _), ?_, ?_, ?_⟩
  · rw [← guard, giveHourAhead_tk]
    split <;> rfl
  · rw [← missed, giveHourAhead_tk]
    split <;> rfl
  · rw [← last, giveHourAhead_tk]
    split <;> rfl

theorem chimesReached_guard : s.ChimesGuard s.chimesReached := by
  have quarter : s.ChimesGuard
      (if s.localTime.second = 0 ∧ s.localTime.minute % 15 = 0 then s.quarterReached s.localTime else s) := by
    split
    · rename_i at_quarter
      have tk := s.quarterReached_tk s.localTime
      refine ⟨?_, ?_, ?_, ?_⟩
      · rw [tk]
        exact ⟨rfl, rfl, rfl, rfl, rfl, rfl, rfl, rfl⟩
      · rw [tk]
        simp only [at_quarter, true_and]
      · rw [tk]
        rfl
      · rw [tk]
        rfl
    · rename_i no_quarter
      refine ⟨.refl _, ?_, rfl, rfl⟩
      rw [if_neg]
      exact fun ⟨second, minute, _⟩ => no_quarter ⟨second, minute⟩
  unfold chimesReached
  dsimp only
  split
  · exact quarter.giveHourAhead
  · exact quarter

theorem reached_guard : s.ChimesGuard s.reached := by
  obtain ⟨clock, guard, missed, last⟩ := s.chimesReached_guard
  exact ⟨s.reached_tk ▸ clock, s.reached_tk ▸ guard, s.reached_tk ▸ missed, s.reached_tk ▸ last⟩

theorem reached_localTime : s.reached.localTime = s.localTime := localTime_of_sameClock s.reached_guard.clock

theorem reached_now : s.reached.now = s.now := s.reached_guard.clock.runCount

theorem dateReached_now : s.dateReached.now = s.now :=
  (congrArg Timekeeper.runCount s.dateReached_tk).trans s.chimesReached_guard.clock.runCount

/-! ## The daylight flag -/

variable {s}

/-- Where the flag stays, the boundaries end with the stages before it. -/
theorem boundaries_of_flagStays (stays : s.flagStays) : s.boundaries = s.reached := by
  have clock := s.reached_guard.clock
  rw [boundaries_eq]
  split
  · rename_i on_hour
    rw [clock.counters] at on_hour
    rcases stays with second | minute | same
    · exact absurd on_hour.1 second
    · exact absurd on_hour.2 minute
    · refine if_pos ?_
      change s.reached.tk.dstRule.inForceAt s.reached.tk.counters = s.reached.tk.dstInForce
      rw [clock.dstRule, clock.counters, clock.dstInForce]
      exact same
  · rfl

/-- Where the flag changes, local time is corrected last of all (R11). -/
theorem boundaries_of_flagChanges (changes : ¬s.flagStays) :
    s.boundaries = s.reached.setInForce.correct s.localTime s.tk.timeValid false := by
  have clock := s.reached_guard.clock
  simp only [flagStays, not_or, ne_eq, not_not] at changes
  obtain ⟨second, minute, other⟩ := changes
  rw [boundaries_eq, if_pos (by rw [clock.counters]; exact ⟨second, minute⟩), ← s.reached_localTime, ← clock.timeValid]
  refine if_neg ?_
  change ¬s.reached.tk.dstRule.inForceAt s.reached.tk.counters = s.reached.tk.dstInForce
  rw [clock.dstRule, clock.counters, clock.dstInForce]
  exact other

theorem boundaries_counters : s.boundaries.tk.counters = s.tk.counters := by
  have clock := s.reached_guard.clock
  by_cases stays : s.flagStays
  · rw [boundaries_of_flagStays stays, clock.counters]
  · rw [boundaries_of_flagChanges stays, ((s.reached.setInForce).correct_sameClock ..).counters]
    exact clock.counters

/-! ## A tick end that reaches a second -/

/-- The tick end that completes a second announces its boundaries. -/
theorem tick_of_boundary (on : s.power = .on) (tick : s.tk.counters.tick = 255) (runs : s.tk.counters ≠ .final) :
    s.tick = s.count.boundaries := by
  have zero : s.count.tk.counters.tick = 0 := by
    rw [count_of_running runs]
    exact Counters.advance_tick_zero tick
  refine if_pos ⟨on, zero, ?_⟩
  simpa [Counters.stopped] using runs

end State
end Sys2Proof.Machine
end

section
/-! PROOFS. What the stages of a tick end after the date change leave of the clock player, and what they make of the dial trains
and of the TICK taps (R17, R18, R35). -/

namespace Sys2Proof.Machine.State

/-! ## The clock player after the chimes were announced -/

/-- The clock player's runs go on, and neither its program nor the counts of lost chimes change. -/
structure ChimesStay (s t : State) : Prop where
  runs : s.RunsGoOn t
  program : t.players.program = s.players.program
  silent : t.engine.losses.silent = s.engine.losses.silent
  fetch : t.engine.losses.fetch = s.engine.losses.fetch

namespace ChimesStay

variable {s t u : State}

theorem trans (h : s.ChimesStay t) (g : t.ChimesStay u) : s.ChimesStay u :=
  ⟨h.runs.trans g.runs, g.program.trans h.program, g.silent.trans h.silent, g.fetch.trans h.fetch⟩

theorem of_settles {guarded : Prop} (h : s.Settles guarded t) : s.ChimesStay t :=
  ⟨.of_settles h, h.players.program, h.silent, h.fetch⟩

theorem refl (s : State) : s.ChimesStay s := of_settles (.refl (guarded := False) s)

/-- A change of blocks other than the players and the strike engine. -/
theorem of_frame {L : List Block} (h : s.changesOnly L t) (players : Block.players ∉ L := by decide)
    (engine : Block.engine ∉ L := by decide) : s.ChimesStay t := by
  have p : t.players = s.players := h .players players
  have e : t.engine = s.engine := h .engine engine
  exact ⟨.of_frame h players engine, by rw [p], by rw [e], by rw [e]⟩

/-- The quarter run of `s` is that of `t` but for its counts. -/
theorem quarterRun (h : s.ChimesStay t) {r : QuarterRun} (run : s.players.quarterRun = some r) :
    ∃ counts, t.players.quarterRun = some { r with counts := counts } := by
  obtain ⟨counts, same⟩ := h.runs.quarter
  exact ⟨counts r, by rw [same, run]; rfl⟩

end ChimesStay

theorem swingMinute_chimesStay (s : State) (d : Date) (m : Nat) (valid : Bool) : s.ChimesStay (s.swingMinute d m valid) := by
  unfold swingMinute
  split
  · exact .refl s
  · split
    · exact .of_settles ((Settles.refl s).actOnMinute d m)
    · exact .of_frame (modSwing_within (changesOnly.refl [.swing] s) (List.Subset.refl _) _)

theorem minuteReached_chimesStay (s : State) (l : LocalTime) : s.ChimesStay (s.minuteReached l) :=
  (s.swingMinute_chimesStay ..).trans (.of_frame
    (lightMinute_within (changesOnly.refl [.lights, .link, .signals] _) (List.Subset.refl _) _))

/-- From the date change on, the clock player's runs go on to the end of a tick end that leaves the flag. -/
theorem boundaries_chimesStay {s : State} (stays : s.flagStays) : s.dateReached.ChimesStay s.boundaries.settle := by
  have minute : s.dateReached.ChimesStay s.minutesReached := by
    unfold minutesReached
    dsimp only
    split
    · exact minuteReached_chimesStay ..
    · exact .refl _
  rw [boundaries_of_flagStays stays]
  exact (minute.trans (.of_frame s.reached_within)).trans (.of_settles (Settles.refl (guarded := False) _).settle)

/-! ## The dial trains -/

theorem dials_minutesReached (s : State) : s.minutesReached.dials = s.dials := by
  have chimes : s.chimesReached.dials = s.dials := s.chimesReached_within .dials (by decide)
  have date : s.dateReached.dials = s.chimesReached.dials := s.dateReached_within .dials (by decide)
  have minute : s.minutesReached.dials = s.dateReached.dials := s.minutesReached_within .dials (by decide)
  rw [minute, date, chimes]

theorem dials_tapsReached (s : State) (l : LocalTime) : (s.tapsReached l).dials = s.dials :=
  tapsReached_within (changesOnly.refl [.link] s) (List.Subset.refl _) l .dials (by decide)

/-- At each half minute every train is evaluated (R35). -/
theorem dial_reached {s : State} (half : s.localTime.second % 30 = 0) (n : Train) :
    s.reached.dial n = (s.dial n).evaluate s.localTime s.tk.timeValid s.now := by
  have tk : s.minutesReached.tk = s.chimesReached.tk :=
    (show _ = s.dateReached.tk from s.minutesReached_within .timekeeper (by decide)).trans s.dateReached_tk
  have clock : s.tk.SameClock s.minutesReached.tk := tk ▸ s.chimesReached_guard.clock
  have now : s.minutesReached.now = s.now := clock.runCount
  unfold reached
  dsimp only
  rw [if_pos half, dial, dials_tapsReached]
  change s.minutesReached.evaluateDials.dial n = _
  rw [dial_evaluateDials, localTime_of_sameClock clock, clock.timeValid, now, dial, dials_minutesReached]
  rfl

/-- An evaluation leaves a train's state, or raises DIAL (R41). -/
theorem evaluateDial_noticed (s : State) (n m : Train) :
    ((s.evaluateDial n).dial m).state = (s.dial m).state ∨ (s.evaluateDial n).noticedAll .dial := by
  unfold evaluateDial changeDial
  dsimp only
  split
  · rename_i same
    left
    rw [dial_modDial] at same ⊢
    split
    · rename_i here
      rw [here]
      simpa using same
    · rfl
  · exact .inr (noticed_raiseAll _ .dial)

/-- A train whose state the evaluation of every train changes has DIAL raised (R41). -/
theorem evaluateDials_noticed (s : State) (m : Train) (changes : (s.evaluateDials.dial m).state ≠ (s.dial m).state) :
    s.evaluateDials.noticedAll .dial := by
  have each (ns : List Train) : ∀ u : State, ((ns.foldl (fun s n => s.evaluateDial n) u).dial m).state = (u.dial m).state ∨
      (ns.foldl (fun s n => s.evaluateDial n) u).noticedAll .dial := by
    induction ns with
    | nil => exact fun u => .inl rfl
    | cons n ns ih =>
      intro u
      rcases ih (u.evaluateDial n) with same | raised
      · rcases evaluateDial_noticed u n m with here | raised
        · exact .inl (same.trans here)
        · exact .inr (((Keeps.refl _).foldl (fun _ _ h => h.evaluateDial _) ns).noticedAll raised)
      · exact .inr raised
  exact (each allTrains s).resolve_left changes

/-- A train whose state changes at the half minute has DIAL raised. -/
theorem reached_noticedDial {s : State} (half : s.localTime.second % 30 = 0) (n : Train)
    (changes : (s.reached.dial n).state ≠ (s.dial n).state) : s.reached.noticedAll .dial := by
  have same (n : Train) : s.minutesReached.dial n = s.dial n := congrArg (fun d => Table.get d n) s.dials_minutesReached
  unfold reached at changes ⊢
  dsimp only at changes ⊢
  rw [if_pos half] at changes ⊢
  rw [dial, dials_tapsReached, ← same] at changes
  exact ((Keeps.refl _).tapsReached _).noticedAll (evaluateDials_noticed _ n changes)

/-! ## The TICK taps -/

theorem noticed_raise (s : State) (k : NoticeKind) (p : Port) : (s.raise k p).noticed k p := by
  have raised : ((s.raise k p).port p).notices = (s.port p).notices ||| k.bit := by
    unfold raise
    rw [port_modPort, if_pos rfl]
  rw [noticed, raised, BitVec.or_comm]
  refine notices_or_ne_zero _ ?_
  rw [BitVec.and_self]
  cases k <;> decide

/-- Each port whose tap has its boundary has TICK raised (R18). -/
theorem tapsReached_noticed {s : State} {l : LocalTime} {p : Port} (fires : (s.tk.taps.get p).fires l = true) :
    (s.tapsReached l).noticed .tick p := by
  have each (ps : List Port) : ∀ u : State, u.tk = s.tk → p ∈ ps →
      (ps.foldl (fun s p => if (s.tk.taps.get p).fires l then s.raise .tick p else s) u).noticed .tick p := by
    induction ps with
    | nil => intro u _ h; cases h
    | cons q ps ih =>
      intro u tk mem
      rw [List.foldl_cons]
      have next : (if (u.tk.taps.get q).fires l then u.raise .tick q else u).tk = s.tk := by
        split <;> exact tk
      by_cases here : p = q
      · subst here
        rw [tk, if_pos fires] at next ⊢
        exact ((Keeps.refl _).foldl (fun _ _ h => .ite (h.raise ..) h) ps).link.notices .tick p (noticed_raise u .tick p)
      · exact ih _ next ((List.mem_cons.mp mem).resolve_left here)
  exact each [.v, .c, .s] s rfl (by cases p <;> decide)

theorem reached_noticedTick {s : State} {p : Port} (fires : (s.tk.taps.get p).fires s.localTime = true) :
    s.reached.noticed .tick p := by
  have clock := s.reached_guard.clock
  have tk : s.reached.tk.taps = s.tk.taps := clock.taps
  unfold reached at tk ⊢
  dsimp only at tk ⊢
  refine tapsReached_noticed ?_
  have same (t : State) : (t.tapsReached s.localTime).tk = t.tk :=
    tapsReached_within (changesOnly.refl [.link] t) (List.Subset.refl _) _ .timekeeper (by decide)
  rw [same] at tk
  rw [tk]
  exact fires

/-! ## Notices at the end -/

/-- The notices of the stages stand when the event ends. -/
theorem reached_keeps (s : State) : s.reached.Keeps s.boundaries.settle := by
  rw [boundaries_eq]
  exact (Keeps.ite (Keeps.refl _).evaluateDst (Keeps.refl _)).settle

end Sys2Proof.Machine.State
end

section
/-! PROOFS. What an announcement makes of the clock player: the chime of a quarter, the prepared fourth quarter, the planned hour
strike, and the losses of silence and of an unfetched tune (R103 to R106, R108). -/

namespace Sys2Proof.Machine

/-! ## The first note that sounds -/

/-- The first note that names a bell lies after the rests at the head (R103, R105). -/
theorem firstNote?_eq_some : ∀ {notes : List Note} {k : Nat} {b : Bell}, firstNote? notes = some (k, b) →
    restsAtHead notes = k ∧ k < notes.length ∧ (notes[k]?.bind fun n => bellOf? n.bell) = some b
  | [], k, b, h => by cases h
  | n :: rest, k, b, h => by
    unfold firstNote? at h
    unfold restsAtHead
    split at h
    · rename_i bell named
      obtain ⟨rfl, rfl⟩ := Prod.mk.inj (Option.some.inj h)
      simp [named]
    · rename_i unnamed
      obtain ⟨⟨k', b'⟩, first, e⟩ := Option.map_eq_some_iff.mp h
      obtain ⟨rfl, rfl⟩ := Prod.mk.inj e
      obtain ⟨rests, lt, bell⟩ := firstNote?_eq_some first
      refine ⟨?_, ?_, ?_⟩
      · simp [unnamed, rests]
      · simpa using lt
      · simpa using bell

namespace State

/-- The hand-over instant of the first note that sounds (R103). -/
theorem noteInstant_first (s : State) {notes : List Note} {k : Nat} {b : Bell} (first : firstNote? notes = some (k, b))
    (tempo start slip : Nat) : s.noteInstant notes tempo start slip k =
      start + noteOffset notes tempo k + slip - (s.config b).lead - 512 := by
  obtain ⟨-, -, bell⟩ := firstNote?_eq_some first
  unfold noteInstant
  rw [bell]
  rfl

/-! ## Losses -/

theorem lose_players (s : State) (r : DropReason) : (s.lose r).players = s.players := by
  unfold lose
  split <;> rfl

/-- A loss below the saturation of its counter is counted (R97). -/
theorem lose_losses {s : State} {r : DropReason} (below : s.engine.losses.read r < 65535) :
    (s.lose r).engine.losses = s.engine.losses.count r := by
  unfold lose
  rw [if_pos (show s.engine.losses.read r < Config.saturation from below)]
  rfl

theorem lose_silent {s : State} (below : s.engine.losses.silent < 65535) :
    (s.lose .silent).engine.losses.silent = s.engine.losses.silent + 1 := by
  rw [lose_losses (s := s) (r := .silent) below]
  exact if_pos below

theorem lose_fetch {s : State} (below : s.engine.losses.fetch < 65535) :
    (s.lose .fetch).engine.losses.fetch = s.engine.losses.fetch + 1 := by
  rw [lose_losses (s := s) (r := .fetch) below]
  exact if_pos below

/-- The silent hour loses the chime of a slot and an enabled strike, one item each (R106). -/
theorem silentHour_losses {s : State} (p : Program) (below : s.engine.losses.silent + 2 ≤ 65535) :
    (s.silentHour p).engine.losses.silent =
      s.engine.losses.silent + (p.tunes.get 3).isSome.toNat + p.hourOn.toNat := by
  have lost {t : State} (n : Bool) (below : t.engine.losses.silent < 65535) :
      (if n = true then t.chimeLost .silent else t).engine.losses.silent = t.engine.losses.silent + n.toNat := by
    cases n
    · rfl
    · exact lose_silent below
  unfold silentHour
  dsimp only
  have chime := lost (t := s) (p.tunes.get 3).isSome (by omega)
  rw [lost _ (by rw [chime]; cases (p.tunes.get 3).isSome <;> simp only [Bool.toNat_false, Bool.toNat_true] <;> omega), chime]

/-! ## Buffers -/

theorem bufferNotes_modBuffer_of_ne (s : State) {p q : Quarter} (h : q ≠ p) (f : Buffer → Buffer) :
    (s.modBuffer p f).bufferNotes q = s.bufferNotes q := by
  have same : (s.modBuffer p f).players.buffers.get q = s.players.buffers.get q := by
    change (s.players.buffers.modify p f).get q = _
    rw [Table.get_modify, if_neg h]
  unfold bufferNotes
  rw [same]

/-- A change of one buffer's slot leaves the notes of the others. -/
theorem bufferNotes_assignBuffer_of_ne (s : State) {p q : Quarter} (h : q ≠ p) (x : Option TuneSlot) :
    (s.assignBuffer p x).bufferNotes q = s.bufferNotes q := by
  cases x with
  | none => exact bufferNotes_modBuffer_of_ne _ h _
  | some x =>
    change (s.wantBuffer p x).bufferNotes q = _
    unfold wantBuffer
    split
    · split <;> exact bufferNotes_modBuffer_of_ne _ h _
    · exact bufferNotes_modBuffer_of_ne _ h _

/-- A fetch is asked for a buffer that is WANTED, so that a VALID one keeps its notes. -/
theorem bufferNotes_requestFetch {s : State} {q : Quarter} {notes : List Note} (h : s.bufferNotes q = some notes) :
    s.requestFetch.bufferNotes q = some notes := by
  have valid : (s.players.buffers.get q).state = .valid := by
    unfold bufferNotes at h
    dsimp only at h
    split at h
    · assumption
    · cases h
  unfold requestFetch
  split
  · exact h
  · split
    · rename_i p found
      have other : q ≠ p := by
        rintro rfl
        have wanted := List.find?_some found
        rw [valid] at wanted
        cases wanted
      split
      · have kept := fun t : State => bufferNotes_modBuffer_of_ne t other fun b => { b with state := .fetching }
        unfold enqueueStoreOp
        split <;> exact (kept _).trans h
      · exact h
    · exact h

/-- The end of a quarter run leaves the notes of every buffer but its own. -/
theorem bufferNotes_endQuarterRun {s : State} {q : Quarter} {notes : List Note}
    (other : ∀ r, s.players.quarterRun = some r → q ≠ r.quarter) (h : s.bufferNotes q = some notes) :
    s.endQuarterRun.bufferNotes q = some notes := by
  unfold endQuarterRun
  split
  · rename_i r run
    unfold releaseBuffer
    split
    · exact bufferNotes_requestFetch ((bufferNotes_assignBuffer_of_ne _ (other r run) _).trans h)
    · exact h
  · exact h

/-! ## Quarter runs -/

theorem beginQuarterRun_run (s : State) (r : QuarterRun) : (s.beginQuarterRun r).players.quarterRun = some r := by
  unfold beginQuarterRun
  split
  · split <;> rfl
  · rfl

/-- A run that starts now keeps the notes that its buffer holds. -/
theorem bufferNotes_beginQuarterRun {s : State} {r : QuarterRun} {notes : List Note} (starts : r.started = true)
    (h : s.bufferNotes r.quarter = some notes) : (s.beginQuarterRun r).bufferNotes r.quarter = some notes := by
  unfold beginQuarterRun
  split
  · rename_i old run
    split
    · exact h
    · rename_i not
      refine bufferNotes_endQuarterRun (s := s) (fun x e same => not ⟨?_, starts⟩) h
      rw [run] at e
      rw [Option.some.inj e, same]
  · exact h

/-- A run that starts now stands at the first note that sounds, with its instant (R103, R104). -/
theorem beginQuarterRun_advances {s : State} {r : QuarterRun} {notes : List Note} (starts : r.started = true)
    (next : r.next = 0) (valid : s.bufferNotes r.quarter = some notes) {k : Nat} {b : Bell}
    (first : firstNote? notes = some (k, b)) :
    (s.beginQuarterRun r).advanceQuarter.players.quarterRun =
      some { r with
        next := k, counts := { r.counts with skipped := r.counts.skipped + k }
        handAt := r.start + noteOffset notes r.tempo k + r.slip - (s.config b).lead - 512 } := by
  obtain ⟨rests, lt, -⟩ := firstNote?_eq_some first
  have held := bufferNotes_beginQuarterRun starts valid
  have plays : (s.beginQuarterRun r).quarterNotes r = notes := by
    unfold bufferNotes at held
    unfold quarterNotes
    dsimp only at held
    split at held
    · rw [held]
      rfl
    · cases held
  have config : (s.beginQuarterRun r).config b = s.config b :=
    congrArg (fun t : BellTable => (t.bells.get b).config)
      (beginQuarterRun_within (changesOnly.refl [.players, .store] s) (List.Subset.refl _) r .bells (by decide))
  unfold advanceQuarter
  rw [beginQuarterRun_run]
  dsimp only
  rw [plays, next, List.drop_zero, rests, Nat.zero_add, if_neg (Nat.not_le.mpr lt), noteInstant_first _ first, config]
  rfl

/-! ## The announcement of a quarter -/

section

variable {s : State} {pr : Program} {q : Quarter} {minute count : Nat}

theorem quarterChime_silent (tune : (pr.tunes.get q).isSome = true) (silent : pr.silentAt minute = true) :
    s.quarterChime pr q minute count = s.lose .silent := by
  obtain ⟨x, tune⟩ := Option.isSome_iff_exists.mp tune
  unfold quarterChime
  rw [tune]
  exact if_pos silent

theorem quarterChime_fetch (tune : (pr.tunes.get q).isSome = true) (sounds : pr.silentAt minute = false)
    (none : s.bufferNotes q = none) : s.quarterChime pr q minute count = s.lose .fetch := by
  obtain ⟨x, tune⟩ := Option.isSome_iff_exists.mp tune
  unfold quarterChime
  rw [tune]
  dsimp only
  rw [if_neg (Bool.not_eq_true _ ▸ sounds), none]
  rfl

/-- A chime whose buffer is VALID starts its run at its first note that sounds (R103, R104). -/
theorem quarterChime_starts (tune : (pr.tunes.get q).isSome = true) (sounds : pr.silentAt minute = false) {notes : List Note}
    (valid : s.bufferNotes q = some notes) {k : Nat} {b : Bell} (first : firstNote? notes = some (k, b)) :
    ∃ r, (s.quarterChime pr q minute count).players.quarterRun = some r ∧ r.quarter = q ∧ r.start = count ∧
      r.tempo = pr.tempo ∧ r.policy = pr.policy ∧ r.maxSlip = pr.maxSlip ∧ r.slip = 0 ∧ r.next = k ∧ r.started = true ∧
      r.handAt = count + noteOffset notes pr.tempo k - (s.config b).lead - 512 := by
  obtain ⟨x, tune⟩ := Option.isSome_iff_exists.mp tune
  unfold quarterChime
  rw [tune]
  dsimp only
  rw [if_neg (Bool.not_eq_true _ ▸ sounds), valid, Option.isNone_some, if_neg Bool.false_ne_true]
  exact ⟨_, beginQuarterRun_advances rfl rfl valid first, rfl, rfl, rfl, rfl, rfl, rfl, rfl, rfl, rfl⟩

end

/-! ## The announcement of the coming hour -/

section

variable {s : State} {pr : Program} {h : HourAhead}

/-- A fourth quarter whose buffer is VALID is prepared, its test still to come (R105). -/
theorem prepareFourthQuarter_prepares (tune : (pr.tunes.get 3).isSome = true) {notes : List Note}
    (valid : s.bufferNotes 3 = some notes) {k : Nat} {b : Bell} (first : firstNote? notes = some (k, b))
    (lead : (s.config b).lead ≤ 255) :
    ∃ r, (s.prepareFourthQuarter pr h).players.quarterRun = some r ∧ r.quarter = 3 ∧ r.started = false ∧
      r.start = max (h.count - tuneDuration notes pr.tempo - pr.hourGap) (s.now + 768) ∧
      r.testAt = r.start + noteOffset notes pr.tempo k - (s.config b).lead - 512 ∧ r.tempo = pr.tempo := by
  obtain ⟨x, tune⟩ := Option.isSome_iff_exists.mp tune
  unfold prepareFourthQuarter
  rw [tune, valid]
  dsimp only
  rw [first]
  dsimp only [handOverAt]
  generalize starts : max (h.count - tuneDuration notes pr.tempo - pr.hourGap) (s.now + 768) = start
  have later : s.now + 768 ≤ start := starts ▸ Nat.le_max_right ..
  have test : max s.now (start + noteOffset notes pr.tempo k + 0 - (s.config b).lead - 512) =
      start + noteOffset notes pr.tempo k - (s.config b).lead - 512 := by omega
  rw [test]
  have waits (u : State) (r : QuarterRun) (run : u.players.quarterRun = some r) (now : u.now < r.testAt) :
      u.testFourthQuarter = u := by
    unfold testFourthQuarter
    rw [run]
    dsimp only
    rw [if_pos (by simp [now])]
  have clock (r : QuarterRun) : (s.beginQuarterRun r).now = s.now :=
    congrArg Timekeeper.runCount
      (beginQuarterRun_within (changesOnly.refl [.players, .store] s) (List.Subset.refl _) r .timekeeper (by decide))
  rw [waits _ _ (beginQuarterRun_run ..) (by rw [clock]; dsimp only; omega), beginQuarterRun_run]
  exact ⟨_, rfl, rfl, rfl, rfl, rfl, rfl⟩

/-- The planning of an hour strike leaves the quarter run. -/
theorem planHourStrike_quarterRun : (s.planHourStrike pr h).players.quarterRun = s.players.quarterRun := by
  unfold planHourStrike
  split <;> rfl

theorem testFourthQuarter_queue (u : State) : u.testFourthQuarter.engine.queue = u.engine.queue := by
  have advance (v : State) : v.advanceQuarter.engine = v.engine :=
    advanceQuarter_within (changesOnly.refl [.players, .store] v) (List.Subset.refl _) .engine (by decide)
  unfold testFourthQuarter chimeNotHeld chimeLost
  split
  · split
    · rfl
    · split
      · rw [advance]
        rfl
      · split
        · rfl
        · rw [lose_queue]
          rfl
  · rfl

/-- The preparation of the fourth quarter queues no strike. -/
theorem prepareFourthQuarter_queue : (s.prepareFourthQuarter pr h).engine.queue = s.engine.queue := by
  have begin_ (r : QuarterRun) : (s.beginQuarterRun r).engine = s.engine :=
    beginQuarterRun_within (changesOnly.refl [.players, .store] s) (List.Subset.refl _) r .engine (by decide)
  unfold prepareFourthQuarter
  split
  · rfl
  · split
    · exact lose_queue ..
    · dsimp only
      rw [testFourthQuarter_queue, begin_]

/-- An enabled hour strike is planned for the hour, in place of one that stood (R108). -/
theorem takeHourAhead_plans (sounds : pr.silentAt (h.hour * 60) = false) (enabled : pr.hourOn = true) :
    ∃ r, (s.takeHourAhead pr h).players.hourRun = some r ∧ r.instant = h.count ∧ r.start = h.count ∧
      r.count = (if h.hour % 12 = 0 then 12 else h.hour % 12) ∧ r.bell = pr.hourBell ∧ r.interval = pr.hourInterval ∧
      r.cls = pr.hourClass ∧ r.policy = pr.policy ∧ r.maxSlip = pr.maxSlip ∧ r.busy = pr.busy ∧ r.slip = 0 ∧ r.next = 0 ∧
      r.state = .planned ∧ r.handAt = h.count - (s.config pr.hourBell).lead - 512 := by
  have config : (s.prepareFourthQuarter pr h).config pr.hourBell = s.config pr.hourBell :=
    congrArg (fun t : BellTable => (t.bells.get pr.hourBell).config) (prepareFourthQuarter_within
      (changesOnly.refl [.engine, .players, .link, .store] s) (List.Subset.refl _) pr h .bells (by decide))
  unfold takeHourAhead planHourStrike handOverAt
  rw [if_neg (by rw [sounds]; exact Bool.false_ne_true), if_pos enabled, config]
  exact ⟨_, rfl, rfl, rfl, rfl, rfl, rfl, rfl, rfl, rfl, rfl, rfl, rfl, rfl, rfl⟩

theorem takeHourAhead_queue (sounds : pr.silentAt (h.hour * 60) = false) :
    (s.takeHourAhead pr h).engine.queue = s.engine.queue := by
  unfold takeHourAhead
  rw [if_neg (by rw [sounds]; exact Bool.false_ne_true)]
  refine Eq.trans ?_ (prepareFourthQuarter_queue (pr := pr) (h := h))
  unfold planHourStrike
  split <;> rfl

/-- The sounding hour-ahead prepares its fourth quarter (R105). -/
theorem takeHourAhead_prepares (sounds : pr.silentAt (h.hour * 60) = false) :
    (s.takeHourAhead pr h).players.quarterRun = (s.prepareFourthQuarter pr h).players.quarterRun := by
  unfold takeHourAhead
  rw [if_neg (by rw [sounds]; exact Bool.false_ne_true), planHourStrike_quarterRun]

theorem takeHourAhead_silent (silent : pr.silentAt (h.hour * 60) = true) : s.takeHourAhead pr h = s.silentHour pr :=
  if_pos silent

end

end State
end Sys2Proof.Machine
end

section
/-! PROOFS. The chimes that a tick end announces, to the end of the event (R13, R15, R104 to R106, R108). -/

namespace Sys2Proof.Machine.State

variable {s : State}

/-! ## The states that the chime stages reach -/

theorem minuteOfDay_ne_zero {l : LocalTime} (h : l.minute ≠ 0) : l.minuteOfDay ≠ 0 := by
  unfold LocalTime.minuteOfDay
  omega

/-- At a quarter other than an hour, the chime stages are that of the quarter. -/
theorem dateReached_of_quarter (second : s.localTime.second = 0) (minute : s.localTime.minute ≠ 0)
    (quarter : s.localTime.minute % 15 = 0) : s.dateReached = s.quarterReached s.localTime := by
  unfold dateReached chimesReached
  dsimp only
  rw [if_neg fun h => minuteOfDay_ne_zero minute h.2, if_neg (by omega), if_pos ⟨second, quarter⟩]

/-- In the last minute of an hour, the chime stages are that of the hour-ahead. -/
theorem dateReached_of_hourAhead (second : s.localTime.second = 0) (minute : s.localTime.minute = 59) :
    s.dateReached = s.giveHourAhead := by
  unfold dateReached chimesReached
  dsimp only
  rw [if_neg fun h => minuteOfDay_ne_zero (by omega) h.2, if_pos ⟨second, minute⟩, if_neg (by omega)]

theorem flagStays_of_minute (minute : s.tk.counters.minute ≠ 0) : s.flagStays := .inr (.inl minute)

/-! ## The quarters -/

theorem chimeAnnounced_quarter {pr : Program} (program : s.players.program = some pr) (q : QuarterInstant) (count : Nat) :
    s.chimeAnnounced (.quarter q count) = s.takeQuarter pr q count := by
  unfold chimeAnnounced
  rw [program]

theorem chimeAnnounced_hourAhead {pr : Program} (program : s.players.program = some pr) (h : HourAhead) :
    s.chimeAnnounced (.hourAhead h) = s.takeHourAhead pr h := by
  unfold chimeAnnounced
  rw [program]

/-- The clock player with its program takes the quarter that is announced (R104). -/
theorem dateReached_takesQuarter {pr : Program} (second : s.localTime.second = 0) (minute : s.localTime.minute ≠ 0)
    (quarter : s.localTime.minute % 15 = 0) (later : (s.tk.timeValid && s.localTime.quarter.laterThan s.tk.guard) = true)
    (program : s.players.program = some pr) : s.dateReached =
      ((s.endHourAhead s.localTime).modTk fun k => { k with guard := some s.localTime.quarter }).takeQuarter pr
        s.localTime.quarter s.now := by
  rw [dateReached_of_quarter second minute quarter, quarterReached_of_later _ _ later]
  exact chimeAnnounced_quarter (s := (s.endHourAhead s.localTime).modTk _) program _ _

/-- The quarter instants of an hour's first three quarters start the chimes of these (R104). -/
theorem takeQuarter_eq (s : State) (pr : Program) {l : LocalTime} {q : Quarter} (before : q.val < 3)
    (minute : l.minute = 15 * (q.val + 1)) (count : Nat) :
    s.takeQuarter pr l.quarter count = s.quarterChime pr q l.minuteOfDay count := by
  have index : l.quarter.index * 15 = l.minuteOfDay := by
    unfold LocalTime.quarter LocalTime.minuteOfDay
    dsimp only
    omega
  have modulo : l.quarter.index % 4 = q.val + 1 := by
    unfold LocalTime.quarter
    dsimp only
    omega
  unfold takeQuarter
  rw [index, modulo]
  match q, before with
  | ⟨0, _⟩, _ => rfl
  | ⟨1, _⟩, _ => rfl
  | ⟨2, _⟩, _ => rfl

/-- What a tick end makes of a quarter that it announces to the clock player (R104, R106). -/
theorem quarter_announced {t : State} (pr : Program) {q : Quarter} (before : q.val < 3) (second : s.localTime.second = 0)
    (minute : s.localTime.minute = 15 * (q.val + 1))
    (later : (s.tk.timeValid && s.localTime.quarter.laterThan s.tk.guard) = true) (program : s.players.program = some pr)
    (tune : (pr.tunes.get q).isSome = true) (stay : s.dateReached.ChimesStay t) :
    (pr.silentAt s.localTime.minuteOfDay = true → s.engine.losses.silent < 65535 →
      t.engine.losses.silent = s.engine.losses.silent + 1) ∧
    (pr.silentAt s.localTime.minuteOfDay = false → s.bufferNotes q = none → s.engine.losses.fetch < 65535 →
      t.engine.losses.fetch = s.engine.losses.fetch + 1) ∧
    (∀ notes k b, pr.silentAt s.localTime.minuteOfDay = false → s.bufferNotes q = some notes →
      firstNote? notes = some (k, b) →
      ∃ r, t.players.quarterRun = some r ∧ r.quarter = q ∧ r.start = s.now ∧ r.tempo = pr.tempo ∧ r.policy = pr.policy ∧
        r.maxSlip = pr.maxSlip ∧ r.slip = 0 ∧ r.next = k ∧ r.started = true ∧
        r.handAt = s.now + noteOffset notes pr.tempo k - (s.config b).lead - 512) := by
  rw [dateReached_takesQuarter second (by omega) (by omega) later program, takeQuarter_eq _ pr before minute] at stay
  refine ⟨fun silent below => ?_, fun sounds none below => ?_, fun notes k b sounds valid first => ?_⟩
  · rw [stay.silent, quarterChime_silent tune silent]
    exact lose_silent (s := (s.endHourAhead s.localTime).modTk _) below
  · rw [stay.fetch, quarterChime_fetch (s := (s.endHourAhead s.localTime).modTk _) tune sounds none]
    exact lose_fetch (s := (s.endHourAhead s.localTime).modTk _) below
  · obtain ⟨r, run, chime⟩ := quarterChime_starts (s := (s.endHourAhead s.localTime).modTk _) tune sounds valid first
    obtain ⟨counts, goesOn⟩ := stay.quarterRun run
    exact ⟨_, goesOn, chime⟩

/-! ## The hour -/

/-- The hour-ahead that a tick end gives. -/
def hourAheadNow (s : State) : HourAhead :=
  { date := s.localTime.nextHour.date, hour := s.localTime.nextHour.index / 4
    count := s.now + (15360 - (s.localTime.second * 256 + s.localTime.tick)) }

/-- The clock player with its program takes the hour-ahead that is given (R105). -/
theorem dateReached_takesHourAhead {pr : Program} (second : s.localTime.second = 0) (minute : s.localTime.minute = 59)
    (valid : s.tk.timeValid = true) (later : s.localTime.nextHour.laterThan s.tk.guard = true)
    (program : s.players.program = some pr) : s.dateReached =
      (s.modTk fun k => { k with hourAhead := some s.hourAheadNow }).takeHourAhead pr s.hourAheadNow := by
  rw [dateReached_of_hourAhead second minute]
  unfold giveHourAhead
  dsimp only
  rw [if_pos (by simp [valid, minute, later])]
  exact chimeAnnounced_hourAhead (s := s.modTk fun k => { k with hourAhead := some s.hourAheadNow }) program _

/-- What a tick end makes of an hour-ahead that it gives the clock player (R105, R106, R108). -/
theorem hourAhead_announced {t : State} (pr : Program) (second : s.localTime.second = 0) (minute : s.localTime.minute = 59)
    (valid : s.tk.timeValid = true) (later : s.localTime.nextHour.laterThan s.tk.guard = true)
    (program : s.players.program = some pr) (stay : s.dateReached.ChimesStay t) :
    (pr.silentAt (s.hourAheadNow.hour * 60) = true → s.engine.losses.silent + 2 ≤ 65535 →
      t.engine.losses.silent = s.engine.losses.silent + (pr.tunes.get 3).isSome.toNat + pr.hourOn.toNat) ∧
    (∀ notes k b, pr.silentAt (s.hourAheadNow.hour * 60) = false → (pr.tunes.get 3).isSome = true →
      s.bufferNotes 3 = some notes → firstNote? notes = some (k, b) → (s.config b).lead ≤ 255 →
      ∃ r, t.players.quarterRun = some r ∧ r.quarter = 3 ∧ r.started = false ∧
        r.start = max (s.hourAheadNow.count - tuneDuration notes pr.tempo - pr.hourGap) (s.now + 768) ∧
        r.testAt = r.start + noteOffset notes pr.tempo k - (s.config b).lead - 512 ∧ r.tempo = pr.tempo) ∧
    (pr.silentAt (s.hourAheadNow.hour * 60) = false → pr.hourOn = true → (∀ e ∈ s.engine.queue, e.source ≠ .hour) →
      ∃ r, t.players.hourRun = some r ∧ r.instant = s.hourAheadNow.count ∧ r.start = s.hourAheadNow.count ∧
        r.count = (if s.hourAheadNow.hour % 12 = 0 then 12 else s.hourAheadNow.hour % 12) ∧ r.bell = pr.hourBell ∧
        r.interval = pr.hourInterval ∧ r.cls = pr.hourClass ∧ r.policy = pr.policy ∧ r.maxSlip = pr.maxSlip ∧
        r.busy = pr.busy ∧ r.slip = 0 ∧ r.next = 0 ∧ r.state = .planned ∧
        r.handAt = s.hourAheadNow.count - (s.config pr.hourBell).lead - 512) := by
  rw [dateReached_takesHourAhead second minute valid later program] at stay
  refine ⟨fun silent below => ?_, fun notes k b sounds tune valid first lead => ?_, fun sounds enabled quiet => ?_⟩
  · rw [stay.silent, takeHourAhead_silent silent]
    exact silentHour_losses (s := s.modTk _) pr below
  · obtain ⟨r, run, prepared⟩ := prepareFourthQuarter_prepares
      (s := s.modTk fun k => { k with hourAhead := some s.hourAheadNow }) (h := s.hourAheadNow) tune valid first lead
    rw [← takeHourAhead_prepares sounds] at run
    obtain ⟨counts, goesOn⟩ := stay.quarterRun run
    exact ⟨_, goesOn, prepared⟩
  · obtain ⟨r, run, planned⟩ := takeHourAhead_plans (s := s.modTk fun k => { k with hourAhead := some s.hourAheadNow })
      (h := s.hourAheadNow) sounds enabled
    refine ⟨r, (stay.runs.hour ?_).trans run, planned⟩
    unfold noBlowQueued
    rw [takeHourAhead_queue sounds]
    exact quiet

end Sys2Proof.Machine.State
end

section
/-! PROOFS. The date change at local midnight and what is handed over at it (R16, R26, R27, R30, R159). -/

namespace Sys2Proof.Machine

/-- The lighting controller keeps what was handed over to it. -/
structure Lights.Handed (a b : Lights) : Prop where
  handDate : b.handDate = a.handDate
  plan : b.plan = a.plan
  valid : b.valid = a.valid
  dateSeen : b.dateSeen = a.dateSeen

/-- `t` holds what was handed over to the lighting controller of `s`. -/
def State.Hands (s t : State) : Prop := s.lights.Handed t.lights

namespace State.Hands

variable {s t u : State}

theorem refl (s : State) : s.Hands s := ⟨rfl, rfl, rfl, rfl⟩

theorem trans (h : s.Hands t) (g : t.Hands u) : s.Hands u :=
  ⟨g.handDate.trans h.handDate, g.plan.trans h.plan, g.valid.trans h.valid, g.dateSeen.trans h.dateSeen⟩

theorem of_settles {guarded : Prop} (h : s.Settles guarded t) : s.Hands t :=
  ⟨h.lights.handDate, h.lights.plan, h.lights.valid, h.lights.dateSeen⟩

/-- A change of blocks other than the lights. -/
theorem of_frame {L : List Block} (h : s.changesOnly L t) (lights : Block.lights ∉ L := by decide) : s.Hands t := by
  have same : t.lights = s.lights := h .lights lights
  exact ⟨by rw [same], by rw [same], by rw [same], by rw [same]⟩

theorem ite {c : Prop} [Decidable c] (h : s.Hands t) (g : s.Hands u) : s.Hands (if c then t else u) := by
  split <;> assumption

theorem foldl {f : State → α → State} (h : s.Hands t) (hf : ∀ u a, s.Hands u → s.Hands (f u a)) (as : List α) :
    s.Hands (as.foldl f t) := by
  induction as generalizing t with
  | nil => exact h
  | cons a as ih => exact ih (hf t a h)

theorem modCircuit (h : s.Hands t) (c : Circuit) (f : CircuitRec → CircuitRec) : s.Hands (t.modCircuit c f) :=
  h.trans ⟨rfl, rfl, rfl, rfl⟩

theorem takeDue (h : s.Hands t) (m : Nat) : s.Hands (t.takeDue m) :=
  (h.trans (show t.Hands (t.modLights _) from ⟨rfl, rfl, rfl, rfl⟩)).trans
    (of_settles ((Settles.refl (guarded := False) _).foldl fun _ _ _ c => c.takeStep ..))

theorem takeLightMinute (h : s.Hands t) (m : HeldMinute) : s.Hands (t.takeLightMinute m) :=
  (ite (h.takeDue _) h).trans (of_settles ((Settles.refl (guarded := False) _).endOverrides _))

theorem lightMinute (h : s.Hands t) (m : HeldMinute) : s.Hands (t.lightMinute m) :=
  ite (h.takeLightMinute m) (h.trans ⟨rfl, rfl, rfl, rfl⟩)

theorem rewantAll (h : s.Hands t) (time : Circuit → Nat) (quiet : Bool) : s.Hands (t.rewantAll time quiet) :=
  h.trans (of_settles ((Settles.refl (guarded := False) _).foldl fun _ _ _ c => c.rewant ..))

theorem applyPassed (h : s.Hands t) (l : List TimelineStep) : s.Hands (t.applyPassed l) :=
  h.foldl (fun _ _ c => c.foldl (fun _ _ c => c.modCircuit ..) _) _

theorem buildTimeline (h : s.Hands t) (quiet : Bool) : s.Hands (t.buildTimeline quiet) :=
  ite ((applyPassed (h.trans (show t.Hands (t.modLights _) from ⟨rfl, rfl, rfl, rfl⟩)) _).rewantAll ..) (h.rewantAll ..)

theorem takeHeldMinutes (h : s.Hands t) : s.Hands t.takeHeldMinutes :=
  (h.trans (show t.Hands (t.modLights _) from ⟨rfl, rfl, rfl, rfl⟩)).foldl (fun _ _ c => c.takeLightMinute _) _

end State.Hands

namespace State

/-! ## The program of the clock player -/

/-- The clock player keeps its program. -/
def KeepsProgram (s t : State) : Prop := t.players.program = s.players.program

namespace KeepsProgram

variable {s t u : State}

theorem trans (h : s.KeepsProgram t) (g : t.KeepsProgram u) : s.KeepsProgram u := Eq.trans g h

theorem lose (h : s.KeepsProgram t) (r : DropReason) : s.KeepsProgram (t.lose r) :=
  h.trans (congrArg Players.program (lose_players t r))

theorem endQuarterRun (h : s.KeepsProgram t) : s.KeepsProgram t.endQuarterRun := h.trans (endQuarterRun_fetches t).program

theorem advanceQuarter (h : s.KeepsProgram t) : s.KeepsProgram t.advanceQuarter := by
  unfold State.advanceQuarter
  dsimp only
  split
  · split
    · exact h.endQuarterRun
    · exact h
  · exact h

theorem beginQuarterRun (h : s.KeepsProgram t) (r : QuarterRun) : s.KeepsProgram (t.beginQuarterRun r) := by
  unfold State.beginQuarterRun
  split
  · split
    · exact h
    · exact h.endQuarterRun
  · exact h

theorem quarterChime (h : s.KeepsProgram t) (p : Program) (q : Quarter) (minute count : Nat) :
    s.KeepsProgram (t.quarterChime p q minute count) := by
  unfold State.quarterChime
  split
  · exact h
  · split
    · exact h.lose _
    · split
      · exact h.lose _
      · exact (h.beginQuarterRun _).advanceQuarter

theorem testFourthQuarter (h : s.KeepsProgram t) : s.KeepsProgram t.testFourthQuarter := by
  unfold State.testFourthQuarter chimeNotHeld
  split
  · split
    · exact h
    · split
      · exact advanceQuarter (t := t.modPlayers _) h
      · split
        · exact h
        · exact lose (t := t.modPlayers _) h _
  · exact h

theorem takeHourAhead (h : s.KeepsProgram t) (p : Program) (x : HourAhead) : s.KeepsProgram (t.takeHourAhead p x) := by
  have prepared : s.KeepsProgram (t.prepareFourthQuarter p x) := by
    unfold prepareFourthQuarter
    split
    · exact h
    · split
      · exact h.lose _
      · exact (h.beginQuarterRun _).testFourthQuarter
  have lost {u : State} (g : s.KeepsProgram u) (c : Bool) : s.KeepsProgram (if c = true then u.chimeLost .silent else u) := by
    split
    · exact g.lose _
    · exact g
  unfold State.takeHourAhead planHourStrike
  split
  · exact lost (lost h _) _
  · split <;> exact prepared

theorem takeQuarter (h : s.KeepsProgram t) (p : Program) (q : QuarterInstant) (count : Nat) :
    s.KeepsProgram (t.takeQuarter p q count) := by
  unfold State.takeQuarter
  split
  · exact h.quarterChime ..
  · exact h.quarterChime ..
  · exact h.quarterChime ..
  · exact h

theorem chimeAnnounced (h : s.KeepsProgram t) (x : HeldAnnouncement) : s.KeepsProgram (t.chimeAnnounced x) := by
  unfold State.chimeAnnounced
  split
  · cases x with
    | quarter q count => exact h.takeQuarter ..
    | hourAhead x => exact h.takeHourAhead ..
  · exact h

end KeepsProgram

/-- A program handed over to the clock player is its program (R27). -/
theorem chimeHandOver_program (s : State) (p : Program) (date : Bool) : (s.chimeHandOver p date).players.program = some p := by
  have heard (xs : List HeldAnnouncement) : ∀ {s t : State}, s.KeepsProgram t →
      s.KeepsProgram (xs.foldl (fun s x => s.chimeAnnounced x) t) := by
    induction xs with
    | nil => exact fun h => h
    | cons x xs ih => exact fun h => ih (h.chimeAnnounced x)
  exact heard _ (s := s.modPlayers fun y => { y with program := some p }) ((Fetches.refl _).fillBuffers p date).program

/-! ## The date change -/

/-- The program that the calendar chooses for the date that the local time is on. -/
def programNow (s : State) : Program := s.cal.programs.get (s.cal.choose s.localTime.date).1

/-- The day that the calendar chooses now. -/
def dayNow (s : State) : DayInForce :=
  { date := s.localTime.date, program := (s.cal.choose s.localTime.date).1, winner := (s.cal.choose s.localTime.date).2
    valid := s.tk.timeValid }

theorem dateChange_eq (s : State) (quiet : Bool) : s.dateChange quiet =
    (((s.modCal fun c => { c with day := some s.dayNow }).chimeHandOver s.programNow true).swingHandOver s.localTime.date
      s.programNow.slots).lightHandOver s.localTime.date s.programNow.plan (some s.tk.timeValid) quiet := rfl

theorem dateChange_cal (s : State) (quiet : Bool) : (s.dateChange quiet).cal.day = some s.dayNow := by
  have light := lightHandOver_within (changesOnly.refl [.lights, .link, .signals]
    (((s.modCal fun c => { c with day := some s.dayNow }).chimeHandOver s.programNow true).swingHandOver s.localTime.date
      s.programNow.slots)) (List.Subset.refl _) s.localTime.date s.programNow.plan (some s.tk.timeValid) quiet .calendar (by decide)
  have swing := swingHandOver_within (changesOnly.refl [.bells, .engine, .players, .clavier, .swing, .lights, .link, .signals]
    ((s.modCal fun c => { c with day := some s.dayNow }).chimeHandOver s.programNow true)) (List.Subset.refl _) s.localTime.date
      s.programNow.slots .calendar (by decide)
  have chime := chimeHandOver_within (changesOnly.refl [.engine, .players, .link, .store]
    (s.modCal fun c => { c with day := some s.dayNow })) (List.Subset.refl _) s.programNow true .calendar (by decide)
  rw [dateChange_eq]
  exact congrArg Calendar.day (light.trans (swing.trans chime))

/-- The program handed over to the swing controller leaves the clock player's runs and program. -/
theorem swingHandOver_settles (s : State) (d : Date) (slots : List RingSlot) :
    (s.modSwing fun w => { w with day := some (d, slots), held := w.held.filter fun x => x.1 != d }).Settles False
      (s.swingHandOver d slots) :=
  (Settles.refl (guarded := False) _).foldl fun _ _ _ c => c.actOnMinute ..

theorem dateChange_program (s : State) (quiet : Bool) : (s.dateChange quiet).players.program = some s.programNow := by
  have light (u : State) (d p v) : (u.lightHandOver d p v quiet).players = u.players :=
    lightHandOver_within (changesOnly.refl [.lights, .link, .signals] u) (List.Subset.refl _) d p v quiet .players (by decide)
  rw [dateChange_eq, light, (swingHandOver_settles ..).players.program]
  exact chimeHandOver_program ..

theorem dateChange_swingDay (s : State) (quiet : Bool) :
    (s.dateChange quiet).swing.day = some (s.localTime.date, s.programNow.slots) := by
  have light (u : State) (d p v) : (u.lightHandOver d p v quiet).swing = u.swing :=
    lightHandOver_within (changesOnly.refl [.lights, .link, .signals] u) (List.Subset.refl _) d p v quiet .swing (by decide)
  rw [dateChange_eq, light, (swingHandOver_settles ..).swing.day]
  rfl

/-- What a date change hands over to the lighting controller stands after it (R159). -/
theorem lightHandOver_hands (s : State) (d : Date) (plan : Option PlanNo) (valid : Option Bool) (quiet : Bool) :
    (s.modLights fun g =>
      { g with handDate := some d, plan := plan, dateSeen := if valid.isSome then some d else g.dateSeen
               valid := valid.getD g.valid }).Hands (s.lightHandOver d plan valid quiet) := by
  have noticed (u : State) (before : Bool) : u.Hands (u.fallbackNotice before quiet) := .ite ⟨rfl, rfl, rfl, rfl⟩ (.refl u)
  exact (((Hands.refl _).buildTimeline quiet).trans (noticed _ _)).takeHeldMinutes

theorem dateChange_lights (s : State) (quiet : Bool) :
    (s.dateChange quiet).lights.plan = s.programNow.plan ∧ (s.dateChange quiet).lights.handDate = some s.localTime.date ∧
      (s.dateChange quiet).lights.dateSeen = some s.localTime.date ∧ (s.dateChange quiet).lights.valid = s.tk.timeValid := by
  rw [dateChange_eq]
  have handed := lightHandOver_hands (((s.modCal fun c => { c with day := some s.dayNow }).chimeHandOver s.programNow
    true).swingHandOver s.localTime.date s.programNow.slots) s.localTime.date s.programNow.plan (some s.tk.timeValid) quiet
  exact ⟨handed.plan, handed.handDate, handed.dateSeen, handed.valid⟩

end State
end Sys2Proof.Machine
end

section
/-! PROOFS. The minute announcement at the lighting controller (R161, R163) and at the swing controller (R145, R146). -/

namespace Sys2Proof.Machine.State

/-! ## The lighting controller -/

/-- The steps due by a minute are done, and no override ends at it any more (R161, R163). -/
structure LitMinute (m : HeldMinute) (s : State) : Prop where
  done : m.valid = true → s.lights.timelineDate = some m.date → ∀ x ∈ s.lights.timeline, x.minute ≤ m.minute → x.done = true
  ended : ∀ c o, (s.circuit c).override = some o → o.ends ≠ some m.minute

theorem LitMinute.of_settles {guarded : Prop} {s t : State} {m : HeldMinute} (h : s.LitMinute m) (g : s.Settles guarded t) :
    t.LitMinute m where
  done valid date := by
    rw [g.lights.timeline]
    exact h.done valid (g.lights.timelineDate ▸ date)
  ended c o e := h.ended c o (g.lights.override c o e)

/-- An override that is ended is gone (R163). -/
theorem override_endOverride (s : State) (c : Circuit) (time : Nat) : ((s.endOverride c time).circuit c).override = none := by
  have stays {u : State} (gone : (u.circuit c).override = none) (time : Nat) :
      ((u.rewant c time false).circuit c).override = none := by
    rw [Option.eq_none_iff_forall_ne_some]
    intro o e
    have before := ((Settles.refl (guarded := False) u).rewant c time false).lights.override c o e
    rw [show (u.lights.circuits.get c).override = none from gone] at before
    cases before
  unfold endOverride
  split
  · refine stays ?_ _
    change ((s.modCircuit c fun r => { r with override := none }).circuit c).override = none
    rw [circuit_modCircuit, if_pos rfl]
  · exact stays ‹_› _

/-- The override of a circuit ends where its end minute is among those ended. -/
def endDue (ends : Nat → Bool) (s : State) (c : Circuit) : State :=
  if (s.circuit c).override.any fun o => o.ends.any ends then s.endOverride c 0 else s

theorem endOverrides_eq (s : State) (ends : Nat → Bool) : s.endOverrides ends = allCircuits.foldl (endDue ends) s := rfl

theorem override_endDue {s : State} {ends : Nat → Bool} {c : Circuit} {o : Override}
    (stands : ((s.endDue ends c).circuit c).override = some o) : o.ends.any ends = false := by
  unfold endDue at stands
  split at stands
  · rw [override_endOverride] at stands
    cases stands
  · rename_i not
    rw [stands] at not
    simpa using not

/-- No override stands whose end minute is among those ended (R163). -/
theorem endOverrides_ends (s : State) (ends : Nat → Bool) (c : Circuit) (o : Override)
    (stands : ((s.endOverrides ends).circuit c).override = some o) : o.ends.any ends = false := by
  have step (u : State) (d : Circuit) : u.Settles False (u.endDue ends d) := .ite ((Settles.refl u).endOverride d 0) (.refl u)
  have each (cs : List Circuit) : ∀ u : State, c ∈ cs → ((cs.foldl (endDue ends) u).circuit c).override = some o →
      o.ends.any ends = false := by
    induction cs with
    | nil => intro u h; cases h
    | cons d cs ih =>
      intro u mem stands
      rcases List.mem_cons.mp mem with rfl | later
      · have kept : (u.endDue ends c).Settles False (cs.foldl (endDue ends) (u.endDue ends c)) :=
          (Settles.refl _).foldl fun v d _ h => h.trans (step v d)
        exact override_endDue (kept.lights.override c o stands)
      · exact ih _ later stands
  rw [endOverrides_eq] at stands
  exact each allCircuits s (List.mem_finRange c) stands

/-- A minute that the lighting controller takes (R161, R163). -/
theorem takeLightMinute_lit (s : State) (m : HeldMinute) : (s.takeLightMinute m).LitMinute m := by
  have due (date : s.lights.timelineDate = some m.date) (valid : m.valid = true) :
      ∀ x ∈ (s.takeDue m.minute).lights.timeline, x.minute ≤ m.minute → x.done = true := by
    have taken : (s.modLights fun g =>
        { g with timeline := g.timeline.map fun x => { x with done := x.done || x.minute ≤ m.minute } }).Settles False
        (s.takeDue m.minute) := (Settles.refl _).foldl fun _ _ _ c => c.takeStep ..
    intro x mem passed
    rw [taken.lights.timeline] at mem
    obtain ⟨y, -, rfl⟩ := List.mem_map.mp mem
    simp only [Bool.or_eq_true, decide_eq_true_eq]
    exact .inr passed
  have date_takeDue : (s.takeDue m.minute).lights.timelineDate = s.lights.timelineDate :=
    ((Settles.refl (guarded := False) (s.modLights fun g =>
        { g with timeline := g.timeline.map fun x => { x with done := x.done || x.minute ≤ m.minute } })).foldl
      fun _ _ _ c => c.takeStep ..).lights.timelineDate
  unfold takeLightMinute
  constructor
  · intro valid date
    have ended := (Settles.refl (guarded := False) (if (m.valid && s.lights.timelineDate == some m.date) = true then
      s.takeDue m.minute else s)).endOverrides fun x => x == m.minute
    dsimp only at date ⊢
    rw [ended.lights.timelineDate] at date
    rw [ended.lights.timeline]
    have before : s.lights.timelineDate = some m.date := by
      split at date
      · exact date_takeDue ▸ date
      · exact date
    rw [if_pos (by simp [valid, before])]
    exact due before valid
  · intro c o stands ends
    have not := endOverrides_ends _ _ c o stands
    rw [ends] at not
    simp at not

/-! ## The swing controller -/

/-- The slots of a day, with their numbers. -/
theorem mem_slotsOf {s : State} {d : Date} {slots : List RingSlot} (day : s.swing.day = some (d, slots)) (y : Nat × RingSlot) :
    y ∈ s.slotsOf d ↔ ∃ i, slots[i]? = some y.2 ∧ y.1 = i + 1 := by
  unfold slotsOf
  rw [day]
  dsimp only
  rw [if_pos rfl, List.mem_map]
  constructor
  · rintro ⟨⟨x, i⟩, mem, rfl⟩
    exact ⟨i, List.mem_zipIdx_iff_getElem?.mp mem, rfl⟩
  · rintro ⟨i, at_i, number⟩
    exact ⟨(y.2, i), List.mem_zipIdx_iff_getElem?.mpr at_i, Prod.ext number.symm rfl⟩

/-- The run of a ringing slot that starts now. -/
structure SlotRuns (s : State) (d : Date) (number : Nat) (x : RingSlot) (r : SlotRun) : Prop where
  date : r.date = d
  number : r.number = number
  bells : r.bells = x.bells
  start : r.start = s.now
  ends : r.ends = s.now + x.duration * 15360

theorem SlotRuns.of_settles {guarded : Prop} {s t u : State} {d : Date} {number : Nat} {x : RingSlot} (h : t.Settles guarded u)
    (run : ∃ r ∈ t.swing.runs, s.SlotRuns d number x r) : ∃ r ∈ u.swing.runs, s.SlotRuns d number x r := by
  obtain ⟨r, mem, runs⟩ := run
  obtain ⟨r', mem', date, number, bells, start, ends⟩ := h.swing.runs r mem
  exact ⟨r', mem', date.trans runs.date, number.trans runs.number, bells.trans runs.bells, start.trans runs.start,
    ends.trans runs.ends⟩

/-- A slot starts its run while fewer than 8 are in progress (R146). -/
theorem startSlot_runs {s : State} (room : s.swing.runs.length < 8) (d : Date) (number : Nat) (x : RingSlot) :
    ∃ r ∈ (s.startSlot d number x).swing.runs, s.SlotRuns d number x r := by
  unfold startSlot
  rw [if_neg (show ¬Config.slotRuns ≤ s.swing.runs.length from Nat.not_le.mpr room)]
  refine SlotRuns.of_settles ((Settles.refl (guarded := False) _).slotNext _)
    ⟨_, List.mem_append_right _ (List.mem_singleton_self _), ?_⟩
  exact ⟨rfl, rfl, rfl, rfl, rfl⟩

/-- The slots passed over are recorded, and no run starts or ends at it (R145). -/
def recordMissedSlots (d : Date) (l : List (Nat × RingSlot)) (s : State) : State :=
  l.foldl (fun s x =>
    (s.recordSlot { date := d, number := x.1, outcome := .missed, started := [], skipped := [] }).raiseAll .bell) s

theorem recordMissedSlots_same (d : Date) (l : List (Nat × RingSlot)) (s : State) :
    (s.recordMissedSlots d l).swing.runs = s.swing.runs ∧ (s.recordMissedSlots d l).swing.day = s.swing.day ∧
      (s.recordMissedSlots d l).now = s.now := by
  unfold recordMissedSlots
  induction l generalizing s with
  | nil => exact ⟨rfl, rfl, rfl⟩
  | cons x l ih => exact ih _

/-- A minute later than the guard starts its slots, and the guard moves to it (R145). -/
theorem actOnMinute_of_later {s : State} {d : Date} {m : Nat} (later : laterThanSlotGuard (d, m) true s.swing.guard = true) :
    ∃ missed, s.actOnMinute d m =
      (((((s.recordMissedSlots d missed).slotsOf d).filter fun x => x.2.start == m).foldl (fun s x => s.startSlot d x.1 x.2)
        (s.recordMissedSlots d missed)).modSwing fun w => { w with guard := some (d, m) }) :=
  ⟨_, if_pos later⟩

/-- The slot that alone starts at a minute has its run after it, where fewer than 8 are in progress (R146). -/
theorem actOnMinute_starts {s : State} {d : Date} {m i : Nat} {slots : List RingSlot} {x : RingSlot}
    (later : laterThanSlotGuard (d, m) true s.swing.guard = true) (day : s.swing.day = some (d, slots))
    (at_i : slots[i]? = some x) (starts : x.start = m) (alone : ∀ j y, slots[j]? = some y → y.start = m → j = i)
    (room : s.swing.runs.length < 8) : ∃ r ∈ (s.actOnMinute d m).swing.runs, s.SlotRuns d (i + 1) x r := by
  obtain ⟨missed, acts⟩ := actOnMinute_of_later later
  obtain ⟨runs, same, now⟩ := s.recordMissedSlots_same d missed
  rw [acts]
  generalize s.recordMissedSlots d missed = u at runs same now
  rw [day] at same
  have only (y : Nat × RingSlot) : y ∈ (u.slotsOf d).filter (fun x => x.2.start == m) ↔ y = (i + 1, x) := by
    rw [List.mem_filter, mem_slotsOf same, beq_iff_eq]
    constructor
    · rintro ⟨⟨j, at_j, number⟩, now⟩
      obtain rfl := alone j y.2 at_j now
      exact Prod.ext number (Option.some.inj (at_j.symm.trans at_i))
    · rintro rfl
      exact ⟨⟨i, at_i, rfl⟩, starts⟩
  change ∃ r ∈ (State.swing (List.foldl _ u _)).runs, _
  generalize (u.slotsOf d).filter (fun x => x.2.start == m) = due at only ⊢
  cases due with
  | nil => cases (only (i + 1, x)).mpr rfl
  | cons y rest =>
    obtain rfl := (only y).mp List.mem_cons_self
    have began : ∃ r ∈ (u.startSlot d (i + 1) x).swing.runs, s.SlotRuns d (i + 1) x r := by
      obtain ⟨r, mem, date, number, bells, start, ends⟩ := startSlot_runs (s := u) (by rw [runs]; exact room) d (i + 1) x
      exact ⟨r, mem, date, number, bells, start.trans now, ends.trans (by rw [now])⟩
    exact SlotRuns.of_settles (t := u.startSlot d (i + 1) x)
      ((Settles.refl (guarded := False) _).foldl fun _ _ _ c => c.startSlot ..) began

theorem actOnMinute_guard {s : State} {d : Date} {m : Nat} (later : laterThanSlotGuard (d, m) true s.swing.guard = true) :
    (s.actOnMinute d m).swing.guard = some (d, m) := by
  obtain ⟨missed, acts⟩ := actOnMinute_of_later later
  rw [acts]
  rfl

end Sys2Proof.Machine.State
end

section
/-! PROOFS. The boundaries of a tick end, to the end of its event (R11 to R18). -/

namespace Sys2Proof.Machine.State

variable {s : State}

/-! ## From the minute announcement to the end of the event -/

/-- A change of blocks other than the players, the strike engine, the swing controller and the lights. -/
theorem Settles.of_frame {guarded : Prop} {s t : State} {L : List Block} (h : s.changesOnly L t)
    (players : Block.players ∉ L := by decide) (engine : Block.engine ∉ L := by decide) (swing : Block.swing ∉ L := by decide)
    (lights : Block.lights ∉ L := by decide) : s.Settles guarded t := by
  have p : t.players = s.players := h .players players
  have e : t.engine = s.engine := h .engine engine
  have w : t.swing = s.swing := h .swing swing
  have l : t.lights = s.lights := h .lights lights
  exact ⟨p ▸ .refl _ _, e ▸ fun _ h => h, by rw [e], by rw [e], l ▸ .refl _, w ▸ .refl _ _⟩

/-- The minute that a tick end announces to the lighting controller. -/
def minuteNow (s : State) : HeldMinute :=
  { date := s.localTime.date, minute := s.localTime.minuteOfDay, valid := s.tk.timeValid }

theorem minutesReached_eq (second : s.localTime.second = 0) : s.minutesReached =
    (s.dateReached.swingMinute s.localTime.date s.localTime.minuteOfDay s.tk.timeValid).lightMinute s.minuteNow := by
  have valid : s.dateReached.tk.timeValid = s.tk.timeValid := by
    rw [s.dateReached_tk]
    exact s.chimesReached_guard.clock.timeValid
  unfold minutesReached minuteReached
  dsimp only
  rw [if_pos second, valid]
  rfl

/-- What follows the minute announcement, where the flag stays. -/
theorem minutesReached_settles (stays : s.flagStays) : s.minutesReached.Settles True s.boundaries.settle := by
  rw [boundaries_of_flagStays stays]
  exact (Settles.of_frame s.reached_within).settle

theorem lightMinute_swing (s : State) (m : HeldMinute) : (s.lightMinute m).swing = s.swing :=
  lightMinute_within (changesOnly.refl [.lights, .link, .signals] s) (List.Subset.refl _) m .swing (by decide)

/-! ## The lights -/

theorem lightMinute_lit {m : HeldMinute} (hand : (s.lightMinute m).lights.handDate = some m.date) :
    (s.lightMinute m).LitMinute m := by
  unfold lightMinute at hand ⊢
  split
  · exact s.takeLightMinute_lit m
  · rename_i other
    rw [if_neg other] at hand
    exact absurd hand other

/-- With today's hand-over held, a minute announcement does the steps due and ends the overrides of its minute (R161, R163). -/
theorem boundaries_lit (stays : s.flagStays) (second : s.localTime.second = 0)
    (hand : s.boundaries.settle.lights.handDate = some s.localTime.date) : s.boundaries.settle.LitMinute s.minuteNow := by
  have settles := minutesReached_settles stays
  refine LitMinute.of_settles ?_ settles
  rw [settles.lights.handDate, minutesReached_eq second] at hand
  rw [minutesReached_eq second]
  exact lightMinute_lit hand

theorem swingMinute_hands (s : State) (d : Date) (m : Nat) (valid : Bool) : s.Hands (s.swingMinute d m valid) :=
  .ite (.refl s) (.ite (.of_settles ((Settles.refl s).actOnMinute d m)) ⟨rfl, rfl, rfl, rfl⟩)

/-- From the date change on, what was handed over to the lights stands. -/
theorem boundaries_hands (stays : s.flagStays) : s.dateReached.Hands s.boundaries.settle := by
  have minute : s.dateReached.Hands s.minutesReached := by
    unfold minutesReached minuteReached
    exact .ite ((swingMinute_hands ..).lightMinute _) (.refl _)
  exact minute.trans (.of_settles (minutesReached_settles stays))

/-! ## The ringing slots -/

theorem swingMinute_day (s : State) (d : Date) (m : Nat) (valid : Bool) : (s.swingMinute d m valid).swing.day = s.swing.day := by
  unfold swingMinute
  split
  · rfl
  · split
    · exact ((Settles.refl s).actOnMinute d m).swing.day
    · rfl

/-- From the date change on, the day of the swing controller stands. -/
theorem boundaries_swingDay (stays : s.flagStays) (second : s.localTime.second = 0) :
    s.boundaries.settle.swing.day = s.dateReached.swing.day := by
  rw [(minutesReached_settles stays).swing.day, minutesReached_eq second, lightMinute_swing, swingMinute_day]

theorem swingHandOver_of_none (held : s.swing.held = []) (d : Date) (slots : List RingSlot) : s.swingHandOver d slots =
    s.modSwing fun w => { w with day := some (d, slots), held := w.held.filter fun x => x.1 != d } := by
  unfold swingHandOver
  rw [held]
  rfl

/-- A date change leaves the slot guard and the runs, where no minute is held (R145). -/
theorem dateChange_swing (held : s.swing.held = []) (quiet : Bool) :
    (s.dateChange quiet).swing.guard = s.swing.guard ∧ (s.dateChange quiet).swing.runs = s.swing.runs := by
  have light (u : State) (d p v) : (u.lightHandOver d p v quiet).swing = u.swing :=
    lightHandOver_within (changesOnly.refl [.lights, .link, .signals] u) (List.Subset.refl _) d p v quiet .swing (by decide)
  have chimes := chimeHandOver_swing (s.modCal fun c => { c with day := some s.dayNow }) s.programNow true
  rw [dateChange_eq, light, swingHandOver_of_none (by rw [chimes]; exact held), modSwing_swing, chimes]
  exact ⟨rfl, rfl⟩

/-- Without a minute held, the stages up to the date change leave the slot guard and the runs. -/
theorem dateReached_swing (held : s.swing.held = []) :
    s.dateReached.swing.guard = s.swing.guard ∧ s.dateReached.swing.runs = s.swing.runs := by
  have chimes : s.chimesReached.swing = s.swing := s.chimesReached_within .swing (by decide)
  rw [← chimes] at held ⊢
  unfold dateReached
  dsimp only
  split
  · exact dateChange_swing held false
  · exact ⟨rfl, rfl⟩

/-- A valid minute of the day in force that is later than the slot guard moves it, and starts the slot that alone begins then
(R145, R146). -/
theorem boundaries_slots {slots : List RingSlot} (stays : s.flagStays) (second : s.localTime.second = 0)
    (valid : s.tk.timeValid = true) (day : s.boundaries.settle.swing.day = some (s.localTime.date, slots))
    (held : s.swing.held = [])
    (later : ∀ g, s.swing.guard = some g → laterMinute (s.localTime.date, s.localTime.minuteOfDay) g = true) :
    s.boundaries.settle.swing.guard = some (s.localTime.date, s.localTime.minuteOfDay) ∧
      ∀ i x, slots[i]? = some x → x.start = s.localTime.minuteOfDay →
        (∀ j y, slots[j]? = some y → y.start = s.localTime.minuteOfDay → j = i) → s.swing.runs.length < 8 →
        ∃ r ∈ s.boundaries.settle.swing.runs, s.SlotRuns s.localTime.date (i + 1) x r := by
  obtain ⟨guard, runs⟩ := dateReached_swing held
  rw [boundaries_swingDay stays second] at day
  have settles := minutesReached_settles stays
  have acts : s.minutesReached.swing = (s.dateReached.actOnMinute s.localTime.date s.localTime.minuteOfDay).swing := by
    rw [minutesReached_eq second, lightMinute_swing]
    unfold swingMinute
    rw [if_neg (by simp [valid]), if_pos (by simp [day])]
  have passes : laterThanSlotGuard (s.localTime.date, s.localTime.minuteOfDay) true s.dateReached.swing.guard = true := by
    rw [guard]
    cases old : s.swing.guard with
    | none => rfl
    | some g => exact later g old
  refine ⟨?_, fun i x at_i starts alone room => ?_⟩
  · rw [settles.swing.guard trivial, acts, actOnMinute_guard passes]
  · obtain ⟨r, mem, date, number, bells, start, ends⟩ :=
      actOnMinute_starts passes day at_i starts alone (by rw [runs]; exact room)
    refine SlotRuns.of_settles settles ⟨r, acts ▸ mem, date, number, bells, ?_, ?_⟩
    · rw [start, s.dateReached_now]
    · rw [ends, s.dateReached_now]

/-! ## The date change -/

theorem dateReached_of_midnight (second : s.localTime.second = 0) (midnight : s.localTime.minuteOfDay = 0) :
    s.dateReached = s.chimesReached.dateChange false := by
  unfold dateReached
  dsimp only
  rw [if_pos ⟨second, midnight⟩]

/-- The chime stages leave what the calendar chooses. -/
theorem chimesReached_choice : s.chimesReached.localTime = s.localTime ∧ s.chimesReached.dayNow = s.dayNow ∧
    s.chimesReached.programNow = s.programNow ∧ s.chimesReached.tk.timeValid = s.tk.timeValid := by
  have time : s.chimesReached.localTime = s.localTime := localTime_of_sameClock s.chimesReached_guard.clock
  have valid := s.chimesReached_guard.clock.timeValid
  have cal : s.chimesReached.cal = s.cal := s.chimesReached_within .calendar (by decide)
  unfold dayNow programNow
  rw [time, cal, valid]
  exact ⟨rfl, rfl, rfl, rfl⟩

/-- At local midnight the program of the day is chosen and handed over (R16, R26). -/
theorem boundaries_date (stays : s.flagStays) (second : s.localTime.second = 0) (midnight : s.localTime.minuteOfDay = 0) :
    s.boundaries.settle.cal.day = some s.dayNow ∧ s.boundaries.settle.players.program = some s.programNow ∧
      s.boundaries.settle.swing.day = some (s.localTime.date, s.programNow.slots) ∧
      s.boundaries.settle.lights.plan = s.programNow.plan ∧ s.boundaries.settle.lights.handDate = some s.localTime.date ∧
      s.boundaries.settle.lights.dateSeen = some s.localTime.date ∧ s.boundaries.settle.lights.valid = s.tk.timeValid := by
  obtain ⟨time, day, program, valid⟩ := chimesReached_choice (s := s)
  have changed := dateReached_of_midnight second midnight
  obtain ⟨plan, hand, seen, flag⟩ := s.chimesReached.dateChange_lights false
  have hands := boundaries_hands stays
  have chimes := boundaries_chimesStay stays
  rw [changed] at hands chimes
  refine ⟨?_, ?_, ?_, ?_, ?_, ?_, ?_⟩
  · have cal : s.boundaries.settle.cal = s.dateReached.cal := by
      have settled : s.reached.settle.cal = s.reached.cal :=
        settle_within (changesOnly.refl _ _) (List.Subset.refl _) .calendar (by decide)
      have rest : s.reached.cal = s.minutesReached.cal := s.reached_within .calendar (by decide)
      have minute : s.minutesReached.cal = s.dateReached.cal := s.minutesReached_within .calendar (by decide)
      rw [boundaries_of_flagStays stays, settled, rest, minute]
    rw [cal, changed, dateChange_cal, day]
  · rw [chimes.program, dateChange_program, program]
  · rw [boundaries_swingDay stays second, changed, dateChange_swingDay, time, program]
  · rw [hands.plan, plan, program]
  · rw [hands.handDate, hand, time]
  · rw [hands.dateSeen, seen, time]
  · rw [hands.valid, flag, valid]

end Sys2Proof.Machine.State
end

section
/-! PROOFS. The boundaries of a tick end: the timekeeper's own items, and the statement as a whole (R10 to R18). -/

namespace Sys2Proof.Machine

/-- Local time differs from standard time by whole hours. -/
theorem Counters.toLocal_within_hour (c : Counters) (dst : Bool) :
    (c.toLocal dst).minute = c.minute ∧ (c.toLocal dst).second = c.second ∧ (c.toLocal dst).tick = c.tick := by
  unfold Counters.toLocal
  split
  · split <;> exact ⟨rfl, rfl, rfl⟩
  · exact ⟨rfl, rfl, rfl⟩

/-- A tap has a boundary at a local time as its period says (R18). -/
theorem Tap.fires_of {x : Tap} {l : LocalTime} (h : match x with
    | .off => False
    | .s1 => True
    | .s15 => l.second % 15 = 0
    | .s60 => l.second = 0
    | .min15 => l.second = 0 ∧ l.minute % 15 = 0) : x.fires l = true := by
  cases x with
  | off => exact h.elim
  | s1 => rfl
  | s15 => exact beq_iff_eq.mpr h
  | s60 => exact beq_iff_eq.mpr h
  | min15 =>
    obtain ⟨second, minute⟩ := h
    simp [Tap.fires, second, minute]

namespace State

variable {s : State}

theorem localTime_within_hour (s : State) : s.localTime.minute = s.tk.counters.minute ∧
    s.localTime.second = s.tk.counters.second ∧ s.localTime.tick = s.tk.counters.tick :=
  s.tk.counters.toLocal_within_hour s.tk.dstInForce

/-! ## The timekeeper after the boundaries -/

theorem boundaries_now : s.boundaries.settle.now = s.now := by
  change s.boundaries.settle.tk.runCount = _
  rw [settle_tk]
  by_cases stays : s.flagStays
  · rw [boundaries_of_flagStays stays]
    exact s.reached_now
  · rw [boundaries_of_flagChanges stays, ((s.reached.setInForce).correct_sameClock ..).runCount]
    exact s.reached_now

/-- Where the flag stays, the timekeeper ends as the chime stages leave it. -/
theorem boundaries_tk (stays : s.flagStays) : s.boundaries.settle.tk = s.chimesReached.tk := by
  rw [settle_tk, boundaries_of_flagStays stays, reached_tk]

/-- The guard after a quarter instant that counting reaches (R12, R13). -/
theorem boundaries_quarter (stays : s.flagStays) (second : s.localTime.second = 0) (quarter : s.localTime.minute % 15 = 0) :
    s.boundaries.settle.tk.guard =
        (if s.tk.timeValid && s.localTime.quarter.laterThan s.tk.guard then some s.localTime.quarter else s.tk.guard) ∧
      s.boundaries.settle.tk.missedCount = s.tk.missedCount ∧ s.boundaries.settle.tk.lastMissed = s.tk.lastMissed := by
  rw [boundaries_tk stays]
  obtain ⟨-, guard, missed, last⟩ := s.chimesReached_guard
  refine ⟨?_, missed, last⟩
  simpa only [second, quarter, true_and] using guard

/-- The flag that changes follows the rule; the quarters passed over are recorded, and no hour-ahead is outstanding (R10, R11,
R14). -/
theorem boundaries_flagChanges (changes : ¬s.flagStays) :
    s.boundaries.settle.tk.dstInForce = s.tk.dstRule.inForceAt s.tk.counters ∧ s.boundaries.settle.noticedAll .time ∧
      s.boundaries.settle.tk.hourAhead = none ∧
      s.recordsPassed s.boundaries.settle
        (if s.tk.timeValid && s.localTime.quarter.laterThan s.tk.guard then some s.localTime.quarter else s.tk.guard)
        s.localTime := by
  obtain ⟨clock, guard, missed, last⟩ := s.reached_guard
  obtain ⟨minute, second, -⟩ := s.localTime_within_hour
  obtain ⟨hour, on, -⟩ : s.tk.counters.second = 0 ∧ s.tk.counters.minute = 0 ∧
      s.tk.dstRule.inForceAt s.tk.counters ≠ s.tk.dstInForce := by
    simpa only [flagStays, not_or, ne_eq, not_not] using changes
  rw [hour] at second
  rw [on] at minute
  simp only [second, minute, Nat.zero_mod, true_and] at guard
  rw [boundaries_of_flagChanges changes]
  have same := (s.reached.setInForce).correct_sameClock s.localTime s.tk.timeValid false
  refine ⟨?_, ?_, ?_, ?_⟩
  · rw [settle_tk, same.dstInForce]
    change s.reached.tk.dstRule.inForceAt s.reached.tk.counters = _
    rw [clock.dstRule, clock.counters]
  · exact ((Keeps.refl _).settle).noticedAll (noticed_raiseAll _ .time)
  · have passed := (s.reached.setInForce).passOver_sameClock s.localTime s.tk.timeValid
    rw [settle_tk, correct_eq, announceChange_tk, giveHourAhead_tk, if_neg]
    · exact passOver_hourAhead ..
    · rintro ⟨-, last_minute, -⟩
      rw [(localTime_within_hour _).1, passed.counters] at last_minute
      change s.reached.tk.counters.minute = 59 at last_minute
      rw [clock.counters, on] at last_minute
      cases last_minute
  · rw [← guard]
    exact recordsPassed_of_correct (u := s.reached.setInForce) rfl missed last (settle_tk _) fun raised =>
      ((Keeps.refl _).settle).noticedAll raised

/-- The hour-ahead at the last minute of an hour (R15). -/
theorem boundaries_hourAhead (second : s.localTime.second = 0) (minute : s.localTime.minute = 59) :
    (s.tk.timeValid = true → s.localTime.nextHour.laterThan s.tk.guard = true →
      s.boundaries.settle.tk.hourAhead = some s.hourAheadNow) ∧
    (s.tk.timeValid = false ∨ s.localTime.nextHour.laterThan s.tk.guard = false →
      s.boundaries.settle.tk.hourAhead = s.tk.hourAhead) := by
  have stays : s.flagStays := flagStays_of_minute (by rw [← s.localTime_within_hour.1]; omega)
  have tk : s.boundaries.settle.tk = s.giveHourAhead.tk := by
    rw [boundaries_tk stays, ← dateReached_tk, dateReached_of_hourAhead second minute]
  rw [tk, giveHourAhead_tk]
  refine ⟨fun valid later => ?_, fun none => ?_⟩
  · rw [if_pos ⟨valid, minute, later⟩]
    rfl
  · rw [if_neg]
    rintro ⟨valid, -, later⟩
    rcases none with invalid | passed
    · rw [valid] at invalid
      cases invalid
    · rw [later] at passed
      cases passed

/-- Every train is evaluated at a half minute (R35, R41). -/
theorem boundaries_dials (stays : s.flagStays) (half : s.localTime.second % 30 = 0) (n : Train) :
    s.boundaries.settle.dial n = (s.dial n).evaluate s.localTime s.tk.timeValid s.now ∧
      ((s.boundaries.settle.dial n).state ≠ (s.dial n).state → s.boundaries.settle.noticedAll .dial) := by
  have same : s.boundaries.settle.dial n = s.reached.dial n := by
    rw [boundaries_of_flagStays stays]
    exact congrArg (fun d => Table.get d n) (settle_dials _)
  rw [same]
  exact ⟨dial_reached half n, fun changes => s.reached_keeps.noticedAll (reached_noticedDial half n changes)⟩

theorem hourAheadNow_eq (second : s.localTime.second = 0) (tick : s.localTime.tick = 0) : s.hourAheadNow =
    { date := s.localTime.nextHour.date, hour := s.localTime.nextHour.index / 4, count := s.now + 15360 } := by
  unfold hourAheadNow
  rw [second, tick]

/-- TICK_END at the end of a second counts, announces the boundaries and delivers the signals. -/
theorem exec_tickEnd (on : s.power = .on) (tick : s.tk.counters.tick = 255) (runs : s.tk.counters ≠ .final) :
    exec .tickEnd s = .next s.count.boundaries.settle :=
  congrArg (fun t : State => Host.Outcome.next t.settle) (tick_of_boundary on tick runs)

theorem count_counters (runs : s.tk.counters ≠ .final) : s.count.tk.counters = s.tk.counters.advance := by
  rw [count_of_running runs]
  rfl

end State

/-- The tick end of minute 14, 29 or 44 counts to the next minute (R1). -/
theorem Counters.advance_minute {c : Counters} (tick : c.tick = 255) (second : c.second = 59) (minute : c.minute < 59) :
    c.advance.second = 0 ∧ c.advance.minute = c.minute + 1 := by
  unfold Counters.advance
  simp [tick, second, minute]

open State in
/-- Settles O15: the stages of a tick end one after the other, each with what follows it to the end of the event. -/
theorem quarterInstantsMoveTheGuard : Obligations.QuarterInstantsMoveTheGuard := by
  refine ⟨fun s on tick second minute => ?_, fun s on tick runs => ?_⟩
  · have runs : s.tk.counters ≠ .final := fun e => by
      rw [e] at minute
      revert minute
      decide
    obtain ⟨zero, next⟩ := Counters.advance_minute tick second (by omega)
    obtain ⟨localMinute, localSecond, -⟩ := s.count.localTime_within_hour
    rw [count_counters runs] at localMinute localSecond
    have quarter : s.count.localTime.minute % 15 = 0 := by omega
    have stays : s.count.flagStays := flagStays_of_minute (by rw [count_counters runs]; omega)
    obtain ⟨guard, missed, last⟩ := boundaries_quarter stays (localSecond.trans zero) quarter
    have time : s.count.boundaries.settle.localTime = s.count.localTime :=
      localTime_of_sameClock (boundaries_tk stays ▸ s.count.chimesReached_guard.clock)
    refine ⟨_, exec_tickEnd on tick runs, ?_, ?_, ?_, missed, last⟩
    · rw [settle_tk, boundaries_counters, count_counters runs]
    · rw [time]
      exact guard
    · rw [time]
      exact quarter
  · intro u l hour sameFlag
    have zero : s.count.localTime.tick = 0 := by
      rw [s.count.localTime_within_hour.2.2, count_counters runs, Counters.advance_tick_zero tick]
    have counters : s.count.tk.counters = u := count_counters runs
    have time : s.count.localTime = l := congrArg (Counters.toLocal · s.tk.dstInForce) counters
    have next : s.count.localTime.nextHour = hour := congrArg LocalTime.nextHour time
    have flag : s.count.flagStays = sameFlag := by
      unfold flagStays
      rw [counters]
      rfl
    clear_value hour l sameFlag u
    subst next time flag counters
    obtain ⟨minutes, seconds, -⟩ := s.count.localTime_within_hour
    refine ⟨_, exec_tickEnd on tick runs, ?_, boundaries_flagChanges, ?_, ?_, ?_, ?_, ?_, ?_, ?_, ?_⟩
    · rw [settle_tk, boundaries_counters]
    · exact fun p fires => s.count.reached_keeps.link.notices .tick p (reached_noticedTick (Tap.fires_of fires))
    · exact fun stays second quarter => boundaries_quarter stays (seconds.trans second) (minutes ▸ quarter)
    · intro q pr before second minute valid later program tune
      rw [boundaries_now]
      exact quarter_announced pr before (seconds.trans second) (minutes.trans minute)
        (Bool.and_eq_true_iff.mpr ⟨valid, later⟩) program tune (boundaries_chimesStay (flagStays_of_minute (by omega)))
    · intro second minute
      have ahead := hourAheadNow_eq (seconds.trans second) zero
      obtain ⟨given, none⟩ := boundaries_hourAhead (seconds.trans second) (minutes.trans minute)
      refine ⟨fun valid later => ⟨?_, fun pr program => ?_⟩, none⟩
      · rw [given valid later, ahead, boundaries_now]
      · have announced := hourAhead_announced pr (seconds.trans second) (minutes.trans minute) valid later program
          (boundaries_chimesStay (flagStays_of_minute (by omega)))
        rw [ahead] at announced
        rw [boundaries_now]
        exact announced
    · exact fun stays second midnight => boundaries_date stays (seconds.trans second) midnight
    · intro stays second hand
      have lit := boundaries_lit stays (seconds.trans second) hand
      exact ⟨lit.done, lit.ended⟩
    · intro slots stays second valid day held later
      obtain ⟨guard, starts⟩ := boundaries_slots stays (seconds.trans second) valid day held later
      refine ⟨guard, fun i x at_i minute alone room => ?_⟩
      obtain ⟨r, mem, date, number, bells, start, ends⟩ := starts i x at_i minute alone room
      rw [boundaries_now]
      exact ⟨r, mem, date, number, bells, start, ends⟩
    · intro stays half n
      rw [boundaries_now]
      exact boundaries_dials stays (seconds ▸ half) n

end Sys2Proof.Machine
end

section
/-! PROOFS. What calendar entries match (R22, R24): the dates of a year by month and by weekday. -/

namespace Sys2Proof.Machine

/-! ## Weekdays -/

/-- The weekday goes on by one from day to day of a month. -/
theorem Date.weekday_day (y m day : Nat) : Date.weekday ⟨y, m, day⟩ = (Date.number ⟨y, m, 0⟩ + day) % 7 := by
  simp only [Date.weekday, Date.number, Date.ordinal, Nat.add_assoc, Nat.zero_add]

/-- The weekday of the k-th date after a date of the calendar. -/
theorem Date.weekday_iterate_next {d : Date} (h : d.inCalendar = true) (hy : 1 ≤ d.year) (k : Nat) :
    (Date.next^[k] d).weekday = (d.weekday + k) % 7 := by
  induction k generalizing d with
  | zero => exact (Nat.mod_mod ..).symm
  | succ k ih =>
    rw [Function.iterate_succ_apply, ih (Date.next_inCalendar h) (hy.trans (Date.le_next_year d)), Date.weekday_next h hy]
    omega

theorem matchesDate_fixed (refs : List Date) (d : Date) (month day : Nat) :
    (EntryKind.fixed month day).matchesDate refs d = true ↔ d.month = month ∧ d.day = day := by
  simp [EntryKind.matchesDate]

theorem matchesDate_weekday (refs : List Date) (d : Date) (w : Nat) :
    (EntryKind.weekday w).matchesDate refs d = true ↔ d.weekday = w := by
  simp [EntryKind.matchesDate]

theorem matchesDate_nth (refs : List Date) (d : Date) (week : Week) (w month : Nat) :
    (EntryKind.nth week w month).matchesDate refs d = true ↔ d.month = month ∧ d.day = dayOfWeek d.year month week w := by
  simp [EntryKind.matchesDate]

/-- February has a 29th in leap years only. -/
theorem daysInMonth_february (y : Nat) : 29 ≤ daysInMonth y 2 ↔ isLeap y = true := by
  rw [show daysInMonth y 2 = if isLeap y then 29 else 28 from rfl]
  split <;> simp_all

/-- One of any seven consecutive dates has a given weekday. -/
theorem existsUnique_weekday {d : Date} (h : d.inCalendar = true) (hy : 1 ≤ d.year) {w : Nat} (hw : w < 7) :
    ∃! k, k < 7 ∧ (Date.next^[k] d).weekday = w := by
  simp only [Date.weekday_iterate_next h hy]
  exact ⟨(w + 7 - d.weekday % 7) % 7, by dsimp only; omega, fun k hk => by omega⟩

/-- Settles O20: the 29th of February is a date of leap years, and weekdays follow each other from date to date. -/
theorem fixedAndWeekdayEntriesMatch : Obligations.FixedAndWeekdayEntriesMatch := by
  refine ⟨matchesDate_fixed, fun refs d cal fixed => ?_, fun refs y leap => ?_, matchesDate_weekday, fun refs d w cal hy hw => ?_⟩
  · obtain ⟨month, day⟩ := (matchesDate_fixed ..).mp fixed
    obtain ⟨-, -, -, last⟩ := (Date.inCalendar_iff d).mp cal
    rw [month, day] at last
    exact (daysInMonth_february _).mp last
  · refine ⟨⟨y, 2, 29⟩, (Date.inCalendar_iff _).mpr ?_, rfl, (matchesDate_fixed ..).mpr ⟨rfl, rfl⟩⟩
    exact ⟨by simp, by simp, by simp, (daysInMonth_february y).mpr leap⟩
  · simp only [matchesDate_weekday]
    exact existsUnique_weekday cal hy hw

/-! ## The day that a week and a weekday name in a month -/

/-- Week n names the one day of its seven that has the weekday (R24). -/
theorem eq_dayOfWeek_nth {y m n w day : Nat} (hw : w < 7) :
    day = dayOfWeek y m (.nth n) w ↔
      Date.weekday ⟨y, m, day⟩ = w ∧ 7 * (n - 1) + 1 ≤ day ∧ day ≤ 7 * (n - 1) + 7 := by
  simp only [dayOfWeek, Date.weekday_day]
  omega

/-- LAST names the one of a month's last seven days that has the weekday (R24). -/
theorem eq_dayOfWeek_last {y m w day : Nat} (hw : w < 7) (hd : day ≤ daysInMonth y m) :
    day = dayOfWeek y m .last w ↔ Date.weekday ⟨y, m, day⟩ = w ∧ daysInMonth y m < day + 7 := by
  have long := one_le_daysInMonth y m
  simp only [dayOfWeek, Date.weekday_day]
  omega

/-- A day that the month has makes an NTH entry match one date of the year. -/
theorem existsUnique_matchesDate_nth (refs : List Date) {y month w : Nat} {week : Week} (hm : 1 ≤ month ∧ month ≤ 12)
    (first : 1 ≤ dayOfWeek y month week w) (last : dayOfWeek y month week w ≤ daysInMonth y month) :
    ∃! d : Date, d.inCalendar = true ∧ d.year = y ∧ (EntryKind.nth week w month).matchesDate refs d = true := by
  simp only [matchesDate_nth]
  refine ⟨⟨y, month, dayOfWeek y month week w⟩, ⟨(Date.inCalendar_iff _).mpr ⟨hm.1, hm.2, first, last⟩, rfl, rfl, rfl⟩, ?_⟩
  rintro ⟨y', m', d'⟩ ⟨-, year, m, day⟩
  dsimp only at year m day
  rw [day, year, m]

/-- Settles O21: the named day stands in the first 28 days of its month, or in its last seven. -/
theorem nthEntriesMatchOneDateInEachYear : Obligations.NthEntriesMatchOneDateInEachYear := by
  intro refs y month w _ month_pos month_le hw
  have long := one_le_daysInMonth y month
  refine ⟨fun n n_pos n_le => ⟨fun d cal year => ?_, ?_⟩, fun d cal year => ?_, ?_⟩
  · subst year
    rw [matchesDate_nth, eq_dayOfWeek_nth hw]
    exact and_congr_right fun m => m ▸ Iff.rfl
  · obtain ⟨-, first, last⟩ := (eq_dayOfWeek_nth (y := y) (m := month) (n := n) hw).mp rfl
    exact existsUnique_matchesDate_nth refs ⟨month_pos, month_le⟩ (by omega) (by omega)
  · obtain ⟨-, -, -, last⟩ := (Date.inCalendar_iff d).mp cal
    subst year
    rw [matchesDate_nth]
    exact and_congr_right fun m => by subst m; exact eq_dayOfWeek_last hw last
  · have first : daysInMonth y month < dayOfWeek y month .last w + 7 := by
      simp only [dayOfWeek]
      omega
    exact existsUnique_matchesDate_nth refs ⟨month_pos, month_le⟩ (by omega) (Nat.sub_le ..)

end Sys2Proof.Machine
end

section
/-! PROOFS. The choice for a date (R25), and the dates that a year's reference gives (R23). -/

namespace Sys2Proof.Machine

/-! ## The choice -/

/-- The entry of slot `i` with its slot, where it matches the date. -/
def Calendar.matchAt (c : Calendar) (d : Date) (i : EntrySlot) : Option (EntrySlot × Entry) :=
  ((c.entries.get i).filter fun e => e.kind.matchesDate c.yearRefs d).map fun e => (i, e)

theorem matchAt_eq_some {c : Calendar} {d : Date} {i : EntrySlot} {x : EntrySlot × Entry} :
    c.matchAt d i = some x ↔ i = x.1 ∧ c.entries.get i = some x.2 ∧ x.2.kind.matchesDate c.yearRefs d = true := by
  simp only [Calendar.matchAt, Option.map_eq_some_iff, Option.filter_eq_some_iff]
  constructor
  · rintro ⟨e, ⟨entry, fits⟩, rfl⟩
    exact ⟨rfl, entry, fits⟩
  · rintro ⟨rfl, entry, fits⟩
    exact ⟨x.2, ⟨entry, fits⟩, rfl⟩

theorem matching_eq (c : Calendar) (d : Date) : c.matching d = (List.finRange 48).filterMap (c.matchAt d) := by
  unfold Calendar.matching
  congr 1
  funext i
  unfold Calendar.matchAt
  cases c.entries.get i with
  | none => rfl
  | some e => cases fits : e.kind.matchesDate c.yearRefs d <;> simp [fits, Option.filter]

theorem mem_matching (c : Calendar) (d : Date) (i : EntrySlot) (e : Entry) :
    (i, e) ∈ c.matching d ↔ c.entries.get i = some e ∧ e.kind.matchesDate c.yearRefs d = true := by
  simp only [matching_eq, List.mem_filterMap, List.mem_finRange, true_and, matchAt_eq_some, exists_eq_left]

/-- The matching slots stand in ascending order. -/
theorem matching_ascending (c : Calendar) (d : Date) : (c.matching d).Pairwise fun x y => x.1 < y.1 := by
  rw [matching_eq]
  refine (List.pairwise_lt_finRange 48).filterMap _ fun i j lt x hx y hy => ?_
  rwa [(matchAt_eq_some.mp hx).1, (matchAt_eq_some.mp hy).1] at lt

/-- `x` is to be preferred to `y`: it has the higher rank, or an equal one and a slot no higher (R25). -/
def beats (x y : EntrySlot × Entry) : Prop := y.2.rank < x.2.rank ∨ (y.2.rank = x.2.rank ∧ x.1 ≤ y.1)

/-- Among ascending slots the winner is the one that beats them all. -/
theorem winner_beats {l : List (EntrySlot × Entry)} (ascending : l.Pairwise fun x y => x.1 < y.1) (h : l ≠ []) :
    ∃ x ∈ l, winner l = some x ∧ ∀ y ∈ l, beats x y := by
  induction l with
  | nil => exact absurd rfl h
  | cons a l ih =>
    obtain ⟨lower, rest⟩ := List.pairwise_cons.mp ascending
    by_cases empty : l = []
    · subst empty
      refine ⟨a, List.mem_singleton_self a, rfl, fun y hy => ?_⟩
      rw [List.mem_singleton.mp hy]
      exact .inr ⟨rfl, le_refl _⟩
    · obtain ⟨x, mem, wins, best⟩ := ih rest empty
      by_cases higher : a.2.rank < x.2.rank
      · refine ⟨x, List.mem_cons_of_mem a mem, by simp [winner, wins, higher], fun y hy => ?_⟩
        rcases List.mem_cons.mp hy with rfl | hy
        · exact .inl higher
        · exact best y hy
      · refine ⟨a, List.mem_cons_self, by simp [winner, wins, higher], fun y hy => ?_⟩
        rcases List.mem_cons.mp hy with rfl | hy
        · exact .inr ⟨rfl, le_refl _⟩
        · have above := lower y hy
          rcases best y hy with lt | ⟨eq, -⟩
          · exact .inl (by omega)
          · rcases Nat.lt_or_ge y.2.rank a.2.rank with lt | ge
            · exact .inl lt
            · exact .inr ⟨by omega, above.le⟩

theorem choose_of_none {c : Calendar} {d : Date} (h : c.matching d = []) : c.choose d = (0, none) := by
  unfold Calendar.choose
  rw [h]
  rfl

theorem choose_beats {c : Calendar} {d : Date} (h : c.matching d ≠ []) :
    ∃ x ∈ c.matching d, c.choose d = (x.2.program, some x.1) ∧ ∀ y ∈ c.matching d, beats x y := by
  obtain ⟨x, mem, wins, best⟩ := winner_beats (matching_ascending c d) h
  refine ⟨x, mem, ?_, best⟩
  unfold Calendar.choose
  rw [wins]

/-! ## The days of a year by number -/

theorem daysBefore_mono (y : Nat) {m n : Nat} (hm : 1 ≤ m) (h : m ≤ n) : daysBefore y m ≤ daysBefore y n := by
  induction n, h using Nat.le_induction with
  | base => exact le_refl _
  | succ n h ih =>
    rw [daysBefore_succ y (hm.trans h)]
    omega

/-- The days of a whole year. -/
theorem daysBefore_end (y : Nat) : daysBefore y 13 = 365 + (isLeap y).toNat := by
  have december := daysBefore_december y
  rw [daysBefore_succ y (by decide), show daysInMonth y 12 = 31 from rfl, december]
  cases isLeap y <;> rfl

/-- The days of a month follow those before it, and stand before those of the next. -/
theorem Date.ordinal_bounds {d : Date} (h : d.inCalendar = true) :
    daysBefore d.year d.month < d.ordinal ∧ d.ordinal ≤ daysBefore d.year (d.month + 1) := by
  obtain ⟨m, -, first, last⟩ := (Date.inCalendar_iff d).mp h
  rw [daysBefore_succ _ m]
  unfold Date.ordinal
  omega

theorem Date.ordinal_le {d : Date} (h : d.inCalendar = true) : 1 ≤ d.ordinal ∧ d.ordinal ≤ 365 + (isLeap d.year).toNat := by
  obtain ⟨low, high⟩ := Date.ordinal_bounds h
  obtain ⟨-, m, -, -⟩ := (Date.inCalendar_iff d).mp h
  have whole := daysBefore_mono d.year (Nat.le_add_left 1 d.month) (Nat.succ_le_succ m)
  rw [daysBefore_end] at whole
  omega

/-- A date's month is no later than that of a date with the same number in its year. -/
theorem Date.month_le_of_ordinal {d e : Date} (hd : d.inCalendar = true) (he : e.inCalendar = true) (year : d.year = e.year)
    (ordinal : d.ordinal = e.ordinal) : d.month ≤ e.month := by
  by_contra later
  have after := (Date.ordinal_bounds hd).1
  have before := (Date.ordinal_bounds he).2
  have months := daysBefore_mono e.year (Nat.le_add_left 1 e.month) (Nat.lt_of_not_le later)
  rw [year] at after
  omega

theorem Date.eq_of_ordinal {d e : Date} (hd : d.inCalendar = true) (he : e.inCalendar = true) (year : d.year = e.year)
    (ordinal : d.ordinal = e.ordinal) : d = e := by
  have month := Nat.le_antisymm (Date.month_le_of_ordinal hd he year ordinal)
    (Date.month_le_of_ordinal he hd year.symm ordinal.symm)
  unfold Date.ordinal at ordinal
  rw [year, month] at ordinal
  cases d
  cases e
  simp_all

/-- Every number of a day within a year is that of a date. -/
theorem Date.exists_ordinal (y : Nat) {n : Nat} (first : 1 ≤ n) (last : n ≤ 365 + (isLeap y).toNat) :
    ∃ d : Date, d.inCalendar = true ∧ d.year = y ∧ d.ordinal = n := by
  have month (m : Nat) : n ≤ daysBefore y (m + 1) → ∃ k, 1 ≤ k ∧ k ≤ m ∧ daysBefore y k < n ∧ n ≤ daysBefore y (k + 1) := by
    induction m with
    | zero => exact fun none => absurd (first.trans none) (by simp [daysBefore])
    | succ m ih =>
      intro within
      by_cases earlier : n ≤ daysBefore y (m + 1)
      · obtain ⟨k, low, high, bounds⟩ := ih earlier
        exact ⟨k, low, by omega, bounds⟩
      · exact ⟨m + 1, by omega, le_refl _, by omega, within⟩
  obtain ⟨m, low, high, after, before⟩ := month 12 (by rwa [daysBefore_end])
  rw [daysBefore_succ y low] at before
  refine ⟨⟨y, m, n - daysBefore y m⟩, (Date.inCalendar_iff _).mpr ?_, rfl, ?_⟩ <;> simp only [Date.ordinal] <;> omega

/-- Within a year the numbers of days and those of dates differ alike. -/
theorem Date.number_of_year {d e : Date} (year : d.year = e.year) : d.number + e.ordinal = e.number + d.ordinal := by
  unfold Date.number
  rw [year]
  omega

/-! ## The year references -/

/-- In a table that holds no year twice, the entry found for a year is the year's. -/
theorem find_year {refs : List Date} (ascending : refs.Pairwise fun x y => x.year < y.year) {r : Date} {y : Nat} :
    refs.find? (fun x => x.year == y) = some r ↔ r ∈ refs ∧ r.year = y := by
  induction refs with
  | nil => simp
  | cons a refs ih =>
    obtain ⟨lower, rest⟩ := List.pairwise_cons.mp ascending
    by_cases same : a.year = y
    · rw [List.find?_cons_of_pos (by simpa using same), List.mem_cons]
      constructor
      · rintro ⟨⟩
        exact ⟨.inl rfl, same⟩
      · rintro ⟨rfl | mem, year⟩
        · rfl
        · exact absurd (lower r mem) (by omega)
    · rw [List.find?_cons_of_neg (by simpa using same), ih rest, List.mem_cons]
      refine and_congr_left fun year => ⟨.inr, fun mem => mem.resolve_left ?_⟩
      rintro rfl
      exact same year

theorem matchesDate_yearRef {refs : List Date} (ascending : refs.Pairwise fun x y => x.year < y.year) (d : Date) (o : Int) :
    (EntryKind.yearRef o).matchesDate refs d = true ↔ ∃ r ∈ refs, r.year = d.year ∧ (d.ordinal : Int) = r.ordinal + o := by
  rw [EntryKind.matchesDate]
  constructor
  · intro fits
    split at fits
    · rename_i r found
      obtain ⟨mem, year⟩ := (find_year ascending).mp found
      exact ⟨r, mem, year, of_decide_eq_true fits⟩
    · cases fits
  · rintro ⟨r, mem, year, fits⟩
    rw [(find_year ascending).mpr ⟨mem, year⟩]
    exact decide_eq_true fits

/-- The reference of its year gives a date of the year, and no other, where the number that it names is one of the year's. -/
theorem existsUnique_yearRef {refs : List Date} (ascending : refs.Pairwise fun x y => x.year < y.year) {r : Date} (mem : r ∈ refs)
    (o : Int) : ((1 : Int) ≤ r.ordinal + o ∧ (r.ordinal : Int) + o ≤ 365 + (isLeap r.year).toNat) ↔
      ∃! x : Date, x.inCalendar = true ∧ x.year = r.year ∧ (EntryKind.yearRef o).matchesDate refs x = true := by
  have fits {x : Date} (year : x.year = r.year) :
      (EntryKind.yearRef o).matchesDate refs x = true ↔ (x.ordinal : Int) = r.ordinal + o := by
    rw [matchesDate_yearRef ascending]
    refine ⟨fun ⟨r', mem', year', ordinal⟩ => ?_, fun ordinal => ⟨r, mem, year.symm, ordinal⟩⟩
    have same := (find_year ascending).mpr ⟨mem', year'⟩
    rw [(find_year ascending).mpr ⟨mem, year.symm⟩] at same
    cases same
    exact ordinal
  constructor
  · rintro ⟨low, high⟩
    obtain ⟨x, cal, year, ordinal⟩ := Date.exists_ordinal r.year (n := (r.ordinal + o).toNat) (by omega) (by omega)
    refine ⟨x, ⟨cal, year, (fits year).mpr (by omega)⟩, fun x' ⟨cal', year', fits'⟩ => ?_⟩
    have ordinal' := (fits year').mp fits'
    exact Date.eq_of_ordinal cal' cal (year'.trans year.symm) (by omega)
  · rintro ⟨x, ⟨cal, year, matched⟩, -⟩
    have bounds := Date.ordinal_le cal
    have ordinal := (fits year).mp matched
    rw [year] at bounds
    omega

/-- Settles O22: the winner beats every matching slot, and the dates of a year are those of its day numbers. -/
theorem choiceTakesTheHighestRank : Obligations.ChoiceTakesTheHighestRank := by
  intro c d
  refine ⟨mem_matching c d, choose_of_none, fun found => ?_, fun refs o ascending =>
    ⟨?_, fun r mem => existsUnique_yearRef ascending mem o⟩⟩
  · obtain ⟨⟨i, e⟩, mem, chosen, best⟩ := choose_beats found
    exact ⟨i, e, mem, chosen, fun j x => best (j, x)⟩
  · rw [matchesDate_yearRef ascending]
    refine exists_congr fun r => and_congr_right fun _ => and_congr_right fun year => ?_
    have numbers := Date.number_of_year year
    omega

end Sys2Proof.Machine
end

section
/-! PROOFS. The edits of the calendar: the year-reference table (R20), the choice run again (R27), and the hand-over of a program
in the middle of a day (R27, R30). -/

namespace Sys2Proof.Machine

/-! ## The year-reference table -/

theorem mem_insertRef {d r : Date} {refs : List Date} : r ∈ insertRef d refs ↔ r = d ∨ r ∈ refs := by
  induction refs with
  | nil => simp [insertRef]
  | cons a refs ih =>
    unfold insertRef
    split
    · rw [List.mem_cons, List.mem_cons, ih, or_left_comm]
    · exact List.mem_cons

/-- Insertion among references of other years keeps the ascending order. -/
theorem insertRef_ascending {d : Date} {refs : List Date} (ascending : refs.Pairwise fun x y => x.year < y.year)
    (others : ∀ r ∈ refs, r.year ≠ d.year) : (insertRef d refs).Pairwise fun x y => x.year < y.year := by
  induction refs with
  | nil => exact List.pairwise_singleton ..
  | cons a refs ih =>
    obtain ⟨lower, rest⟩ := List.pairwise_cons.mp ascending
    unfold insertRef
    split
    · rename_i before
      refine List.pairwise_cons.mpr ⟨fun r hr => ?_, ih rest fun r hr => others r (List.mem_cons_of_mem a hr)⟩
      rcases mem_insertRef.mp hr with rfl | hr
      · exact before
      · exact lower r hr
    · have first : d.year < a.year := by
        have := others a List.mem_cons_self
        omega
      refine List.pairwise_cons.mpr ⟨fun r hr => ?_, ascending⟩
      rcases List.mem_cons.mp hr with rfl | hr
      · exact first
      · exact first.trans (lower r hr)

/-- The references of the other years, less the lowest of four (R20). -/
def keptRefs (d : Date) (refs : List Date) : List Date :=
  let others := refs.filter fun r => r.year != d.year
  if others.length < 4 then others else others.drop 1

theorem addRef_eq (d : Date) (refs : List Date) : addRef d refs = insertRef d (keptRefs d refs) := by
  unfold addRef keptRefs
  dsimp only
  split <;> rfl

theorem keptRefs_sublist (d : Date) (refs : List Date) : (keptRefs d refs).Sublist (refs.filter fun r => r.year != d.year) := by
  unfold keptRefs
  dsimp only
  split
  · exact List.Sublist.refl _
  · exact List.drop_sublist ..

theorem keptRefs_other {d r : Date} {refs : List Date} (h : r ∈ keptRefs d refs) : r ∈ refs ∧ r.year ≠ d.year := by
  simpa using (keptRefs_sublist d refs).subset h

/-- Only the lowest of four other years is not kept. -/
theorem mem_keptRefs_or {d r : Date} {refs : List Date} (few : refs.length ≤ 4)
    (ascending : refs.Pairwise fun x y => x.year < y.year) (mem : r ∈ refs) (other : r.year ≠ d.year) :
    r ∈ keptRefs d refs ∨ (refs.length = 4 ∧ (∀ x ∈ refs, x.year ≠ d.year) ∧ ∀ x ∈ refs, r.year ≤ x.year) := by
  have among : r ∈ refs.filter fun x => x.year != d.year := by simpa using ⟨mem, other⟩
  unfold keptRefs
  dsimp only
  split
  · exact .inl among
  · rename_i full
    have bound := List.length_filter_le (fun x : Date => x.year != d.year) refs
    have all : ∀ x ∈ refs, (x.year != d.year) = true := List.length_filter_eq_length_iff.mp (by omega)
    have four : refs.length = 4 := by omega
    rw [List.filter_eq_self.mpr all]
    cases refs with
    | nil => cases mem
    | cons a rest =>
      rcases List.mem_cons.mp mem with rfl | later
      · refine .inr ⟨four, fun x hx => by simpa using all x hx, fun x hx => ?_⟩
        rcases List.mem_cons.mp hx with rfl | hx
        · exact le_refl _
        · exact Nat.le_of_lt ((List.pairwise_cons.mp ascending).1 x hx)
      · exact .inl later

/-! ## What is handed over -/

/-- A program that has been handed over stands with the players, the swing controller and the lights (R30). -/
def State.Handed (d : DayInForce) (r : Program) (t : State) : Prop :=
  t.players.program = some r ∧ t.swing.day = some (d.date, r.slots) ∧ t.lights.plan = r.plan ∧ t.lights.handDate = some d.date

namespace State

variable {s : State} {d : DayInForce} {r : Program}

/-- The signals of an event leave with the blocks what was handed over to them. -/
theorem Handed.settle (h : s.Handed d r) : s.settle.Handed d r := by
  obtain ⟨program, day, plan, handDate⟩ := h
  have kept := (Settles.refl (guarded := False) s).settle
  exact ⟨kept.players.program.trans program, kept.swing.day.trans day, kept.lights.plan.trans plan,
    kept.lights.handDate.trans handDate⟩

theorem handOver_handed (day : s.cal.day = some d) (valid : Option Bool) (quiet : Bool) :
    (s.handOver valid quiet).Handed d (s.cal.programs.get d.program) := by
  have others (u : State) (e p v) : (u.lightHandOver e p v quiet).players = u.players ∧ (u.lightHandOver e p v quiet).swing = u.swing :=
    have within := lightHandOver_within (changesOnly.refl [.lights, .link, .signals] u) (List.Subset.refl _) e p v quiet
    ⟨within .players (by decide), within .swing (by decide)⟩
  unfold handOver
  simp only [day]
  have lights := lightHandOver_hands ((s.chimeHandOver (s.cal.programs.get d.program) valid.isSome).swingHandOver d.date
    (s.cal.programs.get d.program).slots) d.date (s.cal.programs.get d.program).plan valid quiet
  refine ⟨?_, ?_, lights.plan, lights.handDate⟩
  · rw [(others ..).1, (swingHandOver_settles ..).players.program]
    exact chimeHandOver_program ..
  · rw [(others ..).2, (swingHandOver_settles ..).swing.day]
    rfl

theorem handOver_cal (s : State) (valid : Option Bool) (quiet : Bool) : (s.handOver valid quiet).cal = s.cal :=
  handOver_within (changesOnly.refl _ s) (List.Subset.refl _) valid quiet .calendar (by decide)

theorem settle_cal (s : State) : s.settle.cal = s.cal :=
  settle_within (changesOnly.refl _ s) (List.Subset.refl _) .calendar (by decide)

end State

/-! ## The choice run again -/

/-- The day in force once the choice has been run again for its date (R27). -/
def Calendar.rechosen (c : Calendar) : Option DayInForce :=
  c.day.map fun d => { d with program := (c.choose d.date).1, winner := (c.choose d.date).2 }

/-- The payload of an edit's response: the program and winner after it, and whether they changed (R27). -/
def Calendar.editAnswer (c : Calendar) : List Byte :=
  wChoice (c.rechosen.map fun d => (d.program, d.winner)) ++ wFlag (decide (c.rechosen ≠ c.day))

namespace State

variable {s : State}

/-- A day in force stays as it is under the choice that it holds. -/
theorem withChoice_eq_self (d : DayInForce) (x : ProgramNo × Option EntrySlot) :
    { d with program := x.1, winner := x.2 } = d ↔ (d.program, d.winner) = x := by
  obtain ⟨date, program, winner, valid⟩ := d
  obtain ⟨y, w⟩ := x
  simp only [DayInForce.mk.injEq, Prod.mk.injEq, true_and, and_true]
  exact and_congr eq_comm eq_comm

theorem choiceDiffers_eq (s : State) : s.choiceDiffers = decide (s.cal.rechosen ≠ s.cal.day) := by
  unfold choiceDiffers Calendar.rechosen
  cases s.cal.day with
  | none => rfl
  | some d =>
    rw [Bool.eq_iff_iff, decide_eq_true_eq, Option.any_some, bne_iff_ne, Option.map_some, ne_eq, ne_eq, Option.some_inj,
      withChoice_eq_self]

theorem rerunChoice_of_same (same : s.cal.rechosen = s.cal.day) : s.rerunChoice = s := by
  have differs : s.choiceDiffers = false := by rw [choiceDiffers_eq, decide_eq_false (not_not_intro same)]
  unfold rerunChoice
  rw [differs]
  cases s.cal.day <;> rfl

theorem rerunChoice_of_changed (changed : s.cal.rechosen ≠ s.cal.day) :
    s.rerunChoice = (s.modCal fun c => { c with day := s.cal.rechosen }).handOver none false := by
  have differs : s.choiceDiffers = true := by rw [choiceDiffers_eq, decide_eq_true changed]
  unfold rerunChoice
  unfold Calendar.rechosen at changed ⊢
  cases day : s.cal.day with
  | none => exact absurd (by rw [day]; rfl) changed
  | some d =>
    simp only [differs, if_true, Option.map_some]

theorem rerunChoice_cal (s : State) : s.rerunChoice.cal = { s.cal with day := s.cal.rechosen } := by
  by_cases same : s.cal.rechosen = s.cal.day
  · rw [rerunChoice_of_same same, same]
  · rw [rerunChoice_of_changed same, handOver_cal]
    rfl

theorem rerunChoice_handed {d : DayInForce} (changed : s.cal.rechosen ≠ s.cal.day) (after : s.cal.rechosen = some d) :
    s.rerunChoice.Handed d (s.cal.programs.get d.program) := by
  rw [rerunChoice_of_changed changed]
  exact handOver_handed (s := s.modCal fun c => { c with day := s.cal.rechosen }) after none false

/-! ## The edits -/

theorem edited_eq (s : State) : s.edited = s.rerunChoice.settle.ok s.cal.editAnswer := by
  unfold edited Calendar.editAnswer
  dsimp only
  rw [settle_cal, rerunChoice_cal, choiceDiffers_eq]

/-- What an edit that makes the calendar `c` does: the choice is run again, a change is handed over, and where nothing changes
nothing else does (R27). -/
theorem edit_reruns {p : Port} {code : Byte} {i : Instr} {c : Calendar}
    (runs : exec i s = .next (respond p code ((s.takeFrame p false false).modCal fun _ => c).edited)) :
    (∃ t, exec i s = .next t ∧ t.cal = { c with day := c.rechosen } ∧ t.responds p code .ok c.editAnswer ∧
      (c.rechosen ≠ c.day → ∀ d, c.rechosen = some d → t.Handed d (c.programs.get d.program))) ∧
    (c.rechosen = c.day → s.signals = [] → exec i s = .next ((s.modCal fun _ => c).answers p code .ok c.editAnswer)) := by
  rw [edited_eq] at runs
  refine ⟨⟨_, runs, ?_, responds_respond .., fun changed d after => ?_⟩, fun same quiet => ?_⟩
  · exact (settle_cal _).trans (rerunChoice_cal _)
  · exact (rerunChoice_handed (s := (s.takeFrame p false false).modCal fun _ => c) changed after).settle
  · rw [runs, rerunChoice_of_same (s := (s.takeFrame p false false).modCal fun _ => c) same,
      settle_of_quiet (s := (s.takeFrame p false false).modCal fun _ => c) quiet, ← respond_takeFrame]
    rfl

/-- A record in force is handed over with its new contents (R30). -/
theorem program_inForce_handed {n : ProgramNo} {r : Program} {d : DayInForce} (day : s.cal.day = some d) (program : d.program = n) :
    ((s.modCal fun c => { c with programs := c.programs.set n r }).handOver none false).settle.Handed d r := by
  have handed := handOver_handed (s := s.modCal fun c => { c with programs := c.programs.set n r }) day none false
  rw [modCal_cal, program, Table.get_set_same] at handed
  exact handed.settle

/-- Whether program `n` is that of the day in force. -/
def inForce (s : State) (n : ProgramNo) : Bool := s.cal.day.any fun d => d.program == n

theorem inForce_of_day {n : ProgramNo} {d : DayInForce} (day : s.cal.day = some d) (program : d.program = n) : s.inForce n = true := by
  unfold inForce
  rw [day]
  exact beq_iff_eq.mpr program

theorem ownSetProgram_inForce {n : ProgramNo} (r : Program) (h : s.inForce n = true) : ownSetProgram (n, r) s =
    ((s.modCal fun c => { c with programs := c.programs.set n r }).handOver none false).settle.ok (wFlag true) := by
  unfold inForce at h
  simp only [ownSetProgram, h, if_true]

theorem ownSetProgram_other {n : ProgramNo} (r : Program) (h : s.inForce n = false) : ownSetProgram (n, r) s =
    (s.modCal fun c => { c with programs := c.programs.set n r }).ok (wFlag false) := by
  unfold inForce at h
  simp only [ownSetProgram, h, Bool.false_eq_true, if_false]

/-- What SET-PROGRAM does: the record is written, and handed over if it is in force (R28, R30). -/
theorem setProgram_writes {p : Port} {l : List Byte} {n : ProgramNo} {r : Program} (accepted : s.accepts p 0x1B l)
    (reads : readAll rSetProgram l = some (n, r)) :
    (∃ t, exec (.setProgram p l) s = .next t ∧ t.cal = { s.cal with programs := s.cal.programs.set n r } ∧
      t.responds p 0x1B .ok (wFlag (s.inForce n)) ∧ (∀ d, s.cal.day = some d → d.program = n → t.Handed d r)) ∧
    (s.inForce n = false → exec (.setProgram p l) s =
      .next ((s.modCal fun c => { c with programs := c.programs.set n r }).answers p 0x1B .ok (wFlag false))) := by
  have runs : exec (.setProgram p l) s = .next (respond p 0x1B (ownSetProgram (n, r) (s.takeFrame p false false))) :=
    congrArg Host.Outcome.next (parsed_accepted accepted reads ownSetProgram)
  cases h : s.inForce n with
  | true =>
    rw [ownSetProgram_inForce (s := s.takeFrame p false false) r h] at runs
    refine ⟨⟨_, runs, (settle_cal _).trans (handOver_cal ..), responds_respond .., fun d day program => ?_⟩,
      fun other => absurd other (by decide)⟩
    exact program_inForce_handed (s := s.takeFrame p false false) day program
  | false =>
    rw [ownSetProgram_other (s := s.takeFrame p false false) r h] at runs
    refine ⟨⟨_, runs, rfl, responds_respond .., fun d day program => ?_⟩, fun _ => ?_⟩
    · exact absurd ((inForce_of_day day program).symm.trans h) (by decide)
    · rw [runs, ← respond_takeFrame]
      rfl

end State

open State in
/-- Settles O23: each edit ends in the choice run again, and a new reference displaces at most the lowest of four others. -/
theorem calendarEditsRerunTheChoice : Obligations.CalendarEditsRerunTheChoice := by
  refine ⟨fun p l s => ⟨?_, ?_, ?_, ?_, ?_⟩, fun d refs few ascending => ?_⟩
  · intro d accepted reads
    exact edit_reruns (c := { s.cal with yearRefs := addRef d s.cal.yearRefs })
      (congrArg Host.Outcome.next (parsed_accepted accepted reads ownSetYearRef))
  · intro y accepted reads ⟨d, mem, year⟩
    have held : (s.cal.yearRefs.any fun d => d.year == y) = true := List.any_eq_true.mpr ⟨d, mem, beq_iff_eq.mpr year⟩
    refine edit_reruns (c := { s.cal with yearRefs := s.cal.yearRefs.filter fun d => d.year != y })
      ((congrArg Host.Outcome.next (parsed_accepted accepted reads ownClearYearRef)).trans ?_)
    exact congrArg (fun a => Host.Outcome.next (respond p 0x19 a)) (if_pos held)
  · intro y accepted reads none
    have missing : ¬(s.cal.yearRefs.any fun d => d.year == y) = true := by simpa using none
    refine (congrArg Host.Outcome.next (parsed_accepted accepted reads ownClearYearRef)).trans ?_
    rw [← respond_takeFrame]
    exact congrArg (fun a => Host.Outcome.next (respond p 0x19 a)) (if_neg missing)
  · intro i e accepted reads
    exact edit_reruns (c := { s.cal with entries := s.cal.entries.set i e })
      (congrArg Host.Outcome.next (parsed_accepted accepted reads ownSetEntry))
  · intro n r accepted reads
    exact setProgram_writes accepted reads
  · rw [addRef_eq]
    refine ⟨addRef_eq d refs ▸ addRef_length_le few d, ?_, mem_insertRef.mpr (.inl rfl), fun r mem => ?_, fun r mem other => ?_⟩
    · exact insertRef_ascending (ascending.sublist ((keptRefs_sublist d refs).trans List.filter_sublist))
        fun r mem => (keptRefs_other mem).2
    · exact (mem_insertRef.mp mem).imp_right fun mem => (keptRefs_other mem).1
    · exact (mem_keptRefs_or few ascending mem other).imp_left fun mem => mem_insertRef.mpr (.inr mem)

end Sys2Proof.Machine
end

section
/-! PROOFS. What the writers of fields write, the readers of fields read back (R182): the relation `ReadsBack` of bytes, a reader
and a value, with a rule for each field. -/

namespace Sys2Proof.Machine

/-- The reader takes the bytes `w` from the front of any parameters, and makes `a` of them. -/
def ReadsBack (w : List Byte) (r : Rd α) (a : α) : Prop := ∀ rest, r (w ++ rest) = some (a, rest)

/-- A reader that reads the bytes back reads them as a whole. -/
theorem readAll_of_readsBack {w : List Byte} {r : Rd α} {a : α} (h : ReadsBack w r a) : readAll r w = some a := by
  have whole := h []
  rw [List.append_nil] at whole
  unfold readAll
  rw [whole]

namespace ReadsBack

/-! ## Readers one after the other -/

theorem pure (a : α) : ReadsBack [] (Pure.pure a : Rd α) a := fun _ => rfl

theorem bind {w v : List Byte} {r : Rd α} {a : α} {f : α → Rd β} {b : β} (h : ReadsBack w r a) (g : ReadsBack v (f a) b) :
    ReadsBack (w ++ v) (r >>= f) b := by
  intro rest
  change (r (w ++ v ++ rest)).bind (fun x => f x.1 x.2) = some (b, rest)
  rw [List.append_assoc, h]
  exact g rest

/-- The last field of a record. -/
theorem last {w : List Byte} {r : Rd α} {a : α} {f : α → Rd β} {b : β} (h : ReadsBack w r a) (g : ReadsBack [] (f a) b) :
    ReadsBack w (r >>= f) b := by
  have joined := h.bind g
  rwa [List.append_nil] at joined

/-- A test between two fields takes no bytes. -/
theorem guard {ok : Bool} {w : List Byte} {f : Unit → Rd β} {b : β} (h : ok = true) (g : ReadsBack w (f ()) b) :
    ReadsBack w (rGuard ok >>= f) b :=
  bind (w := []) (by rw [h]; exact pure ()) g

theorem times {f : α → List Byte} {item : Rd α} (l : List α) (h : ∀ x ∈ l, ReadsBack (f x) item x) :
    ReadsBack (l.flatMap f) (rTimes item l.length) l := by
  induction l with
  | nil => exact pure []
  | cons x l ih =>
    rw [List.flatMap_cons]
    exact (h x List.mem_cons_self).bind ((ih fun y hy => h y (List.mem_cons_of_mem x hy)).last (pure _))

/-! ## Numbers -/

theorem le_succ (w n : Nat) : le (w + 1) n = BitVec.ofNat 8 n :: le w (n / 256) := by
  simp only [le, List.range_succ_eq_map, List.map_cons, List.map_map, Nat.pow_zero, Nat.div_one]
  congr 1
  refine List.map_congr_left fun i _ => ?_
  simp only [Function.comp_apply, Nat.pow_succ', Nat.div_div_eq_div_mul]

theorem le_zero (n : Nat) : le 0 n = [] := rfl

theorem byte {n : Nat} (h : n ≤ 255) : ReadsBack (le 1 n) rByte n := by
  intro rest
  rw [le_succ, le_zero]
  exact congrArg (fun k => some (k, rest)) (Nat.mod_eq_of_lt (Nat.lt_succ_of_le h))

theorem num {w n : Nat} (h : n < 256 ^ w) : ReadsBack (le w n) (rNum w) n := by
  induction w generalizing n with
  | zero =>
    obtain rfl : n = 0 := by simpa using h
    exact pure 0
  | succ w ih =>
    rw [Nat.pow_succ] at h
    have front : ReadsBack (le 1 (n % 256)) rByte (n % 256) := byte (by omega)
    have back := front.bind (f := fun b => rNum w >>= fun k => Pure.pure (b + 256 * k))
      ((ih (n := n / 256) (by omega)).last (pure _))
    have bytes : le (w + 1) n = le 1 (n % 256) ++ le w (n / 256) := by
      have low : BitVec.ofNat 8 n = BitVec.ofNat 8 (n % 256) := BitVec.eq_of_toNat_eq (by simp)
      rw [le_succ, le_succ, le_zero, low]
      rfl
    rw [bytes]
    rwa [Nat.mod_add_div] at back

theorem within {w n lo hi : Nat} (low : lo ≤ n) (high : n ≤ hi) (width : hi < 256 ^ w := by decide) :
    ReadsBack (le w n) (rIn w lo hi) n :=
  (num (high.trans_lt width)).last (guard (by simp [low, high]) (pure _))

theorem clamp {n lo hi : Nat} (low : lo ≤ n) (high : n ≤ hi) (width : hi < 256 ^ 2 := by decide) :
    ReadsBack (le 2 n) (rClamp lo hi) n := by
  have kept : max lo (min n hi) = n := by omega
  have read : ReadsBack (le 2 n) (rClamp lo hi) (max lo (min n hi)) := (num (high.trans_lt width)).last (pure _)
  rwa [kept] at read

theorem int {i : Int} (low : -32768 ≤ i) (high : i < 32768) : ReadsBack (leInt 2 i) rInt i := by
  have kept : (if (i % 65536).toNat < 32768 then ((i % 65536).toNat : Int) else ((i % 65536).toNat : Int) - 65536) = i := by
    split <;> omega
  have read : ReadsBack (leInt 2 i) rInt
      (if (i % 65536).toNat < 32768 then ((i % 65536).toNat : Int) else ((i % 65536).toNat : Int) - 65536) :=
    (num (w := 2) (n := (i % 65536).toNat) (by omega)).last (pure _)
  rwa [kept] at read

theorem clampInt {i lo hi : Int} (low : lo ≤ i) (high : i ≤ hi) (least : -32768 ≤ lo := by decide)
    (most : hi < 32768 := by decide) : ReadsBack (leInt 2 i) (rClampInt lo hi) i := by
  have kept : max lo (min i hi) = i := by omega
  have read : ReadsBack (leInt 2 i) (rClampInt lo hi) (max lo (min i hi)) := (int (by omega) (by omega)).last (pure _)
  rwa [kept] at read

/-! ## Names, flags and indices -/

theorem flag (b : Bool) : ReadsBack (wFlag b) rFlag b := by
  cases b <;> exact (within (by decide) (by decide)).last (pure _)

theorem name {names : List α} {k : Nat} {a : α} (h : names[k]? = some a) (few : k ≤ 255) :
    ReadsBack (wName k) (rName names) a :=
  (byte few).last (by rw [h]; exact pure a)

theorem fin {n : Nat} (k : Fin n) (few : n ≤ 256 := by decide) : ReadsBack (le 1 k.val) (rFin 1 n) k :=
  (num (by omega)).last (by rw [dif_pos k.isLt]; exact pure k)

theorem fin1 {n : Nat} (k : Fin n) (few : n ≤ 255 := by decide) : ReadsBack (le 1 (k.val + 1)) (rFin1 n) k :=
  (byte (by omega)).last (by rw [dif_pos ⟨Nat.le_add_left .., k.isLt⟩]; exact pure k)

theorem zeros (w : Nat) : ReadsBack (le w 0) (rZeros w) () :=
  (num (Nat.pow_pos (by decide))).last (guard rfl (pure ()))

/-- A value where a name could stand. -/
theorem orValue {w : Nat} {v : List Byte} {value : Rd α} {names : List α} {a : α} (h : ReadsBack v value a) :
    ReadsBack (le 1 0 ++ v) (rOr w value names) a :=
  (byte (by decide)).bind h

/-- The one name that may stand where a value could. -/
theorem orName (w : Nat) (value : Rd α) (a : α) : ReadsBack (le 1 1 ++ le w 0) (rOr w value [a]) a :=
  (byte (by decide)).bind ((zeros w).last (pure a))

/-- A value or NONE. -/
theorem orNone {w : Nat} {f : α → List Byte} {value : Rd α} (h : ∀ a, ReadsBack (f a) value a) (x : Option α) :
    ReadsBack (wOr w f x) (rOr w (value >>= fun a => Pure.pure (some a)) [none]) x := by
  cases x with
  | some a => exact orValue ((h a).last (pure _))
  | none => exact orName w _ none

/-- A set kept as the bits of a number. -/
theorem bells (m : BellSet) : ReadsBack (wBells m) rBells m := by
  have read : ReadsBack (wBells m) rBells (BitVec.ofNat 24 m.toNat) := (num (by omega)).last (pure _)
  rwa [BitVec.ofNat_toNat, BitVec.setWidth_eq] at read

theorem circuits (m : CircuitMask) : ReadsBack (le 1 m.toNat) rCircuits m := by
  have read : ReadsBack (le 1 m.toNat) rCircuits (BitVec.ofNat 8 m.toNat) := (byte (by omega)).last (pure _)
  rwa [BitVec.ofNat_toNat, BitVec.setWidth_eq] at read

end ReadsBack
end Sys2Proof.Machine
end

section
/-! PROOFS. The records that the reads write and the setting requests read back (R21, R28, R46, R150, R158, R182). -/

namespace Sys2Proof.Machine

open ReadsBack

/-- A table of four is its four rows. -/
theorem Table.exists_four (t : Table 4 α) : ∃ a b c d, t = ⟨[a, b, c, d], rfl⟩ := by
  obtain ⟨rows, len⟩ := t
  match rows, len with
  | [a, b, c, d], _ => exact ⟨a, b, c, d, rfl⟩

/-! ## Bells and circuits -/

theorem readsBack_setBell (b : Bell) {c : BellConfig} (legal : c.legal = true) :
    ReadsBack (wBell b ++ wBellConfig c) rSetBell (b, c) := by
  obtain ⟨hammer, motor, _, _, widths, _, _, _, _, _, _, _⟩ := c
  obtain ⟨w1, w2, w3, w4, rfl⟩ := Table.exists_four widths
  simp only [BellConfig.legal, List.all_cons, List.all_nil, Bool.and_true, Bool.and_eq_true, decide_eq_true_eq, and_assoc] at legal
  obtain ⟨lead, recovery, recovery', first, first', second, second', third, third', fourth, fourth',
    startLoad, runLoad, start, start', pulse, pulse', settle, settle', stop, stop', park, park'⟩ := legal
  simp only [wBellConfig, List.flatMap_cons, List.flatMap_nil, List.append_assoc, List.nil_append]
  exact (fin1 b).bind <| (flag hammer).bind <| (flag motor).bind <| (byte lead).bind <| (within recovery recovery').bind <|
    (within first first').bind <| (within second second').bind <| (within third third').bind <| (within fourth fourth').bind <|
    (within (Nat.zero_le _) startLoad).bind <| (within (Nat.zero_le _) runLoad).bind <| (within start start').bind <|
    (within pulse pulse').bind <| (within settle settle').bind <| (within stop stop').bind <| (within park park').last (.pure _)

theorem readsBack_setCircuit (c : Circuit) {k : CircuitConfig} (weight : k.weight ≤ 400) (rank : k.rank ≤ 8)
    (floor : k.floor ≤ 255) (fallback : k.fallback ≤ 255) :
    ReadsBack (le 1 (c.val + 1) ++ wCircuitConfig k) rSetCircuit (c, k) := by
  simp only [wCircuitConfig, List.append_assoc]
  exact (fin1 c).bind <| (within (Nat.zero_le _) weight).bind <| (within (Nat.zero_le _) rank).bind <|
    (byte floor).bind <| (byte fallback).last (.pure _)

/-! ## Dates and calendar entries -/

theorem daysInMonth_le (y m : Nat) : daysInMonth y m ≤ 255 := by
  unfold daysInMonth
  repeat' split
  all_goals decide

theorem readsBack_date {d : Date} (cal : d.inCalendar = true) (low : 1900 ≤ d.year) (high : d.year ≤ 2999) :
    ReadsBack (wDate d) rDate d := by
  obtain ⟨m1, m2, d1, d2⟩ := (Date.inCalendar_iff d).mp cal
  have long := daysInMonth_le d.year d.month
  simp only [wDate, List.append_assoc]
  exact (within low high).bind <| (within m1 m2).bind <| (byte (d2.trans long)).last <|
    .guard (by simp [d1, d2]) (.pure _)

/-- The fields of a calendar entry's kind are within their ranges (R21). -/
def EntryKind.inRange : EntryKind → Prop
  | .fixed month day => 1 ≤ month ∧ month ≤ 12 ∧ 1 ≤ day ∧ day ≤ longestMonth month
  | .yearRef o => -120 ≤ o ∧ o ≤ 240
  | .weekday w => w ≤ 6
  | .nth week w month => (∀ n, week = .nth n → 1 ≤ n ∧ n ≤ 4) ∧ w ≤ 6 ∧ 1 ≤ month ∧ month ≤ 12

theorem readsBack_week {week : Week} (h : ∀ n, week = .nth n → 1 ≤ n ∧ n ≤ 4) : ReadsBack (wWeek week) rWeek week := by
  cases week with
  | nth n => exact orValue ((within (h n rfl).1 (h n rfl).2).last (.pure _))
  | last => exact orName 1 _ _

theorem readsBack_kind {k : EntryKind} (h : k.inRange) : ReadsBack (wKind k) rKind k := by
  cases k with
  | fixed month day =>
    obtain ⟨m1, m2, d1, d2⟩ := h
    have long := daysInMonth_le 2000 month
    simp only [wKind, List.append_assoc]
    exact (byte (by decide)).bind <| (within m1 m2).bind <| (byte (d2.trans long)).bind <|
      .guard (by simp [d1, d2]) <| (zeros 2).last (.pure _)
  | yearRef o =>
    obtain ⟨low, high⟩ := h
    simp only [wKind, List.append_assoc]
    exact (byte (by decide)).bind <| (int (by omega) (by omega)).bind <|
      .guard (by simp [low, high]) <| (zeros 2).last (.pure _)
  | weekday w =>
    simp only [wKind, List.append_assoc]
    exact (byte (by decide)).bind <| (within (Nat.zero_le _) h).bind <| (zeros 3).last (.pure _)
  | nth week w month =>
    obtain ⟨weeks, day, m1, m2⟩ := h
    simp only [wKind, List.append_assoc]
    exact (byte (by decide)).bind <| (readsBack_week weeks).bind <| (within (Nat.zero_le _) day).bind <|
      (within m1 m2).last (.pure _)

theorem readsBack_entry {e : Entry} (rank : e.rank ≤ 15) (kind : e.kind.inRange) : ReadsBack (wEntry e) rEntry e := by
  simp only [wEntry, List.append_assoc]
  exact (readsBack_kind kind).bind <| (within (Nat.zero_le _) rank).bind <| (fin e.program).last (.pure _)

theorem readsBack_setEntry (i : EntrySlot) {e : Option Entry} (h : ∀ x, e = some x → x.rank ≤ 15 ∧ x.kind.inRange) :
    ReadsBack (le 1 i.val ++ wOr 7 wEntry e) rSetEntry (i, e) := by
  refine (fin i).bind <| .last ?_ (.pure _)
  cases e with
  | some x => exact orValue ((readsBack_entry (h x rfl).1 (h x rfl).2).last (.pure _))
  | none => exact orName 7 _ _

/-! ## Plans -/

/-- A plan step's trigger is within its range (R158). -/
def Trigger.inRange : Trigger → Prop
  | .clock m => m ≤ 1439
  | .sunset o | .sunrise o => -120 ≤ o ∧ o ≤ 120
  | .ringStart | .ringEnd => True

theorem readsBack_trigger {x : Trigger} (h : x.inRange) : ReadsBack (wTrigger x) rTrigger x := by
  cases x with
  | clock m => exact (byte (by decide)).bind <| (within (Nat.zero_le _) h).last (.pure _)
  | sunset o => exact (byte (by decide)).bind <| (clampInt h.1 h.2).last (.pure _)
  | sunrise o => exact (byte (by decide)).bind <| (clampInt h.1 h.2).last (.pure _)
  | ringStart => exact (byte (by decide)).bind <| (zeros 2).last (.pure _)
  | ringEnd => exact (byte (by decide)).bind <| (zeros 2).last (.pure _)

theorem readsBack_step {x : PlanStep} (level : x.level ≤ 255) (ramp : x.ramp ≤ 600) (trigger : x.trigger.inRange) :
    ReadsBack (wStep x) rStep x := by
  simp only [wStep, List.append_assoc]
  exact (readsBack_trigger trigger).bind <| (circuits x.mask).bind <| (clamp (Nat.zero_le _) level).bind <|
    (clamp (Nat.zero_le _) ramp).last (.pure _)

theorem readsBack_setPlan (n : PlanNo) {l : List PlanStep} (few : l.length ≤ 12) (steps : ∀ x ∈ l, ReadsBack (wStep x) rStep x) :
    ReadsBack (le 1 n.val ++ wList wStep l) rSetPlan (n, l) :=
  (fin n).bind <| (within (Nat.zero_le _) few).bind <| (times l steps).last (.pure _)

/-! ## Day programs -/

theorem readsBack_tuneOr (t : Option TuneSlot) : ReadsBack (wTuneOr t) rTuneOr t := orNone fin t

/-- The fields of a ringing slot are within their ranges (R28). -/
def RingSlot.inRange (x : RingSlot) : Prop := x.start ≤ 1439 ∧ 1 ≤ x.duration ∧ x.duration ≤ 180 ∧ x.stagger ≤ 60

theorem readsBack_ringSlot {x : RingSlot} (h : x.inRange) : ReadsBack (wRingSlot x) rRingSlot x := by
  obtain ⟨start, d1, d2, stagger⟩ := h
  simp only [wRingSlot, List.append_assoc]
  exact (within (Nat.zero_le _) start).bind <| (bells x.bells).bind <| (within d1 d2).bind <|
    (within (Nat.zero_le _) stagger).last (.pure _)

theorem readsBack_policy (p : Policy) : ReadsBack (wName p.ctorIdx) rPolicy p := by
  cases p <;> exact name rfl (by decide)

theorem readsBack_busy (p : BusyPolicy) : ReadsBack (wName p.ctorIdx) (rName [.drop, .defer]) p := by
  cases p <;> exact name rfl (by decide)

/-- The fields of a day program are within their ranges (R28). -/
structure Program.InRange (r : Program) : Prop where
  tempo : 16 ≤ r.tempo ∧ r.tempo ≤ 255
  maxSlip : r.maxSlip ≤ 255
  hourInterval : 128 ≤ r.hourInterval ∧ r.hourInterval ≤ 2048
  hourGap : r.hourGap ≤ 1023
  hourClass : 1 ≤ r.hourClass ∧ r.hourClass ≤ 4
  silentStart : r.silentStart ≤ 1439
  silentEnd : r.silentEnd ≤ 1439
  few : r.slots.length ≤ 4
  slots : ∀ x ∈ r.slots, x.inRange

theorem readsBack_program {r : Program} (h : r.InRange) : ReadsBack (wProgram r) rProgram r := by
  obtain ⟨tempo, maxSlip, interval, gap, cls, silentStart, silentEnd, few, slots⟩ := h
  obtain ⟨tunes, _, policy, _, hourOn, hourBell, _, _, _, busy, _, _, plan, _⟩ := r
  obtain ⟨q1, q2, q3, q4, rfl⟩ := Table.exists_four tunes
  simp only [wProgram, List.flatMap_cons, List.flatMap_nil, List.append_assoc, List.nil_append]
  exact (readsBack_tuneOr q1).bind <| (readsBack_tuneOr q2).bind <| (readsBack_tuneOr q3).bind <| (readsBack_tuneOr q4).bind <|
    (within tempo.1 tempo.2).bind <| (readsBack_policy policy).bind <| (byte maxSlip).bind <| (flag hourOn).bind <|
    (fin1 hourBell).bind <| (within interval.1 interval.2).bind <| (within (Nat.zero_le _) gap).bind <|
    (within cls.1 cls.2).bind <| (readsBack_busy busy).bind <| (within (Nat.zero_le _) silentStart).bind <|
    (within (Nat.zero_le _) silentEnd).bind <| (orNone fin plan).bind <| (within (Nat.zero_le _) few).bind <|
    (times _ fun x hx => readsBack_ringSlot (slots x hx)).last (.pure _)

/-- Settles O32: each record is read back field by field. -/
theorem recordsReadBackAsWritten : Obligations.RecordsReadBackAsWritten := by
  refine ⟨fun b c legal => ?_, fun c k weight rank floor fallback => ?_, fun d cal low high => ?_, fun i e rank kind => ?_,
    fun i => ?_, fun n l few steps => ?_, fun n r t1 t2 slip i1 i2 gap c1 c2 opens closes few slots => ?_⟩
  · exact readAll_of_readsBack (readsBack_setBell b legal)
  · exact readAll_of_readsBack (readsBack_setCircuit c weight rank floor fallback)
  · exact readAll_of_readsBack (readsBack_date cal low high)
  · refine readAll_of_readsBack (readsBack_setEntry i fun x same => ?_)
    cases same
    exact ⟨rank, kind⟩
  · exact readAll_of_readsBack (readsBack_setEntry i fun x none => nomatch none)
  · refine readAll_of_readsBack (readsBack_setPlan n few fun x mem => ?_)
    obtain ⟨level, ramp, trigger⟩ := steps x mem
    exact readsBack_step level ramp trigger
  · have program := readsBack_program ⟨⟨t1, t2⟩, slip, ⟨i1, i2⟩, gap, ⟨c1, c2⟩, opens, closes, few, slots⟩
    exact readAll_of_readsBack ((fin n).bind (program.last (.pure _)))

end Sys2Proof.Machine
end

section
/-! PROOFS. Which requests leave the timekeeper and the dial trains alone: the frame of each request's owner. -/

namespace Sys2Proof.Machine

/-- Every block but the timekeeper and the dial trains. -/
abbrev Block.offDials : List Block :=
  [.pending, .power, .calendar, .bells, .claims, .engine, .players, .clavier, .swing, .lights, .load, .link, .store, .signals]

namespace State

open Block (offDials)

/-! ## Answers -/

theorem request_offDials (s : State) (p : Port) (code : Byte) (params : List Byte) {owner : State → Answer}
    (hf : ∀ u : State, u.changesOnly offDials (owner u).state) : s.changesOnly offDials (s.request p code params owner) :=
  request_within (.refl _ s) (by decide) p code params fun u h => h.trans (hf u)

theorem parsed_offDials {r : Rd α} {params : List Byte} {owner : α → State → Answer}
    (hf : ∀ x (u : State), u.changesOnly offDials (owner x u).state) (u : State) :
    u.changesOnly offDials (parsed r params owner u).state :=
  parsed_within (fun x _ h => h.trans (hf x _)) u (.refl _ u)

theorem requestParsed_offDials (s : State) (p : Port) (code : Byte) (params : List Byte) (r : Rd α)
    {owner : α → State → Answer} (hf : ∀ x (u : State), u.changesOnly offDials (owner x u).state) :
    s.changesOnly offDials (s.request p code params (parsed r params owner)) :=
  s.request_offDials p code params (parsed_offDials hf)

theorem read_offDials (s : State) (p : Port) (code : Byte) (params : List Byte) (data : State → Option (List Byte)) :
    s.changesOnly offDials (s.read p code params data id) :=
  read_within (.refl _ s) (by decide) p code params data fun _ h => h

theorem part_offDials (s : State) (p : Port) (code : Byte) (params : List Byte) {owner : List Byte → State → Answer}
    (hf : ∀ l (u : State), u.changesOnly offDials (owner l u).state) : s.changesOnly offDials (s.part p code params owner) :=
  part_within (.refl _ s) (by decide) p code params fun l _ h => h.trans (hf l _)

theorem taken_within {s t : State} {L : List Block} (h : s.changesOnly L t) (hl : [.link] ⊆ L) (p : Port) (code : Byte)
    (payload : List Byte) : s.changesOnly L (t.taken p code payload).state := modPort_within h hl _ _

variable (u : State)

/-! ## The links -/

theorem ownReadNotices_offDials (p : Port) : u.changesOnly offDials (u.ownReadNotices p).state :=
  modPort_within (.refl _ u) (by decide) _ _

theorem ownSetMask_offDials (p : Port) (m : BitVec 14) : u.changesOnly offDials (u.ownSetMask p m).state :=
  modPort_within (.refl _ u) (by decide) _ _

theorem ownSetRights_offDials (x : PerPort (BitVec 10)) : u.changesOnly offDials (u.ownSetRights x).state :=
  modPort_within (modPort_within (modPort_within (.refl _ u) (by decide) _ _) (by decide) _ _) (by decide) _ _

theorem ownLock_offDials (x : BitVec 6) : u.changesOnly offDials (u.ownLock x).state :=
  modLink_within (.refl _ u) (by decide) _

theorem ownRestart_offDials (p : Port) : u.changesOnly offDials (u.ownRestart p).state :=
  modPort_within (.refl _ u) (by decide) _ _

/-! ## The calendar -/

theorem modCal_edited_offDials (f : Calendar → Calendar) : u.changesOnly offDials (u.modCal f).edited.state :=
  settle_within (rerunChoice_within (modCal_within (.refl _ u) (by decide) f) (by decide)) (by decide)

theorem ownSetYearRef_offDials (d : Date) : u.changesOnly offDials (u.ownSetYearRef d).state := u.modCal_edited_offDials _

theorem ownClearYearRef_offDials (y : Nat) : u.changesOnly offDials (u.ownClearYearRef y).state := by
  unfold ownClearYearRef
  split
  · exact u.modCal_edited_offDials _
  · exact .refl _ u

theorem ownSetEntry_offDials (x : EntrySlot × Option Entry) : u.changesOnly offDials (u.ownSetEntry x).state :=
  u.modCal_edited_offDials _

theorem ownSetProgram_offDials (x : ProgramNo × Program) : u.changesOnly offDials (u.ownSetProgram x).state :=
  have set := modCal_within (.refl _ u) (by decide) fun c => { c with programs := c.programs.set x.1 x.2 }
  ite_within (settle_within (handOver_within set (by decide) _ _) (by decide)) set

/-! ## The bells and the claims -/

theorem ownSetBell_offDials (x : Bell × BellConfig) : u.changesOnly offDials (u.ownSetBell x).state := by
  unfold ownSetBell
  dsimp only
  split
  · exact .refl _ u
  · have set := modBell_within (.refl offDials u) (by decide) x.1 fun r => { r with config := x.2 }
    exact settle_within (ite_within (unfitHammer_within set (by decide) _)
      (ite_within (fitHammer_within set (by decide) _) set)) (by decide)

theorem takeLatches_offDials : u.changesOnly offDials u.takeLatches := takeLatches_within (.refl _ u) (by decide)

theorem clearHammer_offDials (b : Bell) : u.changesOnly offDials (u.clearHammer b).state := by
  have cleared := modBell_within (.refl offDials u) (by decide) b fun r => { r with cause := none }
  unfold clearHammer
  dsimp only
  split
  · exact .refl _ u
  split
  · exact .refl _ u
  split
  · exact settle_within (enterParked_within cleared (by decide) _ _) (by decide)
  split
  · exact settle_within (enterParking_within cleared (by decide) _) (by decide)
  split
  · exact settle_within (setHammer_within cleared (by decide) _ _ _ _) (by decide)
  · exact .refl _ u

theorem clearSwing_offDials (b : Bell) : u.changesOnly offDials (u.clearSwing b).state := by
  unfold clearSwing
  split
  · exact .refl _ u
  split
  · exact .refl _ u
  · exact settle_within (toSettling_within (modSwingRec_within (.refl _ u) (by decide) _ _) (by decide) _ _) (by decide)

theorem ownClearFault_offDials (p : Port) (n : Nat) (right : Right) (params : List Byte) {clear : Bell → State → Answer}
    (hf : ∀ b (v : State), v.changesOnly offDials (clear b v).state) :
    u.changesOnly offDials (u.ownClearFault p n right params clear).state := by
  unfold ownClearFault
  split
  · exact .refl _ u
  split
  · exact .refl _ u
  split
  · exact hf _ u
  · exact .refl _ u

theorem ownClaim_offDials (p : Port) (x : BellSet × ClaimKind) : u.changesOnly offDials (u.ownClaim p x).state := by
  unfold ownClaim
  dsimp only
  split
  · exact settle_within (.foldl (fun _ _ h => takeClaim_within h (by decide) _ _ _) (.refl _ u) _) (by decide)
  · exact .refl _ u

theorem ownRenew_offDials (p : Port) (m : BellSet) : u.changesOnly offDials (u.ownRenew p m).state :=
  .foldl (fun _ _ h => setClaim_within h (by decide) _ _) (.refl _ u) _

theorem ownRelease_offDials (p : Port) (m : BellSet) : u.changesOnly offDials (u.ownRelease p m).state :=
  settle_within (.foldl (fun _ _ h => giveUpClaim_within h (by decide) _) (.refl _ u) _) (by decide)

theorem ownSetClaimHold_offDials (p : Port) (n : Nat) : u.changesOnly offDials (u.ownSetClaimHold p n).state :=
  modClaims_within (.refl _ u) (by decide) _

/-! ## The strikes and the players -/

theorem ownSetPriority_offDials (x : Priorities) : u.changesOnly offDials (u.ownSetPriority x).state :=
  modEngine_within (.refl _ u) (by decide) _

theorem ownTunePlay_offDials (p : Port) (x : PlayRequest) : u.changesOnly offDials (u.ownTunePlay p x).state := by
  unfold ownTunePlay
  split
  · exact .refl _ u
  split
  · exact .refl _ u
  · exact taken_within (enqueueStoreOp_within (modPlayers_within (.refl _ u) (by decide) _) (by decide) _) (by decide) _ _ _

theorem ownTuneStop_offDials : u.changesOnly offDials u.ownTuneStop.state := by
  have stopped := stopRequest_within (.refl offDials u) (by decide) .stopped
  unfold ownTuneStop
  split
  · exact .refl _ u
  · exact stopped
  all_goals exact purge_within stopped (by decide) _ _

theorem ownTollStart_offDials (p : Port) (x : TollRequest) : u.changesOnly offDials (u.ownTollStart p x).state :=
  modPlayers_within (modToll_within (.refl _ u) (by decide) _ _) (by decide) _

theorem ownTollStop_offDials (p : Port) : u.changesOnly offDials (u.ownTollStop p).state := by
  unfold ownTollStop
  split
  · exact purge_within (modToll_within (.refl _ u) (by decide) _ _) (by decide) _ _
  · exact .refl _ u

theorem ownStrike_offDials (p : Port) (x : Bell × Nat) : u.changesOnly offDials (u.ownStrike p x).state :=
  settle_within (arbitrate_within (plan_within (.refl _ u) (by decide) _) (by decide)) (by decide)

/-! ## The clavier and the swings -/

theorem bindClavier_offDials (x : KeyMode × Nat × Option Port) : u.changesOnly offDials (u.bindClavier x).state := by
  have bound := modClavier_within (changeMode_within (.refl offDials u) (by decide) x.1) (by decide)
    fun c => { c with cls := x.2.1, binding := x.2.2 }
  unfold bindClavier
  dsimp only
  split
  · exact ite_within (raise_within bound (by decide) _ _) bound
  · exact bound

theorem ownSetClavier_offDials (p : Port) (params : List Byte) : u.changesOnly offDials (u.ownSetClavier p params).state := by
  unfold ownSetClavier
  dsimp only
  split
  · exact .refl _ u
  split
  · exact .refl _ u
  · exact parsed_offDials (fun x (v : State) => v.bindClavier_offDials x) u

theorem ownReadKeys_offDials : u.changesOnly offDials u.ownReadKeys.state := modClavier_within (.refl _ u) (by decide) _

theorem startBells_offDials (p : Port) (minutes : Option Nat) (bs : List Bell) {t : State} (h : u.changesOnly offDials t)
    (yes : List Bell) (no : List (Bell × StartRefusal)) :
    u.changesOnly offDials (startBells p minutes bs (t, yes, no)).1 := by
  induction bs generalizing t yes no with
  | nil => exact h
  | cons b bs ih =>
    unfold startBells
    split
    · exact ih h _ _
    · exact ih (toParking_within h (by decide) _ _ _) _ _

theorem ownSwingStart_offDials (p : Port) (x : BellSet × Option Nat) : u.changesOnly offDials (u.ownSwingStart p x).state :=
  settle_within (u.startBells_offDials p x.2 (bellsOf x.1) (.refl _ u) [] []) (by decide)

theorem ownSwingStop_offDials (m : BellSet) : u.changesOnly offDials (u.ownSwingStop m).state :=
  settle_within (.foldl (fun _ _ h => bringDown_within h (by decide) _ _) (.refl _ u) _) (by decide)

/-! ## The lights and the load -/

theorem ownSetCircuit_offDials (x : Circuit × CircuitConfig) : u.changesOnly offDials (u.ownSetCircuit x).state := by
  unfold ownSetCircuit
  dsimp only
  split
  · exact .refl _ u
  · exact settle_within (rewant_within (watchReservation_within (.refl _ u) (by decide) _ _
      (modCircuit_within (.refl _ u) (by decide) _ _)) (by decide) _ _ _) (by decide)

theorem ownSetPlan_offDials (x : PlanNo × List PlanStep) : u.changesOnly offDials (u.ownSetPlan x).state :=
  have set := modLights_within (.refl _ u) (by decide) fun l => { l with plans := l.plans.set x.1 x.2 }
  ite_within (settle_within (buildTimeline_within set (by decide) _) (by decide)) set

theorem ownSetLevel_offDials (p : Port) (x : LevelRequest) : u.changesOnly offDials (u.ownSetLevel p x).state :=
  settle_within (.foldl (fun _ _ h => rewant_within (modCircuit_within h (by decide) _ _) (by decide) _ _ _) (.refl _ u) _)
    (by decide)

theorem ownSetSolar_offDials (x : Table 24 SolarPoint) : u.changesOnly offDials (u.ownSetSolar x).state :=
  settle_within (buildTimeline_within (modLights_within (.refl _ u) (by decide) _) (by decide) _) (by decide)

theorem ownSetLoad_offDials (x : Nat × Nat × Nat) : u.changesOnly offDials (u.ownSetLoad x).state := by
  have set := modLoad_within (.refl offDials u) (by decide) fun l => { l with capacity := x.1, reserve := x.2.1, wait := x.2.2 }
  unfold ownSetLoad
  dsimp only
  split
  · exact .refl _ u
  · exact settle_within (ite_within (signal_within set (by decide) _) set) (by decide)

/-! ## The store -/

theorem ownTuneBegin_offDials (p : Port) (x : Nat × Nat × Policy) : u.changesOnly offDials (u.ownTuneBegin p x).state := by
  unfold ownTuneBegin
  split
  · exact .refl _ u
  · exact modStore_within (.refl _ u) (by decide) _

theorem ownTuneWrite_offDials (p : Port) (params : List Byte) : u.changesOnly offDials (u.ownTuneWrite p params).state := by
  unfold ownTuneWrite
  split
  · exact .refl _ u
  split
  · exact .refl _ u
  split
  · exact .refl _ u
  · exact modStore_within (.refl _ u) (by decide) _

theorem ownTuneCommit_offDials (p : Port) (x : TuneSlot) : u.changesOnly offDials (u.ownTuneCommit p x).state := by
  unfold ownTuneCommit
  split
  · exact .refl _ u
  split
  · exact taken_within (enqueueStoreOp_within (modStore_within (.refl _ u) (by decide) _) (by decide) _) (by decide) _ _ _
  · exact .refl _ u

theorem ownTuneInfo_offDials (p : Port) (x : TuneSlot) : u.changesOnly offDials (u.ownTuneInfo p x).state :=
  taken_within (enqueueStoreOp_within (.refl _ u) (by decide) _) (by decide) _ _ _

end State
end Sys2Proof.Machine
end

section
/-! PROOFS. What evaluations make of the dial trains: the relation `Drives` from a record, and from a state, to a later one of the
same count (R35 to R37). -/

namespace Sys2Proof.Machine

/-! ## One train -/

theorem Dial.Stays.refl (a : Dial) : a.Stays a := ⟨rfl, rfl, rfl, rfl, rfl, rfl, rfl, rfl⟩

theorem Dial.Stays.trans {a b c : Dial} (h : a.Stays b) (g : b.Stays c) : a.Stays c :=
  ⟨g.mode.trans h.mode, g.position.trans h.position, g.lastPolarity.trans h.lastPolarity, g.uncertain.trans h.uncertain,
    g.fitted.trans h.fitted, g.width.trans h.width, g.period.trans h.period, g.hold.trans h.hold⟩

/-- No impulse begins and none ends from `a` to `b`. -/
structure Dial.SameImpulse (a b : Dial) : Prop where
  impulse : b.impulse = a.impulse
  mark : b.inFlight = a.inFlight
  start : b.lastStart = a.lastStart
  catchUp : b.catchUp = a.catchUp

theorem Dial.SameImpulse.refl (a : Dial) : a.SameImpulse a := ⟨rfl, rfl, rfl, rfl⟩

theorem Dial.SameImpulse.trans {a b c : Dial} (h : a.SameImpulse b) (g : b.SameImpulse c) : a.SameImpulse c :=
  ⟨g.impulse.trans h.impulse, g.mark.trans h.mark, g.start.trans h.start, g.catchUp.trans h.catchUp⟩

/-- An impulse has begun at the count `now`, the time being valid or not (R37). -/
structure Dial.Begun (now : Nat) (valid : Bool) (d : Dial) : Prop where
  impulse : d.impulse = some { polarity := d.lastPolarity.flip, ends := now + d.width }
  mode : d.mode = .running
  valid : valid = true
  mark : d.inFlight = true
  start : d.lastStart = some now
  catchUp : d.catchUp = now + d.period

theorem Dial.Begun.of_same {now : Nat} {v w : Bool} {a b : Dial} (h : a.Begun now v) (stays : a.Stays b)
    (same : a.SameImpulse b) (valid : v = true → w = true) : b.Begun now w where
  impulse := by rw [same.impulse, h.impulse, stays.lastPolarity, stays.width]
  mode := stays.mode.trans h.mode
  valid := valid h.valid
  mark := same.mark.trans h.mark
  start := same.start.trans h.start
  catchUp := by rw [same.catchUp, h.catchUp, stays.period]

/-- Evaluations at the count `now` make `b` of `a`: the position stays, and an impulse begins at most, where none was in flight
and the catch-up instant has been reached. -/
structure Dial.Drives (now : Nat) (valid : Bool) (a b : Dial) : Prop where
  stays : a.Stays b
  impulse : a.SameImpulse b ∨ a.impulse = none ∧ a.catchUp ≤ now ∧ b.Begun now valid

theorem Dial.Drives.refl (now : Nat) (valid : Bool) (a : Dial) : a.Drives now valid a := ⟨.refl a, .inl (.refl a)⟩

theorem Dial.Drives.trans {now : Nat} {v w : Bool} {a b c : Dial} (h : Dial.Drives now v a b) (g : Dial.Drives now w b c)
    (valid : v = true → w = true) : Dial.Drives now w a c := by
  refine ⟨h.stays.trans g.stays, ?_⟩
  rcases h.impulse with same | ⟨free, reached, begun⟩
  · exact g.impulse.imp same.trans fun ⟨free, reached, begun⟩ =>
      ⟨same.impulse.symm.trans free, same.catchUp ▸ reached, begun⟩
  · rcases g.impulse with same | ⟨absent, -, -⟩
    · exact .inr ⟨free, reached, begun.of_same g.stays same valid⟩
    · rw [begun.impulse] at absent
      cases absent

/-- A demanded impulse begins at the catch-up instant, or nothing does (R37). -/
theorem Dial.beginImpulse_drives {d : Dial} {v : Bool} (demand : d.demanded = true → d.mode = .running ∧ v = true)
    (now : Nat) : d.Drives now v (d.beginImpulse now) := by
  refine ⟨d.beginImpulse_stays now, ?_⟩
  unfold Dial.beginImpulse
  split
  · rename_i begins
    simp only [Bool.and_eq_true, decide_eq_true_eq, Option.isNone_iff_eq_none] at begins
    obtain ⟨⟨demanded, reached⟩, free⟩ := begins
    obtain ⟨running, valid⟩ := demand demanded
    exact .inr ⟨free, reached, ⟨rfl, running, valid, rfl, rfl, rfl⟩⟩
  · exact .inl (.refl d)

theorem Dial.evaluate_drives (d : Dial) (t : LocalTime) (v : Bool) (now : Nat) : d.Drives now v (d.evaluate t v now) := by
  unfold Dial.evaluate
  split
  · exact .refl now v d
  · rename_i running
    rw [ne_eq, not_not] at running
    split
    · exact ⟨⟨rfl, rfl, rfl, rfl, rfl, rfl, rfl, rfl⟩, .inl ⟨rfl, rfl, rfl, rfl⟩⟩
    · rename_i valid
      have begins := Dial.beginImpulse_drives (v := v) (d :=
        { d with
          state := d.stateFor (d.lagAt t), lag := some (d.lagAt t), demanded := d.demandsFor (d.lagAt t)
          catchUpDue := d.stateFor (d.lagAt t) == DialState.catching && d.catchesUp now })
        (fun _ => ⟨running, by simpa using valid⟩) now
      obtain ⟨⟨mode, position, polarity, uncertain, fitted, width, period, hold⟩, impulse⟩ := begins
      exact ⟨⟨mode, position, polarity, uncertain, fitted, width, period, hold⟩,
        impulse.imp_left fun ⟨impulse, mark, start, catchUp⟩ => ⟨impulse, mark, start, catchUp⟩⟩

theorem Dial.evaluateCatchUp_drives (d : Dial) (t : LocalTime) (v : Bool) (now : Nat) :
    d.Drives now v (d.evaluateCatchUp t v now) :=
  (d.evaluate_drives t v now).trans (w := v) ⟨⟨rfl, rfl, rfl, rfl, rfl, rfl, rfl, rfl⟩, .inl ⟨rfl, rfl, rfl, rfl⟩⟩ id

/-! ## The part -/

/-- `t` is of the count of `s`, a valid time stays valid, and each train is what evaluations make of it. -/
structure State.Drives (s t : State) : Prop where
  now : t.now = s.now
  valid : s.tk.timeValid = true → t.tk.timeValid = true
  dials : ∀ n, Dial.Drives s.now t.tk.timeValid (s.dial n) (t.dial n)

namespace State.Drives

open Block (offDials)

variable {s t u : State}

theorem refl (s : State) : s.Drives s := ⟨rfl, id, fun n => .refl _ _ (s.dial n)⟩

theorem trans (h : s.Drives t) (g : t.Drives u) : s.Drives u :=
  ⟨g.now.trans h.now, fun v => g.valid (h.valid v), fun n => (h.dials n).trans (h.now ▸ g.dials n) g.valid⟩

theorem ite {c : Prop} [Decidable c] (h : s.Drives t) (g : s.Drives u) : s.Drives (if c then t else u) := by
  split <;> assumption

/-- The trains, the count and a valid flag stay. -/
theorem rest (h : s.Drives t) (now : u.now = t.now) (valid : t.tk.timeValid = true → u.tk.timeValid = true)
    (dials : u.dials = t.dials) : s.Drives u :=
  h.trans ⟨now, valid, fun n => by
    rw [dial, dial, dials]
    exact .refl ..⟩

theorem frame (h : s.Drives t) (g : t.changesOnly offDials u) : s.Drives u := by
  have tk : u.tk = t.tk := g .timekeeper (by decide)
  exact h.rest (congrArg Timekeeper.runCount tk) (fun v => tk ▸ v) (g .dials (by decide))

theorem clock (h : s.Drives t) (same : t.tk.SameClock u.tk) (dials : u.dials = t.dials) : s.Drives u :=
  h.rest same.runCount (fun v => same.timeValid.trans v) dials

theorem modTk (h : s.Drives t) {f : Timekeeper → Timekeeper} (count : (f t.tk).runCount = t.tk.runCount := by rfl)
    (valid : t.tk.timeValid = true → (f t.tk).timeValid = true := by exact id) : s.Drives (t.modTk f) :=
  h.rest count valid rfl

/-! ### Evaluations -/

theorem changeDial (h : s.Drives t) (n : Train) {f : Dial → Dial}
    (hf : Dial.Drives t.now t.tk.timeValid (t.dial n) (f (t.dial n))) : s.Drives (t.changeDial n f) := by
  have changed : t.Drives (t.modDial n f) := ⟨rfl, id, fun m => by
    rw [dial_modDial]
    split
    · rename_i same
      rw [same]
      exact hf
    · exact .refl ..⟩
  exact h.trans (ite changed (changed.frame (raiseAll_within (.refl _ _) (by decide) _)))

theorem evaluateDial (h : s.Drives t) (n : Train) : s.Drives (t.evaluateDial n) :=
  h.changeDial n ((t.dial n).evaluate_drives ..)

theorem evaluateDials (h : s.Drives t) : s.Drives t.evaluateDials :=
  h.trans ⟨congrArg Timekeeper.runCount t.evaluateDials_tk, fun v => (congrArg Timekeeper.timeValid t.evaluateDials_tk).trans v,
    fun n => by
      rw [dial_evaluateDials, evaluateDials_tk]
      exact (t.dial n).evaluate_drives ..⟩

/-- What a CATCHING train's instant brings, or an impulse that waits for it in another state (R37). -/
theorem dialCatchesUp (h : s.Drives t) (law : t.dialLaw) (n : Train) : s.Drives (t.dialCatchesUp n) := by
  have legal := (Dial.legal_iff ..).mp (law n)
  obtain ⟨-, -, -, -, -, -, demand, -⟩ := legal
  have begins := Dial.beginImpulse_drives (fun x => ⟨(demand x).1, (demand x).2.1⟩) t.now
  have begun : t.Drives (t.modDial n fun d => d.beginImpulse t.now) := ⟨rfl, id, fun m => by
    rw [dial_modDial]
    split
    · rename_i same
      rw [same]
      exact begins
    · exact .refl ..⟩
  exact ite (h.changeDial n ((t.dial n).evaluateCatchUp_drives ..)) (ite (h.trans begun) h)

/-! ### The timekeeper's stages -/

theorem giveHourAhead (h : s.Drives t) : s.Drives t.giveHourAhead := h.clock t.giveHourAhead_sameClock t.giveHourAhead_dials

theorem recordMissed (h : s.Drives t) (after : Nat) : s.Drives (t.recordMissed after) :=
  h.clock (t.recordMissed_sameClock after) (t.recordMissed_dials after)

theorem withdrawHourAhead (h : s.Drives t) : s.Drives t.withdrawHourAhead := by
  unfold State.withdrawHourAhead
  split
  · exact h.modTk.frame (chimeWithdrawn_within (.refl _ _) (by decide) _)
  · exact h

theorem dateChange (h : s.Drives t) (quiet : Bool) : s.Drives (t.dateChange quiet) :=
  h.frame (dateChange_within (.refl _ t) (by decide) quiet)

theorem correct (h : s.Drives t) (before : LocalTime) (record setValid : Bool) :
    s.Drives (t.correct before record setValid) := by
  have passed : s.Drives (t.passOver before record) := ite (h.withdrawHourAhead.recordMissed _) h.withdrawHourAhead
  have lit (l) : s.Drives ((t.passOver before record).giveHourAhead.evaluateDials.lightTimeChange before l) :=
    passed.giveHourAhead.evaluateDials.frame (lightTimeChange_within (.refl _ _) (by decide) before l)
  rw [correct_eq]
  exact (ite ((lit _).dateChange false) (lit _)).frame (raiseAll_within (.refl _ _) (by decide) .time)

theorem setInForce (h : s.Drives t) : s.Drives t.setInForce := h.modTk

theorem evaluateDst (h : s.Drives t) : s.Drives t.evaluateDst := ite h (h.setInForce.correct ..)

theorem stepTime (h : s.Drives t) (c : Counters) : s.Drives (t.stepTime c) :=
  (h.modTk (valid := fun _ => rfl)).setInForce.correct ..

theorem settle (h : s.Drives t) : s.Drives t.settle := h.frame (settle_within (.refl _ t) (by decide))

theorem quarterReached (h : s.Drives t) (l : LocalTime) : s.Drives (t.quarterReached l) :=
  ite (h.modTk.modTk.frame (chimeAnnounced_within (.refl _ _) (by decide) _)) h.modTk

theorem boundaries (h : s.Drives t) : s.Drives t.boundaries := by
  unfold State.boundaries
  extract_lets now quarter ahead date minute half taps
  have a : s.Drives quarter := ite (h.quarterReached _) h
  have b : s.Drives ahead := ite a.giveHourAhead a
  have c : s.Drives date := ite (b.dateChange _) b
  have d : s.Drives minute := ite (c.frame (minuteReached_within (.refl _ _) (by decide) _)) c
  have e : s.Drives half := ite d.evaluateDials d
  have f : s.Drives taps := e.frame (tapsReached_within (.refl _ _) (by decide) _)
  exact ite f.evaluateDst f

theorem startStages (h : s.Drives t) : s.Drives t.startStages := by
  unfold State.startStages
  extract_lets flag told recorded given
  have a : s.Drives told := ite h.setInForce (h.setInForce.frame (raiseAll_within (.refl _ _) (by decide) .time))
  have b : s.Drives recorded := ite (a.recordMissed _) a
  exact (b.giveHourAhead.dateChange true).evaluateDials

end State.Drives
end Sys2Proof.Machine
end

section
/-! PROOFS. What the law of the dial trains (O26) says of one command: the relation `ObeysDials`, and the ways to obey it. -/

namespace Sys2Proof.Machine.State

open Block (offDials)

/-- The command is one of those after which an impulse may begin before the catch-up instant that stood in `s`: a start, which
loses that instant (R34, R41). -/
def startsOver (c : Instr) (s : State) : Prop :=
  ¬(s.power = .on ∧ c ≠ .resetInput ∧ ∀ p, c = .responseSent p → (s.port p).restart = false)

/-- The law of the dial trains for the command `c`, which takes `s` to `t` (R33 to R38, R42). -/
def ObeysDials (c : Instr) (s t : State) : Prop :=
  ∀ n, ((t.dial n).position = (s.dial n).position ∨ (∃ p l, c = .setDial p l) ∨
      (∃ i, (s.dial n).impulse = some i ∧ i.ends ≤ s.now ∧ t.dial n =
        { s.dial n with
          impulse := none, position := ((s.dial n).position + 1) % 1440, lastPolarity := i.polarity
          inFlight := false })) ∧
    (∀ i, (t.dial n).impulse = some i → (s.dial n).impulse = none →
      i.polarity = (t.dial n).lastPolarity.flip ∧ (t.dial n).mode = .running ∧ t.tk.timeValid = true ∧
        (t.dial n).inFlight = true ∧ (t.dial n).lastStart = some t.now ∧ (t.dial n).catchUp = t.now + (t.dial n).period ∧
        i.ends = t.now + (t.dial n).width ∧
        (s.power = .on → c ≠ .resetInput → (∀ p, c = .responseSent p → (s.port p).restart = false) →
          (s.dial n).catchUp ≤ t.now))

/-- `u` is what the command makes of `s` before it evaluates a train: none has moved but by SET-DIAL, no impulse has begun, and
the catch-up instants stand but at a start. -/
def ReadiesDials (c : Instr) (s u : State) : Prop :=
  ∀ n, ((u.dial n).position = (s.dial n).position ∨ ∃ p l, c = .setDial p l) ∧
    ((s.dial n).impulse = none → (u.dial n).impulse = none) ∧ (startsOver c s ∨ (u.dial n).catchUp = (s.dial n).catchUp)

variable {c : Instr} {s t u : State}

namespace ReadiesDials

theorem of_dials (h : u.dials = s.dials) : ReadiesDials c s u := fun n => by
  rw [dial, h]
  exact ⟨.inl rfl, id, .inr rfl⟩

theorem modDial (h : ReadiesDials c s u) (n : Train) {f : Dial → Dial}
    (position : (f (u.dial n)).position = (u.dial n).position ∨ ∃ p l, c = .setDial p l := by exact .inl rfl)
    (impulse : (f (u.dial n)).impulse = (u.dial n).impulse := by rfl)
    (catchUp : (f (u.dial n)).catchUp = (u.dial n).catchUp := by rfl) : ReadiesDials c s (u.modDial n f) := by
  intro m
  obtain ⟨place, free, instant⟩ := h m
  rw [dial_modDial]
  split
  · rename_i here
    subst here
    rw [impulse, catchUp]
    exact ⟨position.elim (fun kept => place.imp_left kept.trans) .inr, free, instant⟩
  · exact ⟨place, free, instant⟩

end ReadiesDials

namespace ObeysDials

/-- A command that makes `s` ready for evaluations, and then evaluates. -/
theorem of_drives (h : ReadiesDials c s u) (g : u.Drives t) : ObeysDials c s t := by
  intro n
  obtain ⟨position, free, instant⟩ := h n
  obtain ⟨stays, impulse⟩ := g.dials n
  refine ⟨position.imp stays.position.trans .inl, fun i flies idle => ?_⟩
  rcases impulse with same | ⟨-, reached, begun⟩
  · rw [same.impulse, free idle] at flies
    cases flies
  · rw [begun.impulse] at flies
    cases flies
    rw [g.now]
    exact ⟨rfl, begun.mode, begun.valid, begun.mark, begun.start, begun.catchUp, rfl, fun on reset sent =>
      instant.elim (fun starts => absurd ⟨on, reset, sent⟩ starts) fun kept => kept ▸ reached⟩

/-- A command that only evaluates. -/
theorem drives (h : s.Drives t) : ObeysDials c s t := of_drives (.of_dials rfl) h

theorem frame (h : s.changesOnly offDials t) : ObeysDials c s t := drives ((Drives.refl s).frame h)

theorem same (s : State) : ObeysDials c s s := drives (.refl s)

theorem ite {P : Prop} [Decidable P] (h : ObeysDials c s t) (g : ObeysDials c s u) : ObeysDials c s (if P then t else u) := by
  split <;> assumption

/-- A command after which no impulse is in flight, and no train has moved. -/
theorem of_cut (h : ∀ n, (t.dial n).position = (s.dial n).position ∧ (t.dial n).impulse = none) : ObeysDials c s t :=
  fun n => ⟨.inl (h n).1, fun i flies _ => by
    rw [(h n).2] at flies
    cases flies⟩

end ObeysDials

/-! ## The losses and the starts -/

/-- A loss of the supply cuts every impulse and moves no train (R39). -/
theorem dropVolatile_cut (s : State) (n : Train) :
    (s.dropVolatile.dial n).position = (s.dial n).position ∧ (s.dropVolatile.dial n).impulse = none := by
  refine ⟨?_, s.dropVolatile_impulse n⟩
  rw [dial, dropVolatile_dials, dropDials, modDials_dials, Table.get_map]
  rfl

theorem dial_markUncertain (s : State) (n : Train) : s.markUncertain.dial n =
    { s.dial n with uncertain := (s.dial n).uncertain || (s.dial n).inFlight, inFlight := false } := by
  have marked : s.markUncertain.dials =
      s.dials.map fun d => { d with uncertain := d.uncertain || d.inFlight, inFlight := false } := by
    unfold markUncertain
    dsimp only
    split <;> rfl
  rw [dial, marked, Table.get_map]
  rfl

/-- A start of the state `v`, in which the trains stand as in `s`: no impulse is in flight where the trains are evaluated. -/
theorem ObeysDials.of_start {v : State} (starts : startsOver c s) (dials : v.dials = s.dials) {mains : Bool}
    (after : (v.start mains).Drives t) : ObeysDials c s t := by
  have noticed : (v.startNoticed mains).dials = v.dropVolatile.dials := v.startNoticed_within mains .dials (by decide)
  have evaluated : (v.startNoticed mains).markUncertain.Drives (v.start mains) :=
    start_eq v mains ▸ (Drives.refl _).startStages.settle
  refine .of_drives (fun n => ?_) (evaluated.trans after)
  obtain ⟨position, impulse⟩ := v.dropVolatile_cut n
  rw [dial_markUncertain, dial, noticed]
  refine ⟨.inl (position.trans ?_), fun _ => impulse, .inl starts⟩
  rw [dial, dials]
  rfl

theorem startsOver_of_dark (dark : s.power ≠ .on) : startsOver c s := fun h => dark h.1

theorem warmStarts_obeys (s : State) : ObeysDials .warmStart s s.warmStarts := by
  unfold warmStarts
  split
  · exact .same s
  · rename_i dark
    exact .of_start (startsOver_of_dark dark) rfl (.refl _)

theorem resets_obeys (s : State) : ObeysDials .resetInput s s.resets := by
  have starts : startsOver .resetInput s := fun ⟨_, reset, _⟩ => reset rfl
  unfold resets
  split
  · exact .of_start starts (v := s.modLink fun l => { l with locks := 0 }) rfl (.refl _)
  · exact .same s

theorem responseGone_obeys (s : State) (p : Port) : ObeysDials (.responseSent p) s (s.responseGone p) := by
  unfold responseGone
  dsimp only
  split
  · split
    · rename_i restart
      have starts : startsOver (.responseSent p) s := fun ⟨_, _, sent⟩ =>
        absurd ((sent p rfl).symm.trans restart) (by decide)
      exact .of_start starts (v := s.modPort p _) rfl ((Drives.refl _).frame (keepSending_within (.refl _ _) (by decide) _))
    · exact .frame (modPort_within (.refl _ s) (by decide) _ _)
  · exact .same s

theorem scanWorking_obeys (s : State) (matrix : BitVec 96) (lockout mains : Bool) :
    ObeysDials c s (s.scanWorking matrix lockout mains) := by
  unfold scanWorking
  extract_lets old read
  have scanned : s.changesOnly offDials read := modBells_within (.refl _ s) (by decide) _
  have cut (n : Train) := read.dropVolatile_cut n
  refine .ite (.of_cut fun n => ⟨(cut n).1, (cut n).2⟩) (.frame ?_)
  exact settle_within (deliverScan_within scanned (by decide) _) (by decide)

theorem scanMains_obeys (dark : s.power ≠ .on) (mains : Bool) : ObeysDials c s (s.scanMains mains) := by
  have scanned := modBells_within (.refl offDials s) (by decide) fun t => { t with mains := t.mains.sample mains }
  unfold scanMains warmStarts
  exact .ite (.ite (.frame scanned) (.of_start (startsOver_of_dark dark) (scanned .dials (by decide)) (.refl _)))
    (.frame scanned)

/-- A scan evaluates no train, but where mains returns with it (R63). -/
theorem exec_sensorScan_obeys (s : State) (matrix : BitVec 96) (lockout mains : Bool) :
    ∃ t, exec (.sensorScan matrix lockout mains) s = .next t ∧ ObeysDials (.sensorScan matrix lockout mains) s t := by
  refine ⟨_, rfl, ?_⟩
  split
  · exact s.scanWorking_obeys matrix lockout mains
  · rename_i absent
    exact scanMains_obeys (by rw [absent]; decide) mains
  · exact .same s

/-! ## The clock, and the instants of the trains -/

/-- A tick counts first, and evaluates at the new count (R1, R35). -/
theorem tick_obeys (s : State) : ObeysDials c s s.tick.settle :=
  have evaluated : s.count.Drives s.tick := .ite (Drives.refl s.count).boundaries (.refl s.count)
  .of_drives (u := s.count) (.of_dials rfl) evaluated.settle

/-- An impulse ends where it has been driven for its width, and moves the train by one (R38). -/
theorem dialImpulseEnds_obeys (s : State) (n : Train) : ObeysDials c s (s.dialImpulseEnds n) := by
  intro m
  unfold dialImpulseEnds
  rw [dial_modDial]
  split
  · rename_i here
    subst here
    split
    · rename_i i flies
      split
      · rename_i due
        exact ⟨.inr (.inr ⟨i, flies, due, rfl⟩), nofun⟩
      · exact ObeysDials.same s m
    · exact ObeysDials.same s m
  · exact ObeysDials.same s m

/-! ## The requests -/

/-- What follows in other blocks is of no account. -/
theorem ObeysDials.then_frame (h : ObeysDials c s t) (g : t.changesOnly offDials u) : ObeysDials c s u := by
  have dials : u.dials = t.dials := g .dials (by decide)
  have tk : u.tk = t.tk := g .timekeeper (by decide)
  intro n
  have obeys := h n
  unfold dial now at obeys ⊢
  rw [dials, tk]
  exact obeys

/-- A request obeys the law as its owner does on the taken frame. -/
theorem request_obeys (s : State) (p : Port) (code : Byte) (params : List Byte) (r : Rd α) {owner : α → State → Answer}
    (hf : ∀ x u, s.changesOnly offDials u → ObeysDials c s (owner x u).state) :
    ObeysDials c s (s.request p code params (parsed r params owner)) := by
  have taken : s.changesOnly offDials (s.takeFrame p false false) := takeFrame_within (.refl _ s) (by decide) p false false
  have answered {a : Answer} (h : ObeysDials c s a.state) : ObeysDials c s (respond p code a) :=
    h.then_frame (respond_within (.refl _ _) (by decide) p code)
  unfold request parsed
  split
  · dsimp only
    split
    · exact answered (.frame taken)
    · split
      · exact answered (hf _ _ taken)
      · exact answered (.frame taken)
  · exact .same s

theorem ownSetTime_obeys (x : Counters) (h : s.changesOnly offDials u) : ObeysDials c s (u.ownSetTime x).state := by
  have taken := (Drives.refl s).frame h
  unfold ownSetTime
  dsimp only
  split
  · exact .drives (taken.rest rfl id rfl)
  · exact .drives (taken.stepTime x).settle

theorem ownSetDst_obeys (x : DstRule) (h : s.changesOnly offDials u) : ObeysDials c s (u.ownSetDst x).state :=
  .drives ((Drives.refl s).frame h).modTk.evaluateDst.settle

theorem ownSetTick_obeys (p : Port) (x : Tap) (h : s.changesOnly offDials u) : ObeysDials c s (u.ownSetTick p x).state :=
  .drives (((Drives.refl s).frame h).rest rfl id rfl)

theorem changeDial_drives (s : State) (n : Train) (f : Dial → Dial) : (s.modDial n f).Drives (s.changeDial n f) :=
  .ite (.refl _) ((Drives.refl _).frame (raiseAll_within (.refl _ _) (by decide) .dial))

theorem ownSetDialConfig_obeys (x : Train × DialConfig) (h : s.changesOnly offDials u) :
    ObeysDials c s (u.ownSetDialConfig x).state := by
  have taken : ReadiesDials c s u := .of_dials (h .dials (by decide))
  unfold ownSetDialConfig
  dsimp only
  split
  · split
    · exact .frame h
    · exact .of_drives (taken.modDial x.1) (changeDial_drives ..)
  · exact .of_drives (taken.modDial x.1) ((Drives.refl _).evaluateDial x.1)

theorem ownSetDial_obeys {p : Port} {l : List Byte} (x : Train × Nat × Option Polarity) (h : s.changesOnly offDials u) :
    ObeysDials (.setDial p l) s (u.ownSetDial x).state := by
  have taken : ReadiesDials (.setDial p l) s u := .of_dials (h .dials (by decide))
  obtain ⟨n, place, polarity⟩ := x
  have set := taken.modDial n (position := .inr ⟨p, l, rfl⟩) (f := fun d =>
    { d with position := place, lastPolarity := polarity.getD d.lastPolarity, uncertain := false })
  unfold ownSetDial
  dsimp only
  split
  · exact .frame h
  split
  · exact .frame h
  rw [ok_state]
  split
  · exact .then_frame (.of_drives (set.modDial n) ((Drives.refl _).evaluateDial n))
      (raiseAll_within (.refl _ _) (by decide) .dial)
  · exact .of_drives set (.refl _)

theorem ownDialStop_obeys (n : Train) (h : s.changesOnly offDials u) : ObeysDials c s (u.ownDialStop n).state := by
  have taken : ReadiesDials c s u := .of_dials (h .dials (by decide))
  unfold ownDialStop
  split
  · exact .frame h
  · exact .ite (.of_drives (taken.modDial n) (changeDial_drives ..)) (.frame h)

theorem ownDialRelease_obeys (n : Train) (h : s.changesOnly offDials u) : ObeysDials c s (u.ownDialRelease n).state := by
  have taken : ReadiesDials c s u := .of_dials (h .dials (by decide))
  unfold ownDialRelease
  split
  · exact .frame h
  split
  · exact .frame h
  rw [ok_state]
  split
  · exact .then_frame (.of_drives (taken.modDial n) ((Drives.refl _).evaluateDial n))
      (raiseAll_within (.refl _ _) (by decide) .dial)
  · exact .of_drives taken ((Drives.refl _).evaluateDial n)

end Sys2Proof.Machine.State
end

section
/-! PROOFS. That every command but a cold start obeys the law of the dial trains, and so the law itself (O26). -/

namespace Sys2Proof.Machine

namespace State

open Block (offDials)

/-- A step that other blocks take, and the signals that it leaves, are of no account to the trains. -/
theorem ObeysDials.settled {c : Instr} {s t : State} (h : s.changesOnly offDials t) : ObeysDials c s t.settle :=
  .frame (settle_within h (by decide))

/-- Every command but a cold start obeys the law of the dial trains. -/
theorem exec_obeysDials (c : Instr) (s : State) (hc : c ≠ .coldStart) (law : s.dialLaw) :
    ∃ t, exec c s = .next t ∧ ObeysDials c s t :=
  have self : s.changesOnly offDials s := .refl _ s
  match c with
  | .coldStart => absurd rfl hc
  | .warmStart => ⟨_, rfl, s.warmStarts_obeys⟩
  | .resetInput => ⟨_, rfl, s.resets_obeys⟩
  | .mainsFail => ⟨_, rfl, .ite (.of_cut s.dropVolatile_cut) (.same s)⟩
  | .lossOfMainSupply => ⟨_, rfl, .of_cut s.dropVolatile_cut⟩
  | .tickEnd => ⟨_, rfl, s.tick_obeys⟩
  | .sensorScan matrix lockout mains => s.exec_sensorScan_obeys matrix lockout mains
  | .clavierScan .. => ⟨_, rfl, .ite (.settled (scanClavier_within self (by decide) _ _)) (.same s)⟩
  | .parkTimerExpiry _ => ⟨_, rfl, by split; exacts [.settled (parkTimerExpires_within self (by decide) _), .same s]⟩
  | .dialCatchUp _ => ⟨_, rfl, by split; exacts [.drives ((Drives.refl s).dialCatchesUp law _), .same s]⟩
  | .impulseEnd _ => ⟨_, rfl, by split; exacts [s.dialImpulseEnds_obeys _, .same s]⟩
  | .entryDue => ⟨_, rfl, .settled (arbitrate_within self (by decide))⟩
  | .waitRecoveryMet => ⟨_, rfl, .settled (arbitrate_within self (by decide))⟩
  | .pulseEnd _ => ⟨_, rfl, by split; exacts [.settled (pulseEnds_within self (by decide) _), .same s]⟩
  | .lateDrop => ⟨_, rfl, .frame (lateDrops_within self (by decide))⟩
  | .claimLapse _ => ⟨_, rfl, by split; exacts [.settled (claimLapses_within self (by decide) _), .same s]⟩
  | .noteHandOver _ => ⟨_, rfl, .settled (handOverNext_within self (by decide) _)⟩
  | .deferTest => ⟨_, rfl, .settled (deferTests_within self (by decide))⟩
  | .deferExpired => ⟨_, rfl, .frame (deferExpires_within self (by decide))⟩
  | .tollInstant _ => ⟨_, rfl, .settled (tollStrikes_within self (by decide) _)⟩
  | .startEnd _ => ⟨_, rfl, by split; exacts [.settled (startEnds_within self (by decide) _), .same s]⟩
  | .pulseDeadline _ => ⟨_, rfl, by split; exacts [.settled (pulseMissed_within self (by decide) _), .same s]⟩
  | .durationEnd _ => ⟨_, rfl, by split; exacts [.settled (durationEnds_within self (by decide) _), .same s]⟩
  | .quietReached _ => ⟨_, rfl, by split; exacts [.settled (quietReached_within self (by decide) _), .same s]⟩
  | .stopDeadline _ => ⟨_, rfl, by split; exacts [.settled (stopTimesOut_within self (by decide) _), .same s]⟩
  | .settleEnd _ => ⟨_, rfl, by split; exacts [.settled (settleEnds_within self (by decide) _), .same s]⟩
  | .staggerEnd => ⟨_, rfl, .settled (staggerEnds_within self (by decide))⟩
  | .slotEnd => ⟨_, rfl, .settled (slotEnds_within self (by decide))⟩
  | .rampMove _ => ⟨_, rfl, by split; exacts [.settled (rampMoves_within self (by decide) _), .same s]⟩
  | .loadWaitExpiry _ => ⟨_, rfl, by split; exacts [.settled (loadWaitExpires_within self (by decide) _), .same s]⟩
  | .storeOpEnd _ => ⟨_, rfl, .frame (storeOpEnds_within self (by decide) _)⟩
  | .commitEnd _ => ⟨_, rfl, .frame (commitEnds_within self (by decide) _)⟩
  | .stagingAbandon => ⟨_, rfl, .frame (abandons_within self (by decide))⟩
  | .byteReceived .. => ⟨_, rfl, .ite (.frame (byteArrives_within self (by decide) _ _ _)) (.same s)⟩
  | .gapDiscard _ => ⟨_, rfl, .frame (gap_within self (by decide) _)⟩
  | .responseSent _ => ⟨_, rfl, s.responseGone_obeys _⟩
  | .unknownRequest .. => ⟨_, rfl, .ite (.frame (s.request_offDials _ _ _ (.refl _))) (.same s)⟩
  | .requestPart .. => ⟨_, rfl, .ite (.frame (s.part_offDials _ _ _ fun _ => .refl _)) (.same s)⟩
  | .readPage .. => ⟨_, rfl, .ite (.frame (s.read_offDials _ _ _ _)) (.same s)⟩
  | .readNotices .. => ⟨_, rfl, .frame (s.request_offDials _ _ _ fun u => u.ownReadNotices_offDials _)⟩
  | .setMask .. => ⟨_, rfl, .frame (s.requestParsed_offDials _ _ _ _ fun x u => u.ownSetMask_offDials _ x)⟩
  | .setRights .. => ⟨_, rfl, .frame (s.requestParsed_offDials _ _ _ _ fun x u => u.ownSetRights_offDials x)⟩
  | .lock .. => ⟨_, rfl, .frame (s.requestParsed_offDials _ _ _ _ fun x u => u.ownLock_offDials x)⟩
  | .restart .. => ⟨_, rfl, .frame (s.request_offDials _ _ _ fun u => u.ownRestart_offDials _)⟩
  | .setTime .. => ⟨_, rfl, s.request_obeys _ _ _ _ fun x _ => ownSetTime_obeys x⟩
  | .setDst .. => ⟨_, rfl, s.request_obeys _ _ _ _ fun x _ => ownSetDst_obeys x⟩
  | .setTick .. => ⟨_, rfl, s.request_obeys _ _ _ _ fun x _ => ownSetTick_obeys _ x⟩
  | .setYearRef .. => ⟨_, rfl, .frame (s.requestParsed_offDials _ _ _ _ fun x u => u.ownSetYearRef_offDials x)⟩
  | .clearYearRef .. => ⟨_, rfl, .frame (s.requestParsed_offDials _ _ _ _ fun x u => u.ownClearYearRef_offDials x)⟩
  | .setEntry .. => ⟨_, rfl, .frame (s.requestParsed_offDials _ _ _ _ fun x u => u.ownSetEntry_offDials x)⟩
  | .setProgram .. => ⟨_, rfl, .frame (s.requestParsed_offDials _ _ _ _ fun x u => u.ownSetProgram_offDials x)⟩
  | .setDialConfig .. => ⟨_, rfl, s.request_obeys _ _ _ _ fun x _ => ownSetDialConfig_obeys x⟩
  | .setDial .. => ⟨_, rfl, s.request_obeys _ _ _ _ fun x _ => ownSetDial_obeys x⟩
  | .dialStop .. => ⟨_, rfl, s.request_obeys _ _ _ _ fun x _ => ownDialStop_obeys x⟩
  | .dialRelease .. => ⟨_, rfl, s.request_obeys _ _ _ _ fun x _ => ownDialRelease_obeys x⟩
  | .setBell .. => ⟨_, rfl, .frame (s.requestParsed_offDials _ _ _ _ fun x u => u.ownSetBell_offDials x)⟩
  | .clearFaultHammer .. => ⟨_, rfl, .ite (.same s) (.frame (s.request_offDials _ _ _ fun u =>
      u.ownClearFault_offDials _ _ _ _ fun b v => v.clearHammer_offDials b))⟩
  | .clearFaultSwing .. => ⟨_, rfl, .ite (.frame (s.request_offDials _ _ _ fun u =>
      u.ownClearFault_offDials _ _ _ _ fun b v => v.clearSwing_offDials b)) (.same s)⟩
  | .claim .. => ⟨_, rfl, .frame (s.requestParsed_offDials _ _ _ _ fun x u => u.ownClaim_offDials _ x)⟩
  | .renew .. => ⟨_, rfl, .frame (s.requestParsed_offDials _ _ _ _ fun x u => u.ownRenew_offDials _ x)⟩
  | .release .. => ⟨_, rfl, .frame (s.requestParsed_offDials _ _ _ _ fun x u => u.ownRelease_offDials _ x)⟩
  | .setClaimHold .. => ⟨_, rfl, .frame (s.requestParsed_offDials _ _ _ _ fun x u => u.ownSetClaimHold_offDials _ x)⟩
  | .setStrikePriority .. => ⟨_, rfl, .frame (s.requestParsed_offDials _ _ _ _ fun x u => u.ownSetPriority_offDials x)⟩
  | .tunePlay .. => ⟨_, rfl, .frame (s.requestParsed_offDials _ _ _ _ fun x u => u.ownTunePlay_offDials _ x)⟩
  | .tuneStop .. => ⟨_, rfl, .frame (s.request_offDials _ _ _ fun u => u.ownTuneStop_offDials)⟩
  | .tollStart .. => ⟨_, rfl, .frame (s.requestParsed_offDials _ _ _ _ fun x u => u.ownTollStart_offDials _ x)⟩
  | .tollStop .. => ⟨_, rfl, .frame (s.request_offDials _ _ _ fun u => u.ownTollStop_offDials _)⟩
  | .strike .. => ⟨_, rfl, .frame (s.requestParsed_offDials _ _ _ _ fun x u => u.ownStrike_offDials _ x)⟩
  | .setClavier .. => ⟨_, rfl, .frame (s.request_offDials _ _ _ fun u => u.ownSetClavier_offDials _ _)⟩
  | .readKeys .. => ⟨_, rfl, .frame (s.request_offDials _ _ _ fun u => u.ownReadKeys_offDials)⟩
  | .swingStart .. => ⟨_, rfl, .frame (s.requestParsed_offDials _ _ _ _ fun x u => u.ownSwingStart_offDials _ x)⟩
  | .swingStop .. => ⟨_, rfl, .frame (s.requestParsed_offDials _ _ _ _ fun x u => u.ownSwingStop_offDials x)⟩
  | .setCircuit .. => ⟨_, rfl, .frame (s.requestParsed_offDials _ _ _ _ fun x u => u.ownSetCircuit_offDials x)⟩
  | .setPlan .. => ⟨_, rfl, .ite (.same s) (.frame (s.part_offDials _ _ _ fun _ =>
      parsed_offDials fun x u => u.ownSetPlan_offDials x))⟩
  | .setLevel .. => ⟨_, rfl, .ite (.same s) (.frame (s.requestParsed_offDials _ _ _ _ fun x u => u.ownSetLevel_offDials _ x))⟩
  | .setLevelRelease .. => ⟨_, rfl, .ite (.frame (s.requestParsed_offDials _ _ _ _ fun x u => u.ownSetLevel_offDials _ x))
      (.same s)⟩
  | .setSolar .. => ⟨_, rfl, .ite (.same s) (.frame (s.part_offDials _ _ _ fun _ =>
      parsed_offDials fun x u => u.ownSetSolar_offDials x))⟩
  | .setLoad .. => ⟨_, rfl, .frame (s.requestParsed_offDials _ _ _ _ fun x u => u.ownSetLoad_offDials x)⟩
  | .tuneBegin .. => ⟨_, rfl, .frame (s.requestParsed_offDials _ _ _ _ fun x u => u.ownTuneBegin_offDials _ x)⟩
  | .tuneWrite .. => ⟨_, rfl, .frame (s.request_offDials _ _ _ fun u => u.ownTuneWrite_offDials _ _)⟩
  | .tuneCommit .. => ⟨_, rfl, .frame (s.requestParsed_offDials _ _ _ _ fun x u => u.ownTuneCommit_offDials _ x)⟩
  | .tuneInfo .. => ⟨_, rfl, .frame (s.requestParsed_offDials _ _ _ _ fun x u => u.ownTuneInfo_offDials _ x)⟩
  | .getSensors .. => ⟨_, rfl, .frame (read_within self (by decide) _ _ _ _ fun u h => by
      split; exacts [h.trans u.takeLatches_offDials, h])⟩
  | .getLink .. | .getDone .. | .getRights .. | .getTime .. | .getDst .. | .getYearRef ..
  | .getEntry .. | .getEntryMap .. | .getProgram .. | .getDay .. | .calendarQuery .. | .getDials ..
  | .getBellConfig .. | .getBells .. | .getClaims .. | .getStrikes .. | .getCounters .. | .getPlayers ..
  | .getClavier .. | .getSwing .. | .getLights .. | .getLoad .. | .getSolar .. | .getPlan ..
  | .getStore .. =>
    ⟨_, rfl, .frame (s.read_offDials _ _ _ _)⟩

end State

/-- Settles O26: whatever a command first makes of the trains, it then only evaluates them, and an evaluation begins an impulse
at most. -/
theorem lawOfTheDialTrains : Obligations.LawOfTheDialTrains := by
  intro c s t n h hc law
  obtain ⟨u, e, obeys⟩ := State.exec_obeysDials c s hc law
  rw [e] at h
  cases h
  exact obeys n

end Sys2Proof.Machine
end

section
/-! PROOFS. What a request or a command makes of one train's record: the relation `TakesDial` of a state, a train, its record
after and the state after, with a rule for a change of the record, an evaluation and the answer (R35, R45). -/

namespace Sys2Proof.Machine

namespace State

/-- From `s` to `t` train `n` takes the record `d`, with DIAL where its state changes; the other trains and all else but the
link controller stay. -/
structure TakesDial (s : State) (n : Train) (d : Dial) (t : State) : Prop where
  only : s.changesOnly [.dials, .link] t
  here : t.dial n = d
  others : ∀ k, k ≠ n → t.dial k = s.dial k
  notice : d.state ≠ (s.dial n).state → t.noticedAll .dial

/-- Only a train's own record decides what a change makes of it. -/
theorem modDial_congr {s : State} {n : Train} {f g : Dial → Dial} (h : f (s.dial n) = g (s.dial n)) :
    s.modDial n f = s.modDial n g :=
  congrArg (fun d => s.modDials (·.set n d)) h

/-- Two changes of one train's record are one. -/
theorem modDial_modDial (s : State) (n : Train) (f g : Dial → Dial) :
    (s.modDial n f).modDial n g = s.modDial n fun d => g (f d) := by
  have e : (s.dials.modify n f).modify n g = s.dials.modify n fun d => g (f d) :=
    Table.ext_get fun k => by
      simp only [Table.get_modify]
      split <;> simp only [if_true]
  exact congrArg (fun dials => { s with dials := dials }) e

/-- A change that leaves the train's state is silent (R45). -/
theorem changeDial_quiet {s : State} {n : Train} {f : Dial → Dial} (h : (f (s.dial n)).state = (s.dial n).state) :
    s.changeDial n f = s.modDial n f := by
  have same : ((s.modDial n f).dial n).state = (s.dial n).state := by rw [dial_modDial, if_pos rfl, h]
  exact if_pos same

/-- A change that changes the train's state raises DIAL (R45). -/
theorem changeDial_loud {s : State} {n : Train} {f : Dial → Dial} (h : (f (s.dial n)).state ≠ (s.dial n).state) :
    s.changeDial n f = (s.modDial n f).raiseAll .dial := by
  have other : ¬((s.modDial n f).dial n).state = (s.dial n).state := by rw [dial_modDial, if_pos rfl]; exact h
  exact if_neg other

namespace TakesDial

variable {s t : State} {n : Train} {d : Dial}

/-- DIAL may be raised whether or not the state changes. -/
theorem raised (h : s.TakesDial n d t) : s.TakesDial n d (t.raiseAll .dial) where
  only := raiseAll_within h.only (by decide) .dial
  here := h.here
  others := h.others
  notice _ := noticed_raiseAll t .dial

theorem changeDial (s : State) (n : Train) (f : Dial → Dial) : s.TakesDial n (f (s.dial n)) (s.changeDial n f) := by
  have only := changeDial_within (changesOnly.refl _ s) (List.Subset.refl _) n f
  by_cases same : (f (s.dial n)).state = (s.dial n).state
  · rw [changeDial_quiet same] at only ⊢
    exact ⟨only, by rw [dial_modDial, if_pos rfl], fun k other => by rw [dial_modDial, if_neg other], absurd same⟩
  · rw [changeDial_loud same] at only ⊢
    exact ⟨only, (dial_modDial n n f s).trans (if_pos rfl), fun k other => (dial_modDial n k f s).trans (if_neg other),
      fun _ => noticed_raiseAll _ .dial⟩

theorem evaluateDial (s : State) (n : Train) :
    s.TakesDial n ((s.dial n).evaluate s.localTime s.tk.timeValid s.now) (s.evaluateDial n) :=
  changeDial s n fun d => d.evaluate s.localTime s.tk.timeValid s.now

/-- The record is changed before, its state is not. -/
theorem after_modDial {f : Dial → Dial} (same : (f (s.dial n)).state = (s.dial n).state)
    (h : (s.modDial n f).TakesDial n d t) : s.TakesDial n d t where
  only := (modDial_within (changesOnly.refl _ s) (by decide) n f).trans h.only
  here := h.here
  others k other := by rw [h.others k other, dial_modDial, if_neg other]
  notice changed := h.notice (by rwa [dial_modDial, if_pos rfl, same])

/-- A record is changed and then evaluated. -/
theorem modDial_evaluateDial {f : Dial → Dial} (same : (f (s.dial n)).state = (s.dial n).state) :
    s.TakesDial n ((f (s.dial n)).evaluate s.localTime s.tk.timeValid s.now) ((s.modDial n f).evaluateDial n) := by
  have evaluated := evaluateDial (s.modDial n f) n
  rw [dial_modDial, if_pos rfl] at evaluated
  exact after_modDial same evaluated

/-- What the owner of a taken request makes of the trains stands once the request is answered. -/
theorem answered {p : Port} (h : (s.takeFrame p false false).TakesDial n d t) (code : Byte) (l : List Byte) :
    s.TakesDial n d (respond p code (t.ok l)) where
  only := respond_within ((takeFrame_within (changesOnly.refl _ s) (by decide) p false false).trans h.only) (by decide) p code
  here := h.here
  others := h.others
  notice changed := noticedAll_respond (a := t.ok l) (h.notice changed) p code

end TakesDial

/-- A refusal by the owner of a taken request changes nothing but the port. -/
theorem respond_refuse (s : State) (p : Port) (code : Byte) (x : Status) :
    respond p code ((s.takeFrame p false false).refuse x) = s.answers p code x [] :=
  respond_takeFrame s p code x []

/-- An answer after a silent change of a train's record. -/
theorem respond_modDial (s : State) (p : Port) (code : Byte) (n : Train) (f : Dial → Dial) (l : List Byte) :
    respond p code (((s.takeFrame p false false).modDial n f).ok l) = (s.modDial n f).answers p code .ok l :=
  respond_takeFrame (s.modDial n f) p code .ok l

end State

end Sys2Proof.Machine
end

section
/-! PROOFS. DIAL-STOP and DIAL-RELEASE (R43, R44). -/

namespace Sys2Proof.Machine

/-- The record of a train that DIAL-STOP stops (R43). -/
def Dial.halted (d : Dial) : Dial :=
  { d with mode := .stopped, state := .stopped, lag := none, demanded := false, catchUpDue := false }

/-- The record of a train that DIAL-RELEASE releases, before its evaluation (R44). -/
def Dial.released (d : Dial) : Dial := { d with mode := .running }

/-- A running train is released already. -/
theorem Dial.released_of_running {d : Dial} (h : d.mode = .running) : d.released = d := by
  unfold Dial.released
  rw [← h]

namespace State

/-! ## A request of one train number -/

/-- A request of one byte and no section can be refused for want of its right alone. -/
theorem check_byte {s : State} {p : Port} {code : Byte} {r : Right} (row : requestRow? code.toNat = some (.of 1 (some r)))
    (b : Byte) : s.check p code [b] = if s.holds p r then none else some .noRight := by
  unfold check
  rw [row]
  cases holds : s.holds p r <;> simp [RequestRow.of, holds]

/-- A train number out of range does not read. -/
theorem readAll_train_none {b : Byte} (h : b.toNat < 1 ∨ 4 < b.toNat) : readAll (rFin1 4) [b] = none := by
  have out : ¬(1 ≤ b.toNat ∧ b.toNat ≤ 4) := by omega
  have e : rFin1 4 [b] =
      (if h : 1 ≤ b.toNat ∧ b.toNat ≤ 4 then pure ⟨b.toNat - 1, by omega⟩ else failure : Rd Train) [] := rfl
  unfold readAll
  rw [e, dif_neg out]
  rfl

/-- A train number in range reads as the train. -/
theorem readAll_train {b : Byte} {n : Train} (h : b.toNat = n.val + 1) : readAll (rFin1 4) [b] = some n := by
  have e : [b] = le 1 (n.val + 1) := by
    rw [← h]
    simp [le]
  rw [e]
  exact readAll_of_readsBack (ReadsBack.fin1 n)

section

variable {s : State} {p : Port} {code : Byte} {r : Right} {b : Byte} {owner : Train → State → Answer}

theorem train_noRight (row : requestRow? code.toNat = some (.of 1 (some r))) (taken : s.takes p code [b] = true)
    (without : s.holds p r = false) : s.request p code [b] (parsed (rFin1 4) [b] owner) = s.answers p code .noRight [] :=
  request_refused taken (by rw [check_byte row, without]; rfl) _

theorem train_badValue (accepted : s.accepts p code [b]) (out : b.toNat < 1 ∨ 4 < b.toNat) :
    s.request p code [b] (parsed (rFin1 4) [b] owner) = s.answers p code .badValue [] := by
  rw [request_accepted accepted, parsed, readAll_train_none out]
  exact respond_refuse s p code .badValue

end

/-! ## The owners -/

section

variable {s : State} {n : Train}

theorem ownDialStop_unfitted (h : (s.dial n).fitted = false) : ownDialStop n s = s.refuse .unavailable := by
  simp [ownDialStop, h]

theorem ownDialStop_idle (fitted : (s.dial n).fitted = true) (h : (s.dial n).mode ≠ .running) :
    ownDialStop n s = s.ok (wName (s.dial n).state.ctorIdx ++ le 2 (s.dial n).position) := by
  simp [ownDialStop, fitted, h]

theorem ownDialStop_running (fitted : (s.dial n).fitted = true) (h : (s.dial n).mode = .running) :
    ownDialStop n s = (s.changeDial n Dial.halted).ok (wName DialState.stopped.ctorIdx ++ le 2 (s.dial n).position) := by
  have after := (TakesDial.changeDial s n Dial.halted).here
  calc ownDialStop n s
    _ = (s.changeDial n Dial.halted).ok (wName ((s.changeDial n Dial.halted).dial n).state.ctorIdx ++
          le 2 ((s.changeDial n Dial.halted).dial n).position) := by
        simp only [ownDialStop, fitted, h, Bool.not_true, Bool.false_eq_true, if_false, if_true]
        rfl
    _ = _ := by rw [after]; rfl

theorem ownDialRelease_unfitted (h : (s.dial n).fitted = false) : ownDialRelease n s = s.refuse .unavailable := by
  simp [ownDialRelease, h]

theorem ownDialRelease_unset (fitted : (s.dial n).fitted = true) (h : (s.dial n).mode = .unset) :
    ownDialRelease n s = s.refuse .notSet := by
  simp [ownDialRelease, fitted, h]

/-- The release of a train that is stopped or runs: its evaluation in the mode RUNNING, with DIAL where it was stopped. -/
theorem ownDialRelease_evaluates (fitted : (s.dial n).fitted = true) (set : (s.dial n).mode ≠ .unset) :
    ∃ t, ownDialRelease n s = t.ok (wName (t.dial n).state.ctorIdx ++ wLag (t.dial n)) ∧
      s.TakesDial n ((s.dial n).released.evaluate s.localTime s.tk.timeValid s.now) t ∧
      ((s.dial n).mode = .stopped → t.noticedAll .dial) := by
  by_cases stopped : (s.dial n).mode = .stopped
  · refine ⟨((s.modDial n Dial.released).evaluateDial n).raiseAll .dial, ?_,
      (TakesDial.modDial_evaluateDial (f := Dial.released) rfl).raised, fun _ => noticed_raiseAll _ .dial⟩
    simp only [ownDialRelease, fitted, stopped, Bool.not_true, Bool.false_eq_true, reduceCtorEq, if_false, if_true]
    rfl
  · have running : (s.dial n).mode = .running := by
      cases mode : (s.dial n).mode <;> simp_all
    refine ⟨s.evaluateDial n, ?_, ?_, fun h => absurd h stopped⟩
    · simp only [ownDialRelease, fitted, set, stopped, Bool.not_true, Bool.false_eq_true, if_false]
    · rw [Dial.released_of_running running]
      exact TakesDial.evaluateDial s n

end

/-! ## The requests -/

/-- DIAL-STOP as it is taken (R43). -/
theorem exec_dialStop {s : State} {p : Port} {b : Byte} {n : Train} (accepted : s.accepts p 0x2A [b])
    (number : b.toNat = n.val + 1) :
    exec (.dialStop p [b]) s = .next (respond p 0x2A (ownDialStop n (s.takeFrame p false false))) :=
  congrArg Host.Outcome.next (parsed_accepted accepted (readAll_train number) ownDialStop)

/-- DIAL-RELEASE as it is taken (R44). -/
theorem exec_dialRelease {s : State} {p : Port} {b : Byte} {n : Train} (accepted : s.accepts p 0x2B [b])
    (number : b.toNat = n.val + 1) :
    exec (.dialRelease p [b]) s = .next (respond p 0x2B (ownDialRelease n (s.takeFrame p false false))) :=
  congrArg Host.Outcome.next (parsed_accepted accepted (readAll_train number) ownDialRelease)

end State

open State in
/-- Settles O25: a stop is one change of the train's record, a release an evaluation in the mode RUNNING. -/
theorem dialsAreStoppedAndReleased : Obligations.DialsAreStoppedAndReleased := by
  refine ⟨fun p b s taken => ⟨fun without => congrArg Host.Outcome.next (train_noRight rfl taken without), fun held => ?_⟩,
    fun p b s taken => ⟨fun without => congrArg Host.Outcome.next (train_noRight rfl taken without), fun held => ?_⟩⟩
  · have accepted : s.accepts p 0x2A [b] := ⟨taken, (check_byte rfl b).trans (if_pos held)⟩
    refine ⟨fun out => congrArg Host.Outcome.next (train_badValue accepted out), fun n number => ?_⟩
    have runs := exec_dialStop accepted number
    refine ⟨fun unfitted => ?_, fun fitted idle => ?_, fun fitted running => ?_⟩
    · rw [runs, ownDialStop_unfitted (s := s.takeFrame p false false) unfitted, respond_refuse]
    · rw [runs, ownDialStop_idle (s := s.takeFrame p false false) fitted idle]
      exact congrArg Host.Outcome.next (respond_takeFrame ..)
    · rw [ownDialStop_running (s := s.takeFrame p false false) fitted running] at runs
      have takes := (TakesDial.changeDial (s.takeFrame p false false) n Dial.halted).answered 0x2A
        (wName DialState.stopped.ctorIdx ++ le 2 (s.dial n).position)
      exact ⟨_, runs, takes.only, takes.here, takes.others, fun moved => takes.notice moved.symm, responds_respond ..⟩
  · have accepted : s.accepts p 0x2B [b] := ⟨taken, (check_byte rfl b).trans (if_pos held)⟩
    refine ⟨fun out => congrArg Host.Outcome.next (train_badValue accepted out), fun n number => ?_⟩
    have runs := exec_dialRelease accepted number
    refine ⟨fun unfitted => ?_, fun fitted unset => ?_, fun fitted set => ?_⟩
    · rw [runs, ownDialRelease_unfitted (s := s.takeFrame p false false) unfitted, respond_refuse]
    · rw [runs, ownDialRelease_unset (s := s.takeFrame p false false) fitted unset, respond_refuse]
    · obtain ⟨u, released, evaluates, notice⟩ := ownDialRelease_evaluates (s := s.takeFrame p false false) fitted set
      rw [released] at runs
      have takes := evaluates.answered 0x2B (wName (u.dial n).state.ctorIdx ++ wLag (u.dial n))
      refine ⟨_, runs, takes.only, takes.here, takes.others, fun causes => ?_, responds_respond ..⟩
      rcases causes with stopped | moved
      · exact noticedAll_respond (a := u.ok _) (notice stopped) p 0x2B
      · exact takes.notice (takes.here ▸ moved)

end Sys2Proof.Machine
end

section
/-! PROOFS. SET-DIAL, SET-DIAL-CONFIG, the catch-up instant and the end of an impulse (R33, R35 to R38, R42). -/

namespace Sys2Proof.Machine

namespace Dial

/-- The record of a train whose impulse begins (R37). -/
def impelled (d : Dial) (now : Nat) : Dial :=
  { d with
    demanded := false, inFlight := true, lastStart := some now, catchUp := now + d.period
    impulse := some { polarity := d.lastPolarity.flip, ends := now + d.width } }

/-- The record of a train whose impulse of polarity `x` has been driven for its width (R38). -/
def moved (d : Dial) (x : Polarity) : Dial :=
  { d with impulse := none, position := (d.position + 1) % 1440, lastPolarity := x, inFlight := false }

/-- The record of a train whose hands have been set by hand (R42). -/
def handSet (d : Dial) (position : Nat) (polarity : Option Polarity) : Dial :=
  { d with position := position, lastPolarity := polarity.getD d.lastPolarity, uncertain := false }

/-- The record of a train with another configuration part (R33). -/
def configured (d : Dial) (x : DialConfig) : Dial :=
  { d with fitted := x.fitted, width := x.width, period := x.period, hold := x.hold }

/-- The record of a train that is put in UNSET (R33). -/
def unsetBy (d : Dial) : Dial :=
  { d with
    mode := .unset, state := .unset, uncertain := false, lag := none, demanded := false
    catchUpDue := false }

variable {d : Dial} {now : Nat}

theorem beginImpulse_begins (demanded : d.demanded = true) (reached : d.catchUp ≤ now) (free : d.impulse = none) :
    d.beginImpulse now = d.impelled now :=
  if_pos (by simp [demanded, reached, free])

theorem beginImpulse_early (early : now < d.catchUp) : d.beginImpulse now = d :=
  if_neg (by simp [Nat.not_le.mpr early])

theorem beginImpulse_state (d : Dial) (now : Nat) : (d.beginImpulse now).state = d.state := by
  unfold beginImpulse
  split <;> rfl

theorem beginImpulse_catchUpDue (d : Dial) (now : Nat) : (d.beginImpulse now).catchUpDue = d.catchUpDue := by
  unfold beginImpulse
  split <;> rfl

/-- Before the catch-up instant an evaluation begins nothing (R37). -/
theorem evaluate_early (early : now < d.catchUp) (t : LocalTime) (valid : Bool) :
    (d.evaluate t valid now).impulse = d.impulse ∧ (d.evaluate t valid now).catchUp = d.catchUp := by
  unfold evaluate
  split
  · exact ⟨rfl, rfl⟩
  · split
    · exact ⟨rfl, rfl⟩
    · rw [beginImpulse_early]
      exacts [⟨rfl, rfl⟩, early]

theorem catchesUp_iff : d.catchesUp now = true ↔ d.state = .catching ∧ (d.catchUpDue = true ∨ d.catchUp ≤ now) := by
  simp [catchesUp]

/-- At the catch-up instant of a CATCHING train an evaluation stays due while it leaves the train CATCHING (R37). -/
theorem evaluate_catchUpDue (running : d.mode = .running) (reached : d.catchesUp now = true) (t : LocalTime) :
    (d.evaluate t true now).catchUpDue = ((d.evaluate t true now).state == .catching) := by
  simp only [evaluate, running, ne_eq, not_true_eq_false, Bool.not_true, Bool.false_eq_true, if_false,
    beginImpulse_catchUpDue, beginImpulse_state, reached, Bool.and_true]

end Dial

namespace State

variable {s : State} {n : Train}

theorem trainOf_val (n : Train) : trainOf? (n.val + 1) = some n := dif_pos ⟨Nat.le_add_left .., n.isLt⟩

/-! ## The catch-up instant and the end of an impulse -/

theorem exec_dialCatchUp (s : State) (n : Train) : exec (.dialCatchUp (n.val + 1)) s = .next (s.dialCatchesUp n) := by
  change execDialCatchUp _ _ = _
  unfold execDialCatchUp
  rw [trainOf_val]

theorem exec_impulseEnd (s : State) (n : Train) : exec (.impulseEnd (n.val + 1)) s = .next (s.dialImpulseEnds n) := by
  change execImpulseEnd _ _ = _
  unfold execImpulseEnd
  rw [trainOf_val]

theorem dialCatchesUp_due (due : (s.dial n).catchesUp s.now = true) :
    s.dialCatchesUp n = s.changeDial n fun d => d.evaluateCatchUp s.localTime s.tk.timeValid s.now :=
  if_pos due

theorem dialCatchesUp_begins (state : (s.dial n).state ≠ .catching) (demanded : (s.dial n).demanded = true)
    (reached : (s.dial n).catchUp ≤ s.now) (free : (s.dial n).impulse = none) :
    s.dialCatchesUp n = s.modDial n fun d => d.impelled s.now :=
  calc s.dialCatchesUp n
    _ = s.modDial n fun d => d.beginImpulse s.now :=
      (if_neg fun due => state (Dial.catchesUp_iff.mp due).1).trans (if_pos ⟨state, reached⟩)
    _ = _ := modDial_congr (Dial.beginImpulse_begins demanded reached free)

theorem dialCatchesUp_early (early : s.now < (s.dial n).catchUp) (quiet : (s.dial n).catchesUp s.now ≠ true) :
    s.dialCatchesUp n = s :=
  (if_neg quiet).trans (if_neg fun ⟨_, reached⟩ => Nat.not_le.mpr early reached)

theorem dialImpulseEnds_moves {i : Impulse} (flight : (s.dial n).impulse = some i) (driven : i.ends ≤ s.now) :
    s.dialImpulseEnds n = s.modDial n fun d => d.moved i.polarity :=
  modDial_congr (by simp only [flight, driven, if_true]; rfl)

theorem dialImpulseEnds_early {i : Impulse} (flight : (s.dial n).impulse = some i) (early : s.now < i.ends) :
    s.dialImpulseEnds n = s :=
  modDial_of_fixed (by simp only [flight, Nat.not_le.mpr early, if_false])

/-! ## The owners -/

section

variable {x : DialConfig} {position : Nat} {polarity : Option Polarity}

theorem ownSetDial_unfitted (h : (s.dial n).fitted = false) :
    ownSetDial (n, position, polarity) s = s.refuse .unavailable := by
  simp [ownSetDial, h]

theorem ownSetDial_busy (fitted : (s.dial n).fitted = true)
    (busy : (s.dial n).mode = .running ∨ (s.dial n).impulse.isSome = true) :
    ownSetDial (n, position, polarity) s = s.refuse .busy := by
  simp only [ownSetDial, fitted, busy, Bool.not_true, Bool.false_eq_true, if_false, if_true]

theorem ownSetDial_stopped (fitted : (s.dial n).fitted = true) (stopped : (s.dial n).mode = .stopped)
    (free : (s.dial n).impulse = none) :
    ownSetDial (n, position, polarity) s =
      (s.modDial n fun d => d.handSet position polarity).ok (wName (s.dial n).state.ctorIdx) := by
  have here := (dial_modDial n n (fun d => d.handSet position polarity) s).trans (if_pos rfl)
  calc ownSetDial (n, position, polarity) s
    _ = (s.modDial n fun d => d.handSet position polarity).ok
          (wName ((s.modDial n fun d => d.handSet position polarity).dial n).state.ctorIdx) := by
        simp only [ownSetDial, fitted, stopped, free, Bool.not_true, Bool.false_eq_true, reduceCtorEq, or_self, if_false,
          Option.isSome_none]
        rfl
    _ = _ := by rw [here]; rfl

/-- SET-DIAL of a train in UNSET: its evaluation in the mode RUNNING, with DIAL. -/
theorem ownSetDial_unset (fitted : (s.dial n).fitted = true) (unset : (s.dial n).mode = .unset)
    (free : (s.dial n).impulse = none) :
    ∃ t, ownSetDial (n, position, polarity) s = t.ok (wName (t.dial n).state.ctorIdx) ∧
      s.TakesDial n (((s.dial n).handSet position polarity).released.evaluate s.localTime s.tk.timeValid s.now) t ∧
      t.noticedAll .dial := by
  refine ⟨(((s.modDial n fun d => d.handSet position polarity).modDial n Dial.released).evaluateDial n).raiseAll .dial, ?_,
    ?_, noticed_raiseAll _ .dial⟩
  · simp only [ownSetDial, fitted, unset, free, Bool.not_true, Bool.false_eq_true, reduceCtorEq, or_self, if_false, if_true,
      Option.isSome_none]
    rfl
  · rw [modDial_modDial]
    exact (TakesDial.modDial_evaluateDial (f := fun d => (d.handSet position polarity).released) rfl).raised

theorem ownSetDialConfig_busy (changes : x.fitted ≠ (s.dial n).fitted) (busy : (s.dial n).impulse.isSome = true) :
    ownSetDialConfig (n, x) s = s.refuse .busy := by
  simp only [ownSetDialConfig, changes, busy, ne_eq, not_false_eq_true, if_true]

/-- The record of a train after SET-DIAL-CONFIG: evaluated, or put in UNSET by a change of the fitted flag (R33). -/
def reconfigured (s : State) (n : Train) (x : DialConfig) : Dial :=
  if x.fitted = (s.dial n).fitted then ((s.dial n).configured x).evaluate s.localTime s.tk.timeValid s.now
  else ((s.dial n).configured x).unsetBy

/-- SET-DIAL-CONFIG that no impulse in flight keeps from the fitted flag. -/
theorem ownSetDialConfig_configures (free : x.fitted = (s.dial n).fitted ∨ (s.dial n).impulse = none) :
    ∃ t, ownSetDialConfig (n, x) s = t.ok [] ∧ s.TakesDial n (s.reconfigured n x) t ∧
      ((s.reconfigured n x).state = (s.dial n).state → t = s.modDial n fun _ => s.reconfigured n x) := by
  by_cases same : x.fitted = (s.dial n).fitted
  · have after : s.reconfigured n x = ((s.dial n).configured x).evaluate s.localTime s.tk.timeValid s.now := if_pos same
    rw [after]
    refine ⟨(s.modDial n fun d => d.configured x).evaluateDial n, ?_,
      TakesDial.modDial_evaluateDial (f := fun d => d.configured x) rfl, fun quiet => ?_⟩
    · exact if_neg (not_not.mpr same)
    · have still : (((s.modDial n fun d => d.configured x).dial n).evaluate s.localTime s.tk.timeValid s.now).state =
          ((s.modDial n fun d => d.configured x).dial n).state := by rwa [dial_modDial, if_pos rfl]
      rw [evaluateDial]
      refine (changeDial_quiet still).trans ?_
      rw [modDial_modDial]
      exact modDial_congr rfl
  · have after : s.reconfigured n x = ((s.dial n).configured x).unsetBy := if_neg same
    have none : (s.dial n).impulse = none := free.resolve_left same
    rw [after]
    refine ⟨s.changeDial n fun d => (d.configured x).unsetBy, ?_, TakesDial.changeDial s n fun d => (d.configured x).unsetBy,
      fun quiet => (changeDial_quiet quiet).trans (modDial_congr rfl)⟩
    simp only [ownSetDialConfig, same, none, ne_eq, not_false_eq_true, if_true, Option.isSome_none, Bool.false_eq_true,
      if_false]
    rfl

end

/-! ## The requests -/

/-- SET-DIAL as it is taken (R42). -/
theorem exec_setDial {p : Port} {l : List Byte} {x : Train × Nat × Option Polarity} (accepted : s.accepts p 0x29 l)
    (reads : readAll rSetDial l = some x) :
    exec (.setDial p l) s = .next (respond p 0x29 (ownSetDial x (s.takeFrame p false false))) :=
  congrArg Host.Outcome.next (parsed_accepted accepted reads ownSetDial)

/-- SET-DIAL-CONFIG as it is taken (R33). -/
theorem exec_setDialConfig {p : Port} {l : List Byte} {x : Train × DialConfig} (accepted : s.accepts p 0x28 l)
    (reads : readAll rSetDialConfig l = some x) :
    exec (.setDialConfig p l) s = .next (respond p 0x28 (ownSetDialConfig x (s.takeFrame p false false))) :=
  congrArg Host.Outcome.next (parsed_accepted accepted reads ownSetDialConfig)

end State

open State in
/-- Settles O24: hand sets and configuration are changes of the train's record with an evaluation, and the two commands of the
dial driver act at their instants only. -/
theorem dialsMoveByHandSetsAndImpulses : Obligations.DialsMoveByHandSetsAndImpulses := by
  refine fun s => ⟨fun p l n x y accepted reads unfitted => ?_, fun p l n x y accepted reads fitted => ?_,
    fun p l n x accepted reads => ?_, fun d l now running state reached => ?_, fun n => ?_⟩
  · rw [exec_setDial accepted reads, ownSetDial_unfitted (s := s.takeFrame p false false) unfitted, respond_refuse]
  · have runs := exec_setDial accepted reads
    refine ⟨fun busy => ?_, fun stopped free => ?_, fun unset free => ?_⟩
    · rw [runs, ownSetDial_busy (s := s.takeFrame p false false) fitted busy, respond_refuse]
    · rw [runs, ownSetDial_stopped (s := s.takeFrame p false false) fitted stopped free, respond_modDial]
      exact congrArg (fun t => Host.Outcome.next (answers t p 0x29 .ok _)) (modDial_congr rfl)
    · obtain ⟨u, set, evaluates, notice⟩ := ownSetDial_unset (s := s.takeFrame p false false) (position := x) (polarity := y)
        fitted unset free
      rw [set] at runs
      have takes := evaluates.answered 0x29 (wName (u.dial n).state.ctorIdx)
      exact ⟨_, runs, takes.only, takes.here, takes.others, noticedAll_respond (a := u.ok _) notice p 0x29,
        responds_respond ..⟩
  · have runs := exec_setDialConfig accepted reads
    refine ⟨fun changes busy => ?_, fun free => ?_⟩
    · rw [runs, ownSetDialConfig_busy (s := s.takeFrame p false false) changes busy, respond_refuse]
    · obtain ⟨u, set, configures, quiet⟩ := ownSetDialConfig_configures (s := s.takeFrame p false false) (x := x) free
      rw [set] at runs
      have takes := configures.answered 0x28 []
      refine ⟨fun same => ?_, _, runs, takes.only, takes.here, takes.others, takes.notice, responds_respond ..⟩
      rw [runs, quiet same, respond_modDial]
      rfl
  · exact Dial.evaluate_catchUpDue running (Dial.catchesUp_iff.mpr ⟨state, .inr reached⟩) l
  · refine ⟨fun early quiet => ?_, fun due same => ?_, fun due => ?_, fun reached state demanded free => ?_,
      fun i flight driven => ?_, fun i flight early => ?_⟩
    · rw [exec_dialCatchUp, dialCatchesUp_early early (mt Dial.catchesUp_iff.mp quiet)]
    · rw [exec_dialCatchUp, dialCatchesUp_due (Dial.catchesUp_iff.mpr due), changeDial_quiet same]
      exact congrArg Host.Outcome.next (modDial_congr rfl)
    · have takes := TakesDial.changeDial s n fun d => d.evaluateCatchUp s.localTime s.tk.timeValid s.now
      rw [← dialCatchesUp_due (Dial.catchesUp_iff.mpr due)] at takes
      refine ⟨_, exec_dialCatchUp s n, takes.only, takes.here, takes.others, takes.notice, fun early => ?_⟩
      rw [takes.here]
      exact Dial.evaluate_early early s.localTime s.tk.timeValid
    · rw [exec_dialCatchUp, dialCatchesUp_begins state demanded reached free]
      rfl
    · rw [exec_impulseEnd, dialImpulseEnds_moves flight driven]
      rfl
    · rw [exec_impulseEnd, dialImpulseEnds_early flight early]

end Sys2Proof.Machine
end

section
/-! PROOFS. The loss of the supply (O12): what the drop of the main supply's items keeps and clears, in any power state (R39, R63). -/

namespace Sys2Proof.Machine.State

variable (s : State)

/-- What is on the main supply is lost, and the power state is `x`. -/
def unsupplied (x : Power) : State := { s.dropVolatile with power := x }

/-- A train keeps its configuration and its marks when its volatile items are lost (R34, R39). -/
theorem dial_dropVolatile (n : Train) : s.dropVolatile.dial n =
    { s.dial n with
      state := match (s.dial n).mode with
        | .unset => .unset
        | .stopped => .stopped
        | .running => .inStep
      lag := none, lastStart := none, catchUp := 0, impulse := none, demanded := false, catchUpDue := false } := by
  rw [dial, dropVolatile_dials]
  simp only [dropDials, modDials, Table.get_map]
  rfl

theorem unsupplied_keepsRetained (x : Power) : s.keepsRetained (s.unsupplied x) := by
  unfold keepsRetained unsupplied config bell circuit dial port
  simp only [dropVolatile_tk, dropVolatile_cal, dropVolatile_bells, dropVolatile_claims, dropVolatile_engine,
    dropVolatile_clavier, dropVolatile_lights, dropVolatile_load, dropVolatile_link, dropVolatile_store, Table.get_map,
    PerPort.get_map, BellRec.atStart, Engine.atStart, Clavier.atStart, CircuitRec.atStart, PortRec.atStart, Store.atStart,
    true_and, implies_true, and_self]
  refine ⟨fun n => ?_, fun idle => ?_⟩
  · have marks := s.dial_dropVolatile n
    simp only [dial] at marks
    rw [marks]
    exact ⟨rfl, rfl, rfl, rfl⟩
  · rw [cutCommit_of_no_commit idle]

theorem unsupplied_clearsVolatile (x : Power) : (s.unsupplied x).clearsVolatile := by
  unfold clearsVolatile unsupplied claim swingState swingRec motorLine bell
  simp only [dropVolatile_tk, dropVolatile_bells, dropVolatile_claims, dropVolatile_engine, dropVolatile_swing,
    dropVolatile_load, dropVolatile_store, Table.get_map, Engine.atStart, Claims.cold, Swing.atStart, SwingRec.atStart,
    BellRec.atStart, BellTable.cold, Store.atStart, Table.get_replicate, implies_true, and_self]

/-- Every drive line is released (R39, R63, R169). -/
theorem unsupplied_lines (x : Power) :
    (∀ b, (s.unsupplied x).hammerLine b = false ∧ (s.unsupplied x).parkLine b = false ∧ (s.unsupplied x).motorLine b = false) ∧
      (∀ n p, (s.unsupplied x).dialLine n p = false) ∧ ∀ k, (s.unsupplied x).lightLine k = 0 := by
  refine ⟨fun b => ⟨?_, ?_, ?_⟩, fun n p => ?_, fun k => ?_⟩
  · simp only [hammerLine, pulsing, unsupplied, dropVolatile_engine]
    rfl
  · simp only [parkLine, bell, unsupplied, dropVolatile_bells, Table.get_map]
    cases h : (s.bells.bells.get b).config.hammer <;> simp [BellRec.atStart, h]
  · simp only [motorLine, bell, unsupplied, dropVolatile_bells, Table.get_map]
    rfl
  · change ((s.dropVolatile.dial n).impulse.any _) = false
    rw [dropVolatile_impulse]
    rfl
  · simp only [lightLine, circuit, unsupplied, dropVolatile_lights, Table.get_map]
    rfl

/-- Without mains no attention line is asserted (R176). -/
theorem unsupplied_attention {x : Power} (dark : x ≠ .on) (p : Port) : (s.unsupplied x).attention p = false := by
  have off : (x == Power.on) = false := beq_eq_false_iff_ne.mpr dark
  simp [attention, unsupplied, off]

end Sys2Proof.Machine.State

namespace Sys2Proof.Machine

/-- Settles O12: either command leaves the state that has lost the main supply's items, in its own power state. -/
theorem lossOfSupplyReleasesEveryLine : Obligations.LossOfSupplyReleasesEveryLine := by
  intro c s cases
  obtain ⟨x, dark, runs, power⟩ : ∃ x, x ≠ .on ∧ exec c s = .next (s.unsupplied x) ∧
      x = if c = .mainsFail then .absent else .off := by
    rcases cases with ⟨rfl, on⟩ | rfl
    · exact ⟨.absent, by decide, congrArg Host.Outcome.next (if_pos on), rfl⟩
    · exact ⟨.off, by decide, rfl, rfl⟩
  obtain ⟨bells, dials, lights⟩ := s.unsupplied_lines x
  refine ⟨s.unsupplied x, runs, power, s.unsupplied_keepsRetained x, s.unsupplied_clearsVolatile x, bells, dials, lights,
    s.unsupplied_attention dark, fun n => ?_, (congrArg Timekeeper.dstInForce s.dropVolatile_tk :),
    (congrArg Timekeeper.guard s.dropVolatile_tk :), (congrArg Link.locks s.dropVolatile_link :)⟩
  have marks : (s.unsupplied x).dial n = _ := s.dial_dropVolatile n
  rw [marks]
  exact ⟨rfl, rfl, rfl, rfl, rfl⟩

end Sys2Proof.Machine
end

section
/-! PROOFS. The availability question, planning and STRIKE (O36): R65, R67, R81 to R85, R91 and R118. -/

namespace Sys2Proof.Machine

/-- What a claim allows to strike, as a condition on the claim there is (R67). -/
theorem claimAllows_iff (c : Option Claim) (port : Option Port) :
    claimAllows c port = true ↔ ∀ k, c = some k → k.kind = .chime ∧ port = some k.owner := by
  cases c <;> simp [claimAllows]

namespace State

/-! ## Taking the frame of a request -/

theorem takeFrame_raiseAll (s : State) (p : Port) (a b : Bool) (k : NoticeKind) :
    (s.takeFrame p a b).raiseAll k = (s.raiseAll k).takeFrame p a b := by
  rw [raiseAll_eq, raiseAll_eq]
  cases p <;> rfl

theorem takeFrame_lose (s : State) (p : Port) (a b : Bool) (x : DropReason) :
    (s.takeFrame p a b).lose x = (s.lose x).takeFrame p a b := by
  by_cases below : s.engine.losses.read x < Config.saturation
  · have taken : (s.takeFrame p a b).engine.losses.read x < Config.saturation := below
    rw [lose, lose, if_pos below, if_pos taken]
    exact takeFrame_raiseAll (s.modEngine fun e => { e with losses := e.losses.count x }) p a b .loss
  · have taken : ¬(s.takeFrame p a b).engine.losses.read x < Config.saturation := below
    rw [lose, lose, if_neg below, if_neg taken]

/-- Losing a strike gives no signal. -/
theorem lose_signals (s : State) (x : DropReason) : (s.lose x).signals = s.signals :=
  lose_within (changesOnly.refl _ s) (List.Subset.refl _) x .signals (by decide)

/-! ## The availability question -/

section

variable {s : State} {port : Option Port} {b : Bell}

theorem availability_unreported (h : ¬(s.bells.imageValid = true ∧ s.swingState b ≠ .unreported)) :
    s.availability port b = some .interlock :=
  if_pos (by simpa [imp_iff_not_or] using h)

/-- Once the bell has been reported, R65 goes on to its other conditions. -/
theorem availability_reported (h : s.bells.imageValid = true ∧ s.swingState b ≠ .unreported) :
    s.availability port b =
      if (s.bell b).hammer = some .absent then some .noHammer
      else if s.bells.lockout.state = some true ∨ s.swingState b ≠ .idle then some .interlock
      else if claimAllows (s.claim b) port = false then some .claimed
      else if (s.bell b).hammer = some .fault then some .hammerFault
      else if (s.bell b).hammer = some .ready then none else some .interlock := by
  have reported : ¬(!s.bells.imageValid || s.swingState b == .unreported) = true := by simp [h]
  unfold availability lockedOut
  rw [if_neg reported]
  simp only [beq_iff_eq, bne_iff_ne, Bool.not_eq_true', ite_or, ite_not]

end

/-! ## Planning -/

theorem planned_unavailable {s : State} {r : StrikeRequest} {x : DropReason} (h : s.availability r.port r.bell = some x) :
    s.planned r = .dropped x := by simp only [planned, h]

/-- A deficit that the request's policy and allowance bear is none, or a slip within the allowance (R84). -/
theorem deficit_borne {policy : Policy} {d allowance : Nat} (h : d = 0 ∨ (policy = .slip ∧ d ≤ allowance)) :
    ¬(d ≠ 0 ∧ (policy = .drop ∨ allowance < d)) := by
  rintro ⟨late, drop | beyond⟩
  · rcases h with none | ⟨slip, -⟩
    · exact late none
    · rw [drop] at slip
      cases slip
  · omega

section

variable {s : State} {r : StrikeRequest} (available : s.availability r.port r.bell = none)
include available

theorem planned_deficit (late : s.deficit r.bell r.onset ≠ 0)
    (h : r.policy = .drop ∨ r.allowance < s.deficit r.bell r.onset) : s.planned r = .dropped .recovery := by
  simp only [planned, available]
  exact if_pos ⟨late, h⟩

theorem planned_full (h : s.deficit r.bell r.onset = 0 ∨ (r.policy = .slip ∧ s.deficit r.bell r.onset ≤ r.allowance))
    (full : 48 ≤ s.engine.queue.length) : s.planned r = .dropped .queueFull := by
  simp only [planned, available]
  rw [if_neg (deficit_borne h)]
  exact if_pos full

theorem planned_entered (h : s.deficit r.bell r.onset = 0 ∨ (r.policy = .slip ∧ s.deficit r.bell r.onset ≤ r.allowance))
    (room : s.engine.queue.length < 48) :
    s.planned r =
      if r.onset + s.deficit r.bell r.onset < s.now + (s.config r.bell).lead then
        .queued (s.now + (s.config r.bell).lead) s.now (s.deficit r.bell r.onset)
          (s.now + (s.config r.bell).lead - (r.onset + s.deficit r.bell r.onset))
      else
        .queued (r.onset + s.deficit r.bell r.onset) (r.onset + s.deficit r.bell r.onset - (s.config r.bell).lead)
          (s.deficit r.bell r.onset) 0 := by
  have open_ : ¬Config.strikeQueue ≤ s.engine.queue.length := Nat.not_le.mpr room
  simp only [planned, available]
  rw [if_neg (deficit_borne h), if_neg open_]

end

/-! ## The arbiter on a queue of at most one entry -/

theorem arbitrate_of_empty {s : State} (h : s.engine.queue = []) : s.arbitrate = s := by
  rw [arbitrate, h]
  rfl

theorem arbitrate_of_no_slot {s : State} (h : s.freeSlot = none) : s.arbitrate = s := by
  unfold arbitrate
  cases s.engine.queue.length with
  | zero => rfl
  | succ n => rw [arbitrateFor, h]

/-- The arbiter attempts the one entry of the queue where it is eligible. -/
theorem arbitrate_of_one {s : State} {e : QueueEntry} {k : HammerSlot} (queue : s.engine.queue = [e])
    (slot : s.freeSlot = some k) (eligible : s.eligible e = true) : s.arbitrate = s.attempt k e := by
  have chosen : s.choose = some e := by simp [choose, queue, eligible]
  rw [arbitrate, queue]
  change s.arbitrateFor 1 = _
  rw [arbitrateFor, slot, chosen]
  rfl

/-- An attempt on an available bell whose hammer is at home is granted (R92). -/
theorem attempt_of_available {s : State} {e : QueueEntry} (k : HammerSlot) (available : s.availability e.port e.bell = none)
    (home : (s.bell e.bell).home.state = some true) : s.attempt k e = s.grant k e := by
  simp only [attempt, available, home, ne_eq, not_true_eq_false, if_false]

/-! ## STRIKE -/

/-- The entry of a single strike on a bell whose horizon lies behind (R79, R81, R118). -/
def singleEntry (s : State) (p : Port) (b : Bell) (k : Nat) : QueueEntry :=
  { source := .single, port := some p, bell := b, cls := k, run := none, index := 0
    onset := s.now + (s.config b).lead, fire := s.now }

/-- The state `s` once that entry has entered an empty queue (R82, R85). -/
def singleQueued (s : State) (p : Port) (b : Bell) (k : Nat) : State :=
  (s.modEngine fun e => { e with queue := [s.singleEntry p b k] }).modBell b fun r =>
    { r with horizon := some (s.now + (s.config b).lead) }

/-- The pulse that the grant of that entry begins (R93). -/
def singlePulse (s : State) (p : Port) (b : Bell) (k : Nat) : BusySlot :=
  { bell := b, source := .single, port := some p, cls := k, onset := s.now + (s.config b).lead
    ends := s.now + s.pulseWidth b k }

theorem exec_strike {s : State} {p : Port} {l : List Byte} {x : Bell × Nat} (accepted : s.accepts p 0x4C l)
    (reads : readAll rStrike l = some x) :
    exec (.strike p l) s = .next (respond p 0x4C (ownStrike p x (s.takeFrame p false false))) :=
  congrArg Host.Outcome.next (parsed_accepted accepted reads (ownStrike p))

section

variable {s : State} {p : Port} {b : Bell} {k : Nat} (queue : s.engine.queue = [])
include queue

theorem ownStrike_unavailable {x : DropReason} (h : s.availability (some p) b = some x) (quiet : s.signals = []) :
    ownStrike p (b, k) s = ⟨s.lose x, .unavailable, wReason x⟩ := by
  have planned : s.planned (s.singleRequest p b k) = .dropped x := planned_unavailable h
  unfold ownStrike
  simp only [planned, plan_dropped planned, strikeAnswer]
  rw [arbitrate_of_empty (by rw [lose_queue, queue]), settle_of_quiet (by rw [lose_signals, quiet])]

variable (available : s.availability (some p) b = none) (free : s.horizon b = none)
include available free

/-- A single strike on a bell whose horizon lies behind is planned for its lead from now (R81). -/
theorem planned_single : s.planned (s.singleRequest p b k) = .queued (s.now + (s.config b).lead) s.now 0 0 := by
  have onTime : s.deficit b (s.now + (s.config b).lead) = 0 := by simp only [deficit, free]
  have entered := planned_entered (r := s.singleRequest p b k) available (.inl onTime) (by rw [queue]; decide)
  have inTime : ¬(s.now + (s.config b).lead + s.deficit b (s.now + (s.config b).lead) < s.now + (s.config b).lead) :=
    Nat.not_lt.mpr (Nat.le_add_right ..)
  refine entered.trans ((if_neg inTime).trans ?_)
  simp only [singleRequest, onTime, Nat.add_zero, Nat.add_sub_cancel]

theorem plan_single : s.plan (s.singleRequest p b k) = s.singleQueued p b k := by
  unfold plan
  rw [planned_single queue available free]
  simp only [singleQueued, modEngine, queue]
  rfl

theorem ownStrike_queued : ownStrike p (b, k) s =
    ⟨(s.singleQueued p b k).arbitrate.settle, .ok, le 1 0 ++ le 4 (s.config b).lead ++ le 4 0 ++ le 1 0⟩ := by
  unfold ownStrike
  simp only [planned_single queue available free, plan_single queue available free, strikeAnswer, Nat.add_sub_cancel_left,
    Nat.sub_self, wName]

omit queue available in
/-- The entry just planned is eligible at once: it is due, and its bell has struck nothing that it must recover from (R89). -/
theorem eligible_single (still : s.pulsing b = false) :
    (s.singleQueued p b k).eligible (s.singleEntry p b k) = true := by
  have unstruck : (s.bell b).lastOnset = none := by
    unfold horizon at free
    cases last : (s.bell b).lastOnset <;> cases h : (s.bell b).horizon <;> simp_all
  have onset : ((s.singleQueued p b k).bell b).lastOnset = none := by
    rw [singleQueued, bell_modBell, if_pos rfl]
    exact unstruck
  have lines : (s.singleQueued p b k).pulsing b = false := still
  simp only [eligible, due, waits, unrecovered, singleEntry, lines, onset]
  simp [singleQueued, now, modBell]

omit queue free in
/-- Planning changes nothing that the availability question asks for. -/
theorem availability_single : (s.singleQueued p b k).availability (some p) b = none := by
  have record : (s.singleQueued p b k).bell b = { s.bell b with horizon := some (s.now + (s.config b).lead) } := by
    rw [singleQueued, bell_modBell, if_pos rfl]
    rfl
  rw [← available]
  unfold availability
  rw [record]
  rfl

omit queue in
/-- A single strike that finds a slot free is granted it at once (R89, R92, R93). -/
theorem arbitrate_single {n : HammerSlot} (slot : s.freeSlot = some n) (still : s.pulsing b = false)
    (home : (s.bell b).home.state = some true) :
    (s.singleQueued p b k).arbitrate = (s.singleQueued p b k).grant n (s.singleEntry p b k) := by
  have atHome : ((s.singleQueued p b k).bell b).home.state = some true := by
    rw [singleQueued, bell_modBell, if_pos rfl]
    exact home
  rw [arbitrate_of_one (s := s.singleQueued p b k) (k := n) rfl slot (eligible_single free still)]
  exact attempt_of_available (e := s.singleEntry p b k) n (availability_single available) atHome

end

/-- The engine once a single strike has been granted: the queue is empty again and the slot drives the bell (R93). -/
theorem grant_single_engine (s : State) (p : Port) (b : Bell) (k : Nat) (n : HammerSlot) :
    ((s.singleQueued p b k).grant n (s.singleEntry p b k)).engine =
      { s.engine with queue := [], rotation := b, slots := s.engine.slots.set n (some (s.singlePulse p b k)) } := by
  have lead : ((s.singleQueued p b k).config b).lead = (s.config b).lead := by
    rw [config, singleQueued, bell_modBell, if_pos rfl]
    rfl
  have widths : ((s.singleQueued p b k).config b).widths = (s.config b).widths := by
    rw [config, singleQueued, bell_modBell, if_pos rfl]
    rfl
  have renewed (t : State) (port : Option Port) : (t.renewByGrant b port).engine = t.engine :=
    renewByGrant_within (changesOnly.refl _ t) (List.Subset.refl _) b port .engine (by decide)
  unfold grant pulseWidth
  simp only [singleEntry, endOutcome, renewed, lead, widths]
  simp [singleQueued, singleEntry, modEngine, modBell, modBells, singlePulse, pulseWidth, now]

theorem grant_single_signals (s : State) (p : Port) (b : Bell) (k : Nat) (n : HammerSlot) :
    ((s.singleQueued p b k).grant n (s.singleEntry p b k)).signals = s.signals :=
  grant_within (changesOnly.refl _ (s.singleQueued p b k)) (List.Subset.refl _) n _ .signals (by decide)

/-- A slot that drives a bell asserts its hammer line. -/
theorem pulsing_of_slot {s : State} {n : HammerSlot} {x : BusySlot} (h : s.engine.slots.get n = some x) :
    s.pulsing x.bell = true := by
  refine List.any_eq_true.mpr ⟨some x, ?_, by simp⟩
  rw [← h]
  exact List.getElem_mem _

end State

/-- Settles O36: the first two parts are the conditions of R65 and R81 to R85 read off their definitions, one by one; STRIKE
then plans one request, and the arbiter finds at most that entry in the queue. -/
theorem strikesArePlanned : Obligations.StrikesArePlanned := by
  refine ⟨fun port b s => ?availability, fun r s => ?planning, fun p l s => ⟨fun b k accepted reads => ?strike,
    fun x accepted reads => ?priorities⟩⟩
  case availability =>
    refine ⟨State.availability_unreported, ?_⟩
    by_cases reported : s.bells.imageValid = true ∧ s.swingState b ≠ .unreported
    · rw [State.availability_reported reported]
      simp only [← claimAllows_iff]
      refine ⟨?_, ?_, ?_, ?_, ?_, ?_⟩ <;> grind
    · grind
  case planning =>
    refine ⟨fun x => State.planned_unavailable, State.planned_deficit, State.planned_full, fun available borne room => ?_⟩
    refine ⟨fun early => ?_, fun late => ?_⟩
    · exact (State.planned_entered available borne room).trans (if_neg (Nat.not_lt.mpr early))
    · exact (State.planned_entered available borne room).trans (if_pos late)
  case strike =>
    refine ⟨fun x unavailable queue quiet => ?_, fun available free queue quiet slot => ?_,
      fun n available free queue quiet slot still home => ?_⟩
    · have owned := State.ownStrike_unavailable (s := s.takeFrame p false false) (k := k) queue unavailable quiet
      rw [State.exec_strike accepted reads, owned, State.takeFrame_lose, State.respond_takeFrame]
    · have owned := State.ownStrike_queued (s := s.takeFrame p false false) (k := k) queue available free
      rw [State.exec_strike accepted reads, owned,
        State.arbitrate_of_no_slot (s := (s.takeFrame p false false).singleQueued p b k) slot,
        State.settle_of_quiet (s := (s.takeFrame p false false).singleQueued p b k) quiet]
      exact congrArg Host.Outcome.next (State.respond_takeFrame (s.singleQueued p b k) ..)
    · have owned := State.ownStrike_queued (s := s.takeFrame p false false) (k := k) queue available free
      have granted := State.arbitrate_single (s := s.takeFrame p false false) (k := k) available free slot still home
      have settled := State.settle_of_quiet (((s.takeFrame p false false).grant_single_signals p b k n).trans quiet)
      rw [State.exec_strike accepted reads, owned, granted, settled]
      have engine := (s.takeFrame p false false).grant_single_engine p b k n
      refine ⟨_, rfl, congrArg Engine.queue engine, ?_, congrArg Engine.slots engine, State.responds_respond ..⟩
      refine State.pulsing_of_slot (n := n) (x := (s.takeFrame p false false).singlePulse p b k) ?_
      refine (congrArg (fun e : Engine => e.slots.get n) engine).trans ?_
      exact Table.get_set_same ..
  case priorities =>
    exact congrArg Host.Outcome.next ((State.parsed_accepted accepted reads State.ownSetPriority).trans
      (State.respond_takeFrame (s.modEngine fun e => { e with priorities := x }) ..))

end Sys2Proof.Machine
end

section
/-! PROOFS. What an operation on one bell's hammer or swing leaves of the other bells and of the sensors: the relation `ActsAt`
from a state to a later one. -/

namespace Sys2Proof.Machine.State

/-- `t` is a state that an operation on bell `b` may make of `s`: the time, the hammer slots, the sensors and the records of the
other bells stay, and no other bell joins the load queue. `held` says that bell `b`'s claim and its ROPE demand stay too. -/
structure ActsAt (held : Prop) (b : Bell) (s t : State) : Prop where
  tk : t.tk = s.tk
  slots : t.engine.slots = s.engine.slots
  lockout : t.bells.lockout = s.bells.lockout
  mains : t.bells.mains = s.bells.mains
  image : t.bells.imageValid = s.bells.imageValid
  sensors : (t.bell b).sensors = (s.bell b).sensors
  bells : ∀ k, k ≠ b → t.bell k = s.bell k
  swings : ∀ k, k ≠ b → t.swingRec k = s.swingRec k
  claims : ∀ k, k ≠ b → t.claim k = s.claim k
  queue : ∀ e ∈ t.load.queue, e.bell ≠ b → e ∈ s.load.queue
  rope : held → (t.bell b).demands.rope = (s.bell b).demands.rope ∧ t.claim b = s.claim b

/-! ## Losses and purges leave the hammer slots -/

theorem lose_slots (s : State) (r : DropReason) : (s.lose r).engine.slots = s.engine.slots := by
  unfold lose
  split <;> rfl

theorem dropEntry_slots (s : State) (e : QueueEntry) (r : DropReason) : (s.dropEntry e r).engine.slots = s.engine.slots := by
  have told := endOutcome_within (changesOnly.refl _ ((s.modEngine fun g => { g with queue := g.queue.erase e }).lose r))
    (List.Subset.refl _) e (.dropped r) .engine (by decide)
  exact (congrArg Engine.slots told).trans (lose_slots ..)

theorem purge_slots (s : State) (matching : QueueEntry → Bool) (r : DropReason) :
    (s.purge matching r).engine.slots = s.engine.slots :=
  List.foldlRecOn (motive := fun t => t.engine.slots = s.engine.slots) _ _ rfl
    fun (t : State) h e _ => (t.dropEntry_slots e r).trans h

namespace ActsAt

variable {held : Prop} {b : Bell} {s t u : State}

theorem refl (held : Prop) (b : Bell) (s : State) : s.ActsAt held b s :=
  ⟨rfl, rfl, rfl, rfl, rfl, rfl, fun _ _ => rfl, fun _ _ => rfl, fun _ _ => rfl, fun _ h _ => h, fun _ => ⟨rfl, rfl⟩⟩

theorem trans (h : s.ActsAt held b t) (g : t.ActsAt held b u) : s.ActsAt held b u where
  tk := g.tk.trans h.tk
  slots := g.slots.trans h.slots
  lockout := g.lockout.trans h.lockout
  mains := g.mains.trans h.mains
  image := g.image.trans h.image
  sensors := g.sensors.trans h.sensors
  bells k other := (g.bells k other).trans (h.bells k other)
  swings k other := (g.swings k other).trans (h.swings k other)
  claims k other := (g.claims k other).trans (h.claims k other)
  queue e mem other := h.queue e (g.queue e mem other) other
  rope x := ⟨(g.rope x).1.trans (h.rope x).1, (g.rope x).2.trans (h.rope x).2⟩

/-- What holds whether or not the claim stays holds in particular where it may go. -/
theorem weaken (h : s.ActsAt True b t) : s.ActsAt held b t := { h with rope := fun _ => h.rope trivial }

theorem ite {c : Prop} [Decidable c] (h : s.ActsAt held b t) (g : s.ActsAt held b u) :
    s.ActsAt held b (if c then t else u) := by split <;> assumption

theorem foldl {f : State → α → State} (h : s.ActsAt held b t) (hf : ∀ u a, s.ActsAt held b u → s.ActsAt held b (f u a))
    (as : List α) : s.ActsAt held b (as.foldl f t) :=
  List.foldlRecOn (motive := s.ActsAt held b) as f h fun u g a _ => hf u a g

/-! ## The changes of one block -/

theorem modBell (h : s.ActsAt held b t) {f : BellRec → BellRec} (sensors : ∀ r, (f r).sensors = r.sensors := by exact fun _ => rfl)
    (rope : ∀ r, (f r).demands.rope = r.demands.rope := by exact fun _ => rfl) : s.ActsAt held b (t.modBell b f) :=
  h.trans { refl held b t with
    sensors := by rw [bell_modBell, if_pos rfl, sensors]
    bells := fun k other => by rw [bell_modBell, if_neg other]
    rope := fun _ => by
      rw [bell_modBell, if_pos rfl, rope]
      exact ⟨rfl, rfl⟩ }

theorem modSwingRec (h : s.ActsAt held b t) (f : SwingRec → SwingRec) : s.ActsAt held b (t.modSwingRec b f) :=
  h.trans { refl held b t with swings := fun k other => by rw [swingRec_modSwingRec, if_neg other] }

/-- What of the state an operation on a bell must leave stays where these blocks stay. -/
theorem same (h : s.ActsAt held b t) (tk : u.tk = t.tk) (slots : u.engine.slots = t.engine.slots) (bells : u.bells = t.bells)
    (claims : u.claims = t.claims) (recs : u.swing.recs = t.swing.recs)
    (queue : ∀ e ∈ u.load.queue, e.bell ≠ b → e ∈ t.load.queue) : s.ActsAt held b u := by
  have table (k : Bell) : u.bell k = t.bell k := congrArg (fun x : BellTable => x.bells.get k) bells
  have claim (k : Bell) : u.claim k = t.claim k := congrArg (fun x : Claims => x.recs.get k) claims
  exact h.trans
    { tk, slots, queue
      lockout := congrArg BellTable.lockout bells
      mains := congrArg BellTable.mains bells
      image := congrArg BellTable.imageValid bells
      sensors := by rw [table]
      bells := fun k _ => table k
      swings := fun k _ => congrArg (Table.get · k) recs
      claims := fun k _ => claim k
      rope := fun _ => ⟨by rw [table], claim b⟩ }

theorem modSwing (h : s.ActsAt held b t) {f : Swing → Swing} (recs : (f t.swing).recs = t.swing.recs := by rfl) :
    s.ActsAt held b (t.modSwing f) := h.same rfl rfl rfl rfl recs fun _ mem _ => mem

theorem modLoad (h : s.ActsAt held b t) {f : Load → Load}
    (queue : ∀ e ∈ (f t.load).queue, e.bell ≠ b → e ∈ t.load.queue) : s.ActsAt held b (t.modLoad f) :=
  h.same rfl rfl rfl rfl rfl queue

/-- The other blocks hold nothing that an operation on a bell must leave. -/
theorem frame {L : List Block} (h : s.ActsAt held b t) (g : t.changesOnly L u) (tk : Block.timekeeper ∉ L := by decide)
    (bells : Block.bells ∉ L := by decide) (claims : Block.claims ∉ L := by decide) (engine : Block.engine ∉ L := by decide)
    (swing : Block.swing ∉ L := by decide) (load : Block.load ∉ L := by decide) : s.ActsAt held b u :=
  h.same (g .timekeeper tk) (congrArg Engine.slots (g .engine engine)) (g .bells bells) (g .claims claims)
    (congrArg Swing.recs (g .swing swing)) fun _ mem _ => (congrArg Load.queue (g .load load)) ▸ mem

theorem signal (h : s.ActsAt held b t) (x : Signal) : s.ActsAt held b (t.signal x) :=
  h.frame (signal_within (changesOnly.refl _ t) (List.Subset.refl _) x)

theorem takeSignal (h : s.ActsAt held b t) (l : List Signal) : s.ActsAt held b { t with signals := l } :=
  h.frame (clearSignals_within (changesOnly.refl _ t) (List.Subset.refl _) l)

theorem raise (h : s.ActsAt held b t) (k : NoticeKind) (p : Port) : s.ActsAt held b (t.raise k p) :=
  h.frame (raise_within (changesOnly.refl _ t) (List.Subset.refl _) k p)

theorem raiseAll (h : s.ActsAt held b t) (k : NoticeKind) : s.ActsAt held b (t.raiseAll k) :=
  h.frame (raiseAll_within (changesOnly.refl _ t) (List.Subset.refl _) k)

theorem raiseFor (h : s.ActsAt held b t) (k : NoticeKind) (p : Option Port) : s.ActsAt held b (t.raiseFor k p) :=
  h.frame (raiseFor_within (changesOnly.refl _ t) (List.Subset.refl _) k p)

theorem ringCrossing (h : s.ActsAt held b t) (before : Nat) : s.ActsAt held b (t.ringCrossing before) :=
  h.frame (ringCrossing_within (changesOnly.refl _ t) (List.Subset.refl _) before)

theorem makeRoom (h : s.ActsAt held b t) {need : Nat} (e : t.makeRoom need = some u) : s.ActsAt held b u :=
  h.frame (makeRoom_within (changesOnly.refl _ t) (List.Subset.refl _) e)

theorem restoreLights (h : s.ActsAt held b t) : s.ActsAt held b t.restoreLights :=
  h.frame (restoreLights_within (changesOnly.refl _ t) (List.Subset.refl _))

theorem purge (h : s.ActsAt held b t) (matching : QueueEntry → Bool) (r : DropReason) : s.ActsAt held b (t.purge matching r) := by
  have g := purge_within (changesOnly.refl _ t) (List.Subset.refl _) matching r
  exact h.same (g .timekeeper (by decide)) (t.purge_slots ..) (g .bells (by decide)) (g .claims (by decide))
    (congrArg Swing.recs (g .swing (by decide))) fun _ mem _ => (congrArg Load.queue (g .load (by decide))) ▸ mem

/-! ## Hammers -/

theorem setHammer (h : s.ActsAt held b t) (x : Hammer) (timer : Option Nat) (quiet : Bool) :
    s.ActsAt held b (t.setHammer b x timer quiet) := by
  unfold State.setHammer
  exact (ite h.modBell (h.modBell.raiseAll _)).signal _

theorem faultHammer (h : s.ActsAt held b t) (x : HammerCause) (quiet : Bool) : s.ActsAt held b (t.faultHammer b x quiet) :=
  (h.setHammer .fault none quiet).modBell.raiseAll _

theorem enterUnparking (h : s.ActsAt held b t) (quiet : Bool) : s.ActsAt held b (t.enterUnparking b quiet) :=
  ite (h.faultHammer ..) (ite (h.setHammer ..) (h.setHammer ..))

theorem enterParked (h : s.ActsAt held b t) (quiet : Bool) : s.ActsAt held b (t.enterParked b quiet) :=
  have c := h.setHammer .parked none quiet
  ite (h.faultHammer ..) (ite (c.enterUnparking _) c)

theorem enterParking (h : s.ActsAt held b t) : s.ActsAt held b (t.enterParking b) :=
  ite (h.faultHammer ..) (ite (h.enterParked _) (h.setHammer ..))

/-- A change of the demands, which may be one of ROPE. -/
theorem changeDemands (h : s.ActsAt held b t) {f : Demands → Demands} (rope : held → ∀ d, (f d).rope = d.rope) :
    s.ActsAt held b (t.changeDemands b f) := by
  have c : s.ActsAt held b (t.modBell b fun r => { r with demands := f r.demands }) :=
    h.trans { refl held b t with
      sensors := by
        rw [bell_modBell, if_pos rfl]
        rfl
      bells := fun k other => by rw [bell_modBell, if_neg other]
      rope := fun x => by
        rw [bell_modBell, if_pos rfl]
        exact ⟨rope x _, rfl⟩ }
  unfold State.changeDemands
  dsimp only
  split
  · exact ite c c.enterParking
  · exact c.enterParking
  · exact ite (c.enterUnparking _) c
  · exact c

theorem hammerSensors (h : s.ActsAt held b t) (rest home park : Bool) : s.ActsAt held b (t.hammerSensors b rest home park) := by
  have fault := h.faultHammer .sensorConflict false
  unfold State.hammerSensors
  dsimp only
  split
  · exact h
  · exact h
  · exact h
  · exact ite fault h
  · exact ite fault (ite (h.enterParked _) h)
  · exact ite fault (ite (h.faultHammer ..) (ite (h.enterUnparking _) h))
  · exact ite fault (ite h.enterParking (ite (h.setHammer ..) h))

theorem hammerFirstState (h : s.ActsAt held b t) : s.ActsAt held b (t.hammerFirstState b) := by
  unfold State.hammerFirstState
  refine ite ?_ h
  split
  · exact h.faultHammer ..
  · exact h.modBell.setHammer ..
  · exact h.setHammer ..
  · exact h.setHammer ..

theorem meetDemand (h : s.ActsAt held b t) : s.ActsAt held b (t.meetDemand b) := ite h.enterParking h

/-! ## The swing states -/

theorem slotRunHears (h : s.ActsAt held b t) (k : Bell) (x : SwingState) : s.ActsAt held b (t.slotRunHears k x) := by
  have put (f : SlotRun → SlotRun) : s.ActsAt held b (t.modSwing fun w => { w with runs := w.runs.map f }) := h.modSwing
  unfold State.slotRunHears
  split
  · dsimp only
    split
    · exact ite ((put _).signal _) (put _)
    · exact (put _).signal _
    · exact (put _).signal _
    · exact h
  · exact h

theorem setSwing (h : s.ActsAt held b t) (f : SwingRec → SwingRec) (quiet : Bool) : s.ActsAt held b (t.setSwing b f quiet) := by
  have c := h.modSwingRec f
  have d := (ite (c := quiet = true) c (c.raiseAll .bell)).changeDemands (f := fun d =>
    { d with swing := ((t.modSwingRec b f).swingState b).demandsPark, start := d.start && (t.modSwingRec b f).swingState b != .idle })
    fun _ _ => rfl
  unfold State.setSwing
  exact ((ite (d.modBell.signal _) d.modBell).ringCrossing _).slotRunHears ..

theorem toStarting (h : s.ActsAt held b t) : s.ActsAt held b (t.toStarting b) := h.setSwing ..

theorem toSettling (h : s.ActsAt held b t) (quiet : Bool) : s.ActsAt held b (t.toSettling b quiet) := h.setSwing ..

theorem testRest (h : s.ActsAt held b t) : s.ActsAt held b (t.testRest b) := ite (h.toSettling _) h

theorem toStopping (h : s.ActsAt held b t) (cause : Option SwingCause) (quiet : Bool) :
    s.ActsAt held b (t.toStopping b cause quiet) := (h.setSwing ..).testRest

theorem toIdle (h : s.ActsAt held b t) (cause : Option SwingCause) (quiet : Bool) : s.ActsAt held b (t.toIdle b cause quiet) :=
  h.setSwing ..

theorem leaveLoadQueue (h : s.ActsAt held b t) : s.ActsAt held b (t.leaveLoadQueue b) := by
  have c : s.ActsAt held b (t.modLoad fun l => { l with queue := l.queue.filter fun e => e.bell != b }) :=
    h.modLoad fun _ mem _ => List.mem_of_mem_filter mem
  exact ite (c.signal _) c

theorem giveUp (h : s.ActsAt held b t) (cause : SwingCause) : s.ActsAt held b (t.giveUp b cause) := h.leaveLoadQueue.toIdle ..

theorem swingFaults (h : s.ActsAt held b t) (cause : SwingFault) : s.ActsAt held b (t.swingFaults b cause) :=
  (h.leaveLoadQueue.setSwing ..).raiseAll _

theorem bringDown (h : s.ActsAt held b t) (cause : SwingCause) : s.ActsAt held b (t.bringDown b cause) := by
  unfold State.bringDown
  split
  · exact h.toStopping ..
  · exact h.toStopping ..
  · exact h.giveUp cause
  · exact h.giveUp cause
  · exact h

theorem toParking (h : s.ActsAt held b t) (origin : Origin) (minutes : Option Nat) :
    s.ActsAt held b (t.toParking b origin minutes) := by
  unfold State.toParking
  exact ite (((h.setSwing ..).purge ..).signal _) ((h.setSwing ..).purge ..)

theorem joinLoadQueue (h : s.ActsAt held b t) : s.ActsAt held b (t.joinLoadQueue b) := by
  unfold State.joinLoadQueue
  dsimp only
  split
  · exact (h.toIdle ..).raiseFor ..
  · refine h.modLoad fun e mem other => ?_
    rcases List.mem_append.mp mem with old | new
    · exact old
    · exact absurd (congrArg LoadEntry.bell (List.mem_singleton.mp new)) other

theorem toWaitLoad (h : s.ActsAt held b t) : s.ActsAt held b (t.toWaitLoad b) := by
  have c := h.setSwing (fun r => { r with state := .waitLoad }) false
  unfold State.toWaitLoad
  dsimp only
  split
  · split
    · rename_i e
      exact (c.makeRoom e).toStarting
    · exact c.joinLoadQueue
  · exact c.joinLoadQueue

theorem hammerReported (h : s.ActsAt held b t) : s.ActsAt held b (t.hammerReported b) := by
  unfold State.hammerReported
  split
  · exact h.toWaitLoad
  · exact h.swingFaults _
  · exact ite h (h.swingFaults _)
  · exact ite h (h.swingFaults _)
  · exact ite h (h.swingFaults _)
  · exact h

theorem swingEdge (h : s.ActsAt held b t) : s.ActsAt held b (t.swingEdge b) := by
  have c := h.modSwingRec fun r => { r with lastPulse := some t.now }
  unfold State.swingEdge
  dsimp only
  split
  · exact c.modSwingRec _
  · exact c.modSwingRec _
  · exact c.testRest
  · exact ite (c.modSwingRec _) c
  · exact c

theorem swingRest (h : s.ActsAt held b t) : s.ActsAt held b (t.swingRest b) := by
  unfold State.swingRest
  split
  · exact h.testRest
  · exact ite h (h.toStopping ..)
  · exact h

theorem swingFirstState (h : s.ActsAt held b t) : s.ActsAt held b (t.swingFirstState b) :=
  ite (ite (h.toIdle ..) (ite (h.toSettling _) (h.toStopping ..))) h

/-! ## The claims -/

theorem setClaim (h : s.ActsAt held b t) (gone : ¬held) (c : Option Claim) : s.ActsAt held b (t.setClaim b c) :=
  h.trans { refl held b t with
    claims := fun k other => by rw [claim_setClaim, if_neg other]
    rope := fun x => absurd x gone }

theorem endClaim (h : s.ActsAt held b t) (gone : ¬held) : s.ActsAt held b (t.endClaim b) := by
  unfold State.endClaim
  split
  · exact ite ((h.setClaim gone _).changeDemands fun x => absurd x gone) (h.setClaim gone _)
  · exact h

theorem claimAtRest (h : s.ActsAt held b t) (gone : held → ∀ c, t.claim b = some c → c.releasing = false) :
    s.ActsAt held b (t.claimAtRest b) := by
  unfold State.claimAtRest
  split
  · rename_i c claimed
    split
    · rename_i releasing
      exact (h.endClaim fun x => by simp [gone x c claimed] at releasing).raise ..
    · exact h
  · exact h

end ActsAt

/-- A scan ends bell `b`'s claim where it is releasing and REST becomes true (R76). -/
def claimEnds (s : State) (old : BellRec) (b : Bell) : Prop :=
  (s.claim b).any Claim.releasing = true ∧ becameTrue old.rest.state (s.bell b).rest.state = true

/-- The changes of one bell's sensors act on that bell alone. -/
theorem deliverBell_actsAt (s : State) (old : BellRec) (b : Bell) : s.ActsAt (¬s.claimEnds old b) b (s.deliverBell old b) := by
  unfold deliverBell
  extract_lets new restChanged moved claimed edged
  have hammer : s.ActsAt (¬s.claimEnds old b) b moved := (ActsAt.refl _ b s).hammerSensors ..
  have claim : s.ActsAt (¬s.claimEnds old b) b claimed := by
    by_cases rises : becameTrue old.rest.state new.rest.state = true
    · simp only [claimed, if_pos rises]
      refine hammer.claimAtRest fun stays c has => ?_
      rw [(hammer.rope stays).2] at has
      exact Bool.eq_false_iff.mpr fun releasing => stays ⟨by simp [has, releasing], rises⟩
    · simpa only [claimed, if_neg rises] using hammer
  have edge : s.ActsAt (¬s.claimEnds old b) b edged := .ite claim.swingEdge claim
  exact .ite edge.swingRest edge

end Sys2Proof.Machine.State
end

section
/-! PROOFS. What the signals of an event keep: the properties of one bell that every delivery keeps, and the bell that no signal
reaches. -/

namespace Sys2Proof.Machine.State

/-- What holds of bell `b` is kept by the signals of an event: operations on the other bells keep it, and so do those on `b` that
a signal can come to. -/
structure KeptBySignals (b : Bell) (P : State → Prop) : Prop where
  away : ∀ {k : Bell} {s t : State}, k ≠ b → s.ActsAt True k t → P s → P t
  reported : ∀ {s : State}, P s → P (s.hammerReported b)
  starts : (∀ s, P s → ∀ e ∈ s.load.queue, e.bell ≠ b) ∨ (∀ s, P s → P (s.toStarting b))
  parks : (∀ s, P s → s.startRefusal b none ≠ none) ∨ (∀ s origin minutes, P s → P (s.toParking b origin minutes))

namespace KeptBySignals

variable {b : Bell} {P : State → Prop} {s t : State}

/-- An operation that acts on no bell keeps it. -/
theorem elsewhere (kept : KeptBySignals b P) (h : ∀ k, s.ActsAt True k t) (p : P s) : P t := by
  obtain ⟨k, other⟩ := exists_ne b
  exact kept.away other (h k) p

theorem admitHeads (kept : KeptBySignals b P) (n : Nat) (p : P s) : P (s.admitHeads n) := by
  induction n generalizing s with
  | zero => exact p
  | succ n ih =>
    unfold State.admitHeads
    split
    · exact p
    · rename_i e rest queue
      split
      · rename_i u room
        have made : P u := kept.elsewhere (fun k => (ActsAt.refl True k s).makeRoom room) p
        have same : u.load.queue = e :: rest := by
          have frame : s.changesOnly [.lights, .link] u := makeRoom_within (changesOnly.refl _ _) (List.Subset.refl _) room
          exact (congrArg Load.queue (frame .load (by decide))).trans queue
        have left : P (u.modLoad fun l => { l with queue := rest }) :=
          kept.elsewhere (fun k => (ActsAt.refl True k u).modLoad fun x mem _ => same ▸ List.mem_cons_of_mem e mem) made
        refine ih ?_
        by_cases here : e.bell = b
        · rcases kept.starts with none | starts
          · exact absurd here (none u made e (same ▸ List.mem_cons_self))
          · rw [here]
            exact starts _ left
        · exact kept.away here (ActsAt.refl True e.bell _).toStarting left
      · exact p

theorem takeBells (kept : KeptBySignals b P) (id : Nat) (bs : List Bell) (p : P s) : P (s.takeBells id bs) := by
  have changed {u : State} (f : SlotRun → SlotRun) (p : P u) : P (u.modRun id f) :=
    kept.elsewhere (fun k => (ActsAt.refl True k u).modSwing) p
  induction bs generalizing s with
  | nil => exact changed _ p
  | cons c bs ih =>
    unfold State.takeBells
    split
    · exact ih (kept.elsewhere (fun k => (ActsAt.refl True k _).raiseAll _) (changed _ p))
    · rename_i free
      by_cases here : c = b
      · subst here
        rcases kept.parks with refused | parks
        · exact absurd free (refused s p)
        · exact parks _ _ _ (changed _ p)
      · exact kept.away here ((ActsAt.refl True c _).toParking ..) (changed _ p)

theorem deliver (kept : KeptBySignals b P) (x : Signal) (p : P s) : P (State.deliver x s) := by
  cases x with
  | hammer k =>
    by_cases here : k = b
    · subst here
      exact kept.reported p
    · exact kept.away here (ActsAt.refl True k s).hammerReported p
  | loadFell => exact kept.elsewhere (fun k => (ActsAt.refl True k _).restoreLights) (kept.admitHeads _ p)
  | slotNext id =>
    change P (s.slotNext id)
    unfold State.slotNext
    split
    · exact kept.takeBells _ _ (kept.elsewhere (fun k => (ActsAt.refl True k s).modSwing) p)
    · exact p

theorem settleFor (kept : KeptBySignals b P) (n : Nat) (p : P s) : P (s.settleFor n) := by
  induction n generalizing s with
  | zero => exact p
  | succ n ih =>
    unfold State.settleFor
    split
    · exact p
    · exact ih (kept.deliver _ (kept.elsewhere (fun k => (ActsAt.refl True k s).takeSignal _) p))

end KeptBySignals

/-! ## The sensors and the claims -/

/-- The time, the hammer slots and the sensors of all bells are in `t` as in `s`; where `held`, so are their claims and ROPE
demands. -/
structure KeepsInputs (held : Prop) (s t : State) : Prop where
  tk : t.tk = s.tk
  slots : t.engine.slots = s.engine.slots
  lockout : t.bells.lockout = s.bells.lockout
  mains : t.bells.mains = s.bells.mains
  image : t.bells.imageValid = s.bells.imageValid
  sensors : ∀ b, (t.bell b).sensors = (s.bell b).sensors
  rope : held → ∀ b, (t.bell b).demands.rope = (s.bell b).demands.rope ∧ t.claim b = s.claim b

namespace KeepsInputs

variable {held : Prop} {s t u : State}

theorem refl (held : Prop) (s : State) : s.KeepsInputs held s := ⟨rfl, rfl, rfl, rfl, rfl, fun _ => rfl, fun _ _ => ⟨rfl, rfl⟩⟩

theorem trans (h : s.KeepsInputs held t) (g : t.KeepsInputs held u) : s.KeepsInputs held u :=
  ⟨g.tk.trans h.tk, g.slots.trans h.slots, g.lockout.trans h.lockout, g.mains.trans h.mains, g.image.trans h.image,
    fun b => (g.sensors b).trans (h.sensors b),
    fun x b => ⟨(g.rope x b).1.trans (h.rope x b).1, (g.rope x b).2.trans (h.rope x b).2⟩⟩

theorem weaken (h : s.KeepsInputs True t) : s.KeepsInputs held t := { h with rope := fun _ => h.rope trivial }

theorem of_actsAt {b : Bell} (h : s.ActsAt held b t) : s.KeepsInputs held t := by
  refine ⟨h.tk, h.slots, h.lockout, h.mains, h.image, fun k => ?_, fun x k => ?_⟩ <;> by_cases here : k = b
  · exact here ▸ h.sensors
  · rw [h.bells k here]
  · exact here ▸ h.rope x
  · exact ⟨by rw [h.bells k here], h.claims k here⟩

theorem foldl {f : State → α → State} (hf : ∀ (u : State) a, u.KeepsInputs held (f u a)) (h : s.KeepsInputs held t) (as : List α) :
    s.KeepsInputs held (as.foldl f t) :=
  List.foldlRecOn (motive := s.KeepsInputs held) as f h fun u g a _ => g.trans (hf u a)

/-- The signals of an event change no sensor, and end no claim. -/
theorem settleFor (n : Nat) (s : State) : s.KeepsInputs True (s.settleFor n) :=
  KeptBySignals.settleFor (b := 0) (P := s.KeepsInputs True)
    { away := fun _ acts p => p.trans (of_actsAt acts)
      reported := fun p => p.trans (of_actsAt (ActsAt.refl True 0 _).hammerReported)
      starts := .inr fun t p => p.trans (of_actsAt (ActsAt.refl True 0 t).toStarting)
      parks := .inr fun t _ _ p => p.trans (of_actsAt ((ActsAt.refl True 0 t).toParking ..)) } n (refl True s)

theorem settle (s : State) : s.KeepsInputs True s.settle := settleFor _ s

end KeepsInputs

/-! ## One bell among the others -/

/-- Nothing of bell `b` differs from `s` to `t`, and it has not joined the load queue. -/
structure Apart (b : Bell) (s t : State) : Prop where
  tk : t.tk = s.tk
  slots : t.engine.slots = s.engine.slots
  lockout : t.bells.lockout = s.bells.lockout
  bell : t.bell b = s.bell b
  swing : t.swingRec b = s.swingRec b
  claim : t.claim b = s.claim b
  queue : ∀ e ∈ t.load.queue, e.bell = b → e ∈ s.load.queue

namespace Apart

variable {b : Bell} {s t u : State}

theorem refl (b : Bell) (s : State) : Apart b s s := ⟨rfl, rfl, rfl, rfl, rfl, rfl, fun _ h _ => h⟩

theorem trans (h : Apart b s t) (g : Apart b t u) : Apart b s u :=
  ⟨g.tk.trans h.tk, g.slots.trans h.slots, g.lockout.trans h.lockout, g.bell.trans h.bell, g.swing.trans h.swing,
    g.claim.trans h.claim, fun e mem here => h.queue e (g.queue e mem here) here⟩

theorem of_actsAt {held : Prop} {k : Bell} (other : k ≠ b) (h : s.ActsAt held k t) : Apart b s t :=
  ⟨h.tk, h.slots, h.lockout, h.bells b other.symm, h.swings b other.symm, h.claims b other.symm,
    fun e mem here => h.queue e mem fun same => other (same.symm.trans here)⟩

/-- Operations on each bell of a list in turn: bell `b` sees its own only. -/
theorem foldl_bells {f : State → Bell → State} (acts : ∀ (u : State) k, ∃ held, u.ActsAt held k (f u k)) {l : List Bell} (nodup : l.Nodup)
    (mem : b ∈ l) (s : State) : ∃ u, Apart b s u ∧ Apart b (f u b) (l.foldl f s) := by
  have others (l : List Bell) (out : b ∉ l) (s : State) : Apart b s (l.foldl f s) := by
    refine List.foldlRecOn (motive := Apart b s) l f (refl b s) fun u h k mem => ?_
    obtain ⟨held, act⟩ := acts u k
    exact h.trans (of_actsAt (fun e => out (e ▸ mem)) act)
  obtain ⟨l₁, l₂, rfl⟩ := List.append_of_mem mem
  obtain ⟨-, nodup₂, distinct⟩ := List.nodup_append.mp nodup
  refine ⟨l₁.foldl f s, others l₁ (fun h => distinct b h b List.mem_cons_self rfl) s, ?_⟩
  rw [List.foldl_append, List.foldl_cons]
  exact others l₂ (List.nodup_cons.mp nodup₂).1 _

theorem foldl_allBells {f : State → Bell → State} (acts : ∀ (u : State) k, ∃ held, u.ActsAt held k (f u k)) (b : Bell) (s : State) :
    ∃ u, Apart b s u ∧ Apart b (f u b) (allBells.foldl f s) :=
  foldl_bells acts (List.nodup_finRange 24) (List.mem_finRange b) s

theorem demanded (h : Apart b s t) : t.demanded b = s.demanded b := by simp only [State.demanded, h.bell]

theorem config (h : Apart b s t) : t.config b = s.config b := by simp only [State.config, h.bell]

theorem now (h : Apart b s t) : t.now = s.now := congrArg Timekeeper.runCount h.tk

theorem swingState (h : Apart b s t) : t.swingState b = s.swingState b := congrArg SwingRec.state h.swing

theorem pulsing (h : Apart b s t) : t.pulsing b = s.pulsing b := by simp only [State.pulsing, h.slots]

theorem startRefusal (h : Apart b s t) (origin : Option Port) : t.startRefusal b origin = s.startRefusal b origin := by
  unfold State.startRefusal State.config State.swingState State.lockedOut
  rw [h.bell, h.swing, h.claim, h.lockout]

end Apart

/-! ## A bell that no signal reaches -/

/-- No signal can reach bell `b`: it neither swings nor waits to, it stands in no queue, and no slot run can start it. -/
structure Rests (s : State) (b : Bell) : Prop where
  down : (s.swingState b).bringsDown = false
  refused : s.startRefusal b none ≠ none
  out : ∀ e ∈ s.load.queue, e.bell ≠ b

/-- A bell in a swing state but IDLE cannot be started. -/
theorem startRefusal_of_busy {s : State} {b : Bell} (h : s.swingState b ≠ .idle) (origin : Option Port) :
    s.startRefusal b origin ≠ none := by
  have busy : (s.swingState b != .idle) = true := bne_iff_ne.mpr h
  unfold startRefusal
  simp only [busy, if_true]
  split <;> (try split) <;> simp

/-- A hammer is of no account to a bell that neither swings nor waits to (R61). -/
theorem hammerReported_of_down {s : State} {b : Bell} (h : (s.swingState b).bringsDown = false) : s.hammerReported b = s := by
  unfold hammerReported
  cases state : s.swingState b <;> simp_all [SwingState.bringsDown]

namespace Rests

variable {s t : State} {b : Bell}

theorem apart (h : s.Rests b) (g : Apart b s t) : t.Rests b :=
  ⟨g.swingState ▸ h.down, g.startRefusal none ▸ h.refused, fun e mem here => h.out e (g.queue e mem here) here⟩

theorem kept (h : s.Rests b) : KeptBySignals b (Apart b s) where
  away other acts p := p.trans (.of_actsAt other acts)
  reported p := by rwa [hammerReported_of_down (h.apart p).down]
  starts := .inl fun _ p => (h.apart p).out
  parks := .inl fun _ p => (h.apart p).refused

/-- The signals of an event leave a bell that they cannot reach. -/
theorem settleFor (h : s.Rests b) (n : Nat) : Apart b s (s.settleFor n) := h.kept.settleFor n (.refl b s)

theorem settle (h : s.Rests b) : Apart b s s.settle := h.settleFor _

end Rests

/-! ## Signals that no block takes up -/

/-- Signals that report hammers of bells that neither swing nor wait to are delivered without any effect. -/
theorem settleFor_of_down {s : State} (h : ∀ x ∈ s.signals, ∃ b, x = .hammer b ∧ (s.swingState b).bringsDown = false) (n : Nat) :
    s.settleFor n = { s with signals := s.signals.drop n } := by
  induction n generalizing s with
  | zero => rfl
  | succ n ih =>
    cases signals : s.signals with
    | nil =>
      rw [settleFor_of_quiet signals, List.drop_nil]
      exact congrArg (fun l => { s with signals := l }) signals
    | cons x rest =>
      obtain ⟨b, rfl, down⟩ := h x (signals ▸ List.mem_cons_self)
      have delivered : deliver (.hammer b) { s with signals := rest } = { s with signals := rest } := hammerReported_of_down down
      rw [settleFor_cons signals, delivered]
      exact ih (s := { s with signals := rest }) fun y mem => h y (signals ▸ List.mem_cons_of_mem _ mem)

theorem settle_of_down {s : State} (h : ∀ x ∈ s.signals, ∃ b, x = .hammer b ∧ (s.swingState b).bringsDown = false) :
    s.settle = { s with signals := s.signals.drop Config.signalLimit } := settleFor_of_down h _

end Sys2Proof.Machine.State
end

section
/-! PROOFS. The park machine of one hammer (R54 to R60): the state that each entry leads to, the record it leaves, and the changes
of the demand set. -/

namespace Sys2Proof.Machine.State

/-! ## Blocks and signals -/

/-- A block that is as it was is none of those that may differ. -/
theorem changesOnly.without {L : List Block} {b : Block} {s t : State} (h : s.changesOnly (b :: L) t) (same : s.sameBlock t b) :
    s.changesOnly L t := by
  intro x out
  by_cases here : x = b
  · exact here ▸ same
  · exact h x fun mem => (List.mem_cons.mp mem).elim here out

/-- Reports of a hammer whose bell neither swings nor waits to are delivered without any effect. -/
theorem settle_of_hammers {s : State} {b : Bell} {n : Nat} (signals : s.signals = List.replicate n (.hammer b))
    (few : n ≤ 4) (down : (s.swingState b).bringsDown = false) : s.settle = { s with signals := [] } := by
  have none : s.signals.drop Config.signalLimit = [] := by
    rw [signals, List.drop_eq_nil_iff, List.length_replicate]
    exact few.trans (by decide)
  rw [settle_of_down fun x mem => ⟨b, List.eq_of_mem_replicate (signals ▸ mem), down⟩, none]

/-! ## The record of a hammer that takes a state -/

theorem bell_setHammer (s : State) (b : Bell) (x : Hammer) (timer : Option Nat) (quiet : Bool) :
    (s.setHammer b x timer quiet).bell b =
      { s.bell b with hammer := some x, timer := timer, motor := (s.bell b).motor && x == .parked } := by
  refine Eq.trans ?_ ((bell_modBell b b (fun r => { r with hammer := some x, timer := timer, motor := r.motor && x == .parked })
    s).trans (if_pos rfl))
  cases quiet <;> rfl

theorem setHammer_signals (s : State) (b : Bell) (x : Hammer) (timer : Option Nat) (quiet : Bool) :
    (s.setHammer b x timer quiet).signals = s.signals ++ [.hammer b] := by
  cases quiet <;> rfl

theorem bell_faultHammer (s : State) (b : Bell) (c : HammerCause) (quiet : Bool) :
    (s.faultHammer b c quiet).bell b =
      { s.bell b with hammer := some .fault, timer := none, motor := false, cause := some c } := by
  refine ((bell_modBell b b (fun r => { r with cause := some c }) (s.setHammer b .fault none quiet)).trans (if_pos rfl)).trans ?_
  rw [bell_setHammer]
  simp

theorem faultHammer_signals (s : State) (b : Bell) (c : HammerCause) (quiet : Bool) :
    (s.faultHammer b c quiet).signals = s.signals ++ [.hammer b] := s.setHammer_signals b .fault none quiet

/-- The hammer of bell `b` has gone over in `t` to state `x`, with a cause, in at most two steps: its timer runs in PARKING and
UNPARKING only, a motor stays enabled in PARKED only, and BELL has been raised (R55 to R61). -/
structure HammerTakes (b : Bell) (x : Hammer) (cause : Option HammerCause) (s t : State) : Prop where
  only : s.changesOnly [.signals, .bells, .link] t
  acts : s.ActsAt True b t
  record : t.bell b =
    { s.bell b with
      hammer := some x
      timer := if x = .parking ∨ x = .unparking then s.parkTimer b else none
      motor := (s.bell b).motor && x == .parked
      cause := cause }
  notice : t.noticedAll .bell
  faults : x = .fault → t.noticedAll .fault
  signals : ∃ n, n ≤ 1 ∧ t.signals = s.signals ++ List.replicate (n + 1) (.hammer b)

section

variable {s t : State} {b : Bell}

theorem setHammer_takes {x : Hammer} {timer : Option Nat} (sound : x ≠ .fault)
    (runs : timer = if x = .parking ∨ x = .unparking then s.parkTimer b else none) :
    HammerTakes b x (s.bell b).cause s (s.setHammer b x timer false) where
  only := setHammer_within (changesOnly.refl _ s) (by decide) b x timer false
  acts := (ActsAt.refl True b s).setHammer ..
  record := by rw [bell_setHammer, ← runs]
  notice := noticed_raiseAll _ .bell
  faults e := absurd e sound
  signals := ⟨0, Nat.zero_le _, setHammer_signals ..⟩

theorem faultHammer_takes (s : State) (b : Bell) (c : HammerCause) :
    HammerTakes b .fault (some c) s (s.faultHammer b c false) where
  only := faultHammer_within (changesOnly.refl _ s) (by decide) b c false
  acts := (ActsAt.refl True b s).faultHammer ..
  record := by simp [bell_faultHammer]
  notice := (((Keeps.refl _).modBell b).raiseAll .fault).noticedAll (noticed_raiseAll _ .bell)
  faults _ := noticed_raiseAll _ .fault
  signals := ⟨0, Nat.zero_le _, faultHammer_signals ..⟩

/-! ## The entries -/

/-- The state that an entry to UNPARKING leads to (R57 to R59). -/
def unparkingState (s : State) (b : Bell) : Hammer :=
  if s.sensorConflict b then .fault
  else if (s.bell b).park.state = some false ∧ (s.bell b).home.state = some true then .ready else .unparking

/-- The state that an entry to PARKED leads to (R56, R57, R59). -/
def parkedState (s : State) (b : Bell) : Hammer :=
  if s.sensorConflict b then .fault
  else if s.demanded b = false ∧ (s.bell b).rest.state = some true then s.unparkingState b else .parked

/-- The state that an entry to PARKING leads to (R55, R56, R59). -/
def parkingState (s : State) (b : Bell) : Hammer :=
  if s.sensorConflict b then .fault else if (s.bell b).park.state = some true then s.parkedState b else .parking

/-- The cause that stands after an entry that leads to `x`: SENSOR-CONFLICT in FAULT, else the cause that stood (R59). -/
def enteredCause (s : State) (b : Bell) (x : Hammer) : Option HammerCause :=
  if x = .fault then some .sensorConflict else (s.bell b).cause

/-- The entry to state `x` that the sensors decide has been made. -/
def Entered (b : Bell) (x : Hammer) (s t : State) : Prop := HammerTakes b x (s.enteredCause b x) s t

theorem entered_conflict (s : State) (b : Bell) : Entered b .fault s (s.faultHammer b .sensorConflict false) :=
  faultHammer_takes s b .sensorConflict

theorem entered_setHammer {x : Hammer} {timer : Option Nat} (sound : x ≠ .fault)
    (runs : timer = if x = .parking ∨ x = .unparking then s.parkTimer b else none) :
    Entered b x s (s.setHammer b x timer false) := by
  unfold Entered enteredCause
  rw [if_neg sound]
  exact setHammer_takes sound runs

theorem sensorConflict_iff : s.sensorConflict b = true ↔ (s.bell b).home.state = some true ∧ (s.bell b).park.state = some true := by
  simp [sensorConflict]

theorem enterUnparking_entered (s : State) (b : Bell) : Entered b (s.unparkingState b) s (s.enterUnparking b false) := by
  unfold unparkingState enterUnparking
  by_cases conflict : s.sensorConflict b = true
  · simp only [conflict, if_true]
    exact entered_conflict s b
  · simp only [conflict, Bool.false_eq_true, if_false, Bool.and_eq_true, beq_iff_eq]
    split
    · exact entered_setHammer (by decide) rfl
    · exact entered_setHammer (by decide) rfl

/-- The hammer passes through PARKED. -/
theorem Entered.through_parked {x : Hammer} (h : Entered b x (s.setHammer b .parked none false) t)
    (once : t.signals = (s.setHammer b .parked none false).signals ++ [.hammer b]) : Entered b x s t := by
  have parked := setHammer_takes (s := s) (b := b) (x := .parked) (timer := none) (by decide) rfl
  obtain ⟨only, acts, record, notice, faults, -⟩ := h
  refine ⟨parked.only.trans only, parked.acts.trans acts, ?_, notice, faults, 1, le_refl _, ?_⟩
  · have timer : (s.setHammer b .parked none false).parkTimer b = s.parkTimer b := by
      unfold parkTimer config
      rw [parked.record]
      rfl
    rw [record, timer]
    unfold enteredCause
    rw [parked.record]
    simp
  · rw [once, setHammer_signals, List.append_assoc]
    rfl

theorem enterUnparking_signals (s : State) (b : Bell) (quiet : Bool) :
    (s.enterUnparking b quiet).signals = s.signals ++ [.hammer b] := by
  unfold enterUnparking
  split
  · exact faultHammer_signals ..
  split
  · exact setHammer_signals ..
  · exact setHammer_signals ..

theorem enterParked_entered (s : State) (b : Bell) : Entered b (s.parkedState b) s (s.enterParked b false) := by
  have record := s.bell_setHammer b .parked none false
  have same : (s.setHammer b .parked none false).unparkingState b = s.unparkingState b := by
    unfold unparkingState sensorConflict
    rw [record]
  have demand : (s.setHammer b .parked none false).demanded b = s.demanded b := by
    unfold demanded
    rw [record]
  unfold parkedState enterParked
  by_cases conflict : s.sensorConflict b = true
  · simp only [conflict, if_true]
    exact entered_conflict s b
  · simp only [conflict, Bool.false_eq_true, if_false, demand, record, Bool.and_eq_true, Bool.not_eq_true', beq_iff_eq]
    split
    · exact .through_parked (same ▸ enterUnparking_entered ..) (enterUnparking_signals ..)
    · exact entered_setHammer (by decide) rfl

theorem enterParking_entered (s : State) (b : Bell) : Entered b (s.parkingState b) s (s.enterParking b) := by
  unfold parkingState enterParking
  by_cases conflict : s.sensorConflict b = true
  · simp only [conflict, if_true]
    exact entered_conflict s b
  · simp only [conflict, Bool.false_eq_true, if_false, beq_iff_eq]
    split
    · exact enterParked_entered s b
    · exact entered_setHammer (by decide) rfl

/-! ## The demand set -/

/-- The hammer of bell `b` does not act on its demand set becoming that of `f` (R54 to R58). -/
def HammerIgnores (s : State) (b : Bell) (f : Demands → Demands) : Prop :=
  ((s.bell b).hammer ≠ some .ready ∧ (s.bell b).hammer ≠ some .parked ∧ (s.bell b).hammer ≠ some .unparking) ∨
    s.demanded b = !(f (s.bell b).demands).isEmpty

/-- Bell `b`'s demand set changed, and nothing else. -/
def withDemands (b : Bell) (f : Demands → Demands) (s : State) : State := s.modBell b fun r => { r with demands := f r.demands }

theorem bell_withDemands (s : State) (b : Bell) (f : Demands → Demands) :
    (s.withDemands b f).bell b = { s.bell b with demands := f (s.bell b).demands } := by
  rw [withDemands, bell_modBell, if_pos rfl]

theorem demanded_withDemands (s : State) (b : Bell) (f : Demands → Demands) :
    (s.withDemands b f).demanded b = !(f (s.bell b).demands).isEmpty := by rw [demanded, bell_withDemands]

/-- What a change of the demand set comes to (R54, R55, R57, R58). -/
theorem changeDemands_eq (s : State) (b : Bell) (f : Demands → Demands) : s.changeDemands b f =
    if s.demanded b = false ∧ (f (s.bell b).demands).isEmpty = false ∧
        ((s.bell b).hammer = some .ready ∧ s.pulsing b = false ∨ (s.bell b).hammer = some .unparking) then
      (s.withDemands b f).enterParking b
    else if s.demanded b = true ∧ (f (s.bell b).demands).isEmpty = true ∧ (s.bell b).hammer = some .parked ∧
        (s.bell b).rest.state = some true then
      (s.withDemands b f).enterUnparking b false
    else s.withDemands b f := by
  have record := s.bell_withDemands b f
  have after := s.demanded_withDemands b f
  have still : (s.withDemands b f).pulsing b = s.pulsing b := rfl
  unfold changeDemands
  extract_lets before t
  have same : s.withDemands b f = t := rfl
  rw [same] at record after still ⊢
  have hammer : (t.bell b).hammer = (s.bell b).hammer := by rw [record]
  have rest : (t.bell b).rest = (s.bell b).rest := by rw [record]
  have empty : (f (s.bell b).demands).isEmpty = !t.demanded b := by rw [after, Bool.not_not]
  rw [empty, ← hammer, ← rest, ← still]
  simp only [before, beq_iff_eq]
  clear_value t
  split
  · rename_i none some ready
    simp only [none, some, ready]
    split <;> simp_all
  · rename_i none some unparking
    simp [none, some, unparking]
  · rename_i some none parked
    simp [none, some, parked]
  · rename_i ready unparking parked
    rw [if_neg, if_neg]
    · rintro ⟨some, none, is, -⟩
      exact parked some (by simpa using none) is
    · rintro ⟨none, some, is⟩
      rcases is with ⟨is, -⟩ | is
      · exact ready none (by simpa using some) is
      · exact unparking none (by simpa using some) is

theorem changeDemands_ignored {f : Demands → Demands} (h : s.HammerIgnores b f) : s.changeDemands b f = s.withDemands b f := by
  rw [changeDemands_eq, if_neg, if_neg]
  · rintro ⟨before, after, parked, -⟩
    rcases h with ⟨-, not, -⟩ | same
    · exact not parked
    · rw [before, after] at same
      cases same
  · rintro ⟨before, after, acts⟩
    rcases h with ⟨ready, -, unparking⟩ | same
    · exact acts.elim (fun x => ready x.1) unparking
    · rw [before, after] at same
      cases same

/-- A demand sends a READY hammer that no pulse drives, and an UNPARKING one, to PARKING (R55, R58). -/
theorem changeDemands_parks {f : Demands → Demands} (before : s.demanded b = false) (after : (f (s.bell b).demands).isEmpty = false)
    (hammer : (s.bell b).hammer = some .ready ∧ s.pulsing b = false ∨ (s.bell b).hammer = some .unparking) :
    s.changeDemands b f = (s.withDemands b f).enterParking b := by
  rw [changeDemands_eq, if_pos ⟨before, after, hammer⟩]

/-- The last demand gone, a PARKED hammer whose bell is at rest unparks (R57). -/
theorem changeDemands_unparks {f : Demands → Demands} (before : s.demanded b = true) (after : (f (s.bell b).demands).isEmpty = true)
    (hammer : (s.bell b).hammer = some .parked) (rest : (s.bell b).rest.state = some true) :
    s.changeDemands b f = (s.withDemands b f).enterUnparking b false := by
  rw [changeDemands_eq, if_neg (by simp [before]), if_pos ⟨before, after, hammer, rest⟩]

end

end Sys2Proof.Machine.State
end

section
/-! PROOFS. SET-BELL (R46 to R48) and CLEAR-FAULT of a hammer (R60). -/

namespace Sys2Proof.Machine

namespace State

/-! ## The park machine on a bell that neither swings nor waits to -/

section

variable {s t u : State} {b : Bell} {x : Hammer} {cause : Option HammerCause}

/-- The report of a hammer has no effect on such a bell, and nothing but the bell table and the notices has changed. -/
theorem HammerTakes.settle (h : HammerTakes b x cause s t) (quiet : s.signals = []) (down : (s.swingState b).bringsDown = false) :
    t.settle = { t with signals := [] } := by
  obtain ⟨n, few, signals⟩ := h.signals
  rw [quiet, List.nil_append] at signals
  have state : t.swingState b = s.swingState b :=
    congrArg (fun w : Swing => (w.recs.get b).state) (h.only .swing (by decide))
  exact settle_of_hammers signals (by omega) (state ▸ down)

/-- What an answered request leaves of the part, whose owner has moved the hammer of a bell from state `u` of the part on. -/
theorem HammerTakes.answered {p : Port} (h : HammerTakes b x cause u t) (quiet : s.signals = [])
    (down : (s.swingState b).bringsDown = false) (before : s.changesOnly [.bells, .link] u)
    (others : ∀ k, k ≠ b → u.bell k = s.bell k) (code : Byte) (l : List Byte) :
    ∃ v, respond p code (t.settle.ok l) = v ∧ s.changesOnly [.bells, .link] v ∧ (∀ k, k ≠ b → v.bell k = s.bell k) ∧
      v.noticedAll .bell ∧ v.bell b = t.bell b ∧ v.responds p code .ok l := by
  have quiet' : u.signals = [] := (before .signals (by decide)).trans quiet
  have state : u.swingState b = s.swingState b :=
    congrArg (fun w : Swing => (w.recs.get b).state) (before .swing (by decide))
  rw [h.settle quiet' (state ▸ down)]
  refine ⟨_, rfl, ?_, fun k other => (h.acts.bells k other).trans (others k other), ?_, rfl, responds_respond ..⟩
  · have owned : s.changesOnly [.signals, .bells, .link] t := (before.mono (by decide)).trans h.only
    have cleared := clearSignals_within owned (by decide) []
    exact (respond_within (a := ok l { t with signals := [] }) cleared (by decide) p code).without quiet.symm
  · exact noticedAll_respond (a := ok l { t with signals := [] }) h.notice p code

end

/-! ## SET-BELL -/

section

variable {s : State} {b : Bell} {c : BellConfig}

theorem bellBusy_iff : s.bellBusy b c = true ↔
    s.swingState b ≠ .idle ∨
      (c.hammer ≠ (s.config b).hammer ∧
        ((s.bell b).hammer = some .parking ∨ (s.bell b).hammer = some .unparking ∨ s.pulsing b = true)) ∨
      ((c.lead ≠ (s.config b).lead ∨ c.recovery ≠ (s.config b).recovery ∨ c.widths ≠ (s.config b).widths) ∧
        (s.pulsing b = true ∨ ∃ e ∈ s.engine.queue, e.bell = b)) := by
  simp only [bellBusy, config, Bool.or_eq_true, Bool.and_eq_true, bne_iff_ne, beq_iff_eq, List.any_eq_true, or_assoc]

/-- The bell's configuration part replaced. -/
def withConfig (b : Bell) (c : BellConfig) (s : State) : State := s.modBell b fun r => { r with config := c }

theorem bell_withConfig (s : State) (b : Bell) (c : BellConfig) : (s.withConfig b c).bell b = { s.bell b with config := c } := by
  rw [withConfig, bell_modBell, if_pos rfl]

theorem bell_withConfig_of_ne (s : State) {b k : Bell} (other : k ≠ b) (c : BellConfig) :
    (s.withConfig b c).bell k = s.bell k := by
  rw [withConfig, bell_modBell, if_neg other]

theorem ownSetBell_busy (h : s.bellBusy b c = true) : ownSetBell (b, c) s = s.refuse .busy := if_pos h

/-- Where no hammer is fitted or unfitted, the configuration is replaced and that is all (R47). -/
theorem ownSetBell_replaces (h : s.bellBusy b c = false) (same : c.hammer = (s.config b).hammer) (quiet : s.signals = []) :
    ownSetBell (b, c) s = (s.withConfig b c).ok (wHammer (s.bell b).hammer) := by
  have settled : (s.withConfig b c).settle = s.withConfig b c := settle_of_quiet quiet
  unfold ownSetBell
  simp only [h, same, Bool.false_eq_true, if_false, Bool.and_not_self, Bool.not_and_self]
  change ok (wHammer ((s.withConfig b c).settle.bell b).hammer) (s.withConfig b c).settle = _
  rw [settled, bell_withConfig]

theorem ownSetBell_unfits (h : s.bellBusy b c = false) (now : c.hammer = false) (was : (s.config b).hammer = true) :
    ownSetBell (b, c) s =
      ((s.withConfig b c).unfitHammer b).settle.ok (wHammer (((s.withConfig b c).unfitHammer b).settle.bell b).hammer) := by
  unfold ownSetBell
  simp only [h, now, was, Bool.false_eq_true, if_false, Bool.not_false, Bool.and_self, if_true]
  rfl

theorem ownSetBell_fits (h : s.bellBusy b c = false) (now : c.hammer = true) (was : (s.config b).hammer = false) :
    ownSetBell (b, c) s =
      ((s.withConfig b c).fitHammer b).settle.ok (wHammer (((s.withConfig b c).fitHammer b).settle.bell b).hammer) := by
  unfold ownSetBell
  simp only [h, now, was, Bool.false_eq_true, if_false, Bool.not_false, Bool.and_self, Bool.false_and, if_true]
  rfl

/-- The state that a hammer just fitted takes, by its demands and sensors (R48). -/
def fittedState (s : State) (b : Bell) : Hammer := if s.demanded b then s.parkingState b else s.unparkingState b

theorem fitHammer_entered (s : State) (b : Bell) : Entered b (s.fittedState b) s (s.fitHammer b) := by
  unfold fittedState fitHammer
  split
  · exact enterParking_entered s b
  · exact enterUnparking_entered s b

/-- The state of a hammer just fitted, condition by condition: with a demand it stays where PARK is true. -/
theorem fittedState_eq (s : State) (b : Bell) : s.fittedState b =
    if (s.bell b).park.state = some true ∧ (s.bell b).home.state = some true then .fault
    else if s.demanded b then (if (s.bell b).park.state = some true then .parked else .parking)
    else if (s.bell b).park.state = some false ∧ (s.bell b).home.state = some true then .ready else .unparking := by
  unfold fittedState parkingState parkedState unparkingState
  by_cases conflict : s.sensorConflict b = true
  · have both := sensorConflict_iff.mp conflict
    simp only [conflict, if_true, both.1, both.2, and_self, ite_self]
  · have both : ¬((s.bell b).park.state = some true ∧ (s.bell b).home.state = some true) :=
      fun x => conflict (sensorConflict_iff.mpr x.symm)
    rw [if_neg both]
    by_cases demand : s.demanded b = true <;> simp [conflict, demand]

/-- A hammer unfitted is ABSENT, and its bell's entries leave the queue (R48). -/
theorem unfitHammer_settles (quiet : s.signals = []) (down : (s.swingState b).bringsDown = false) :
    s.changesOnly [.bells, .engine, .players, .clavier, .link] (s.unfitHammer b).settle ∧
      (s.unfitHammer b).settle.bell b =
        { s.bell b with hammer := some .absent, timer := none, motor := false, cause := none } ∧
      (∀ k, k ≠ b → (s.unfitHammer b).settle.bell k = s.bell k) ∧ (s.unfitHammer b).settle.noticedAll .bell ∧
      (s.unfitHammer b).settle.engine.queue = s.engine.queue.filter fun e => e.bell != b := by
  have takes := setHammer_takes (s := s) (b := b) (x := .absent) (timer := none) (by decide) rfl
  have only : s.changesOnly [.signals, .bells, .engine, .players, .clavier, .link] (s.setHammer b .absent none false) :=
    takes.only.mono (by decide)
  have frame : s.changesOnly [.signals, .bells, .engine, .players, .clavier, .link] (s.unfitHammer b) :=
    purge_within (modBell_within only (by decide) b fun r => { r with cause := none }) (by decide) _ _
  have purged := purge_within (changesOnly.refl _ ((s.setHammer b .absent none false).modBell b fun r => { r with cause := none }))
    (List.Subset.refl _) (fun e => e.bell == b) .interlock
  have signals : (s.unfitHammer b).signals = List.replicate 1 (.hammer b) := by
    refine (purged .signals (by decide)).trans ?_
    exact (setHammer_signals ..).trans (by rw [quiet]; rfl)
  have state : (s.unfitHammer b).swingState b = s.swingState b :=
    congrArg (fun w : Swing => (w.recs.get b).state) (frame .swing (by decide))
  have table (k : Bell) : (s.unfitHammer b).bell k =
      ((s.setHammer b .absent none false).modBell b fun r => { r with cause := none }).bell k :=
    congrArg (fun x : BellTable => x.bells.get k) (purged .bells (by decide))
  rw [settle_of_hammers signals (by decide) (state ▸ down)]
  refine ⟨(clearSignals_within frame (by decide) []).without quiet.symm, ?_, fun k other => ?_, ?_, ?_⟩
  · refine (table b).trans ?_
    rw [bell_modBell, if_pos rfl, bell_setHammer]
    simp
  · refine (table k).trans ?_
    rw [bell_modBell, if_neg other, takes.acts.bells k other]
  · exact (((Keeps.refl _).modBell b).purge ..).noticedAll takes.notice
  · refine (purge_queue ..).trans ?_
    exact congrArg (List.filter fun e => e.bell != b) (congrArg Engine.queue (takes.only .engine (by decide)))

end

end State

/-- Settles O28: the owner of SET-BELL refuses or replaces the configuration, and the hammer's one report finds a bell that is
IDLE. -/
theorem setBellReplacesTheConfiguration : Obligations.SetBellReplacesTheConfiguration := by
  intro p l b c s accepted reads quiet old strikes moves queued busy
  have runs : exec (.setBell p l) s = .next (State.respond p 0x30 (State.ownSetBell (b, c) (s.takeFrame p false false))) :=
    congrArg Host.Outcome.next (State.parsed_accepted accepted reads State.ownSetBell)
  have refused : (s.takeFrame p false false).bellBusy b c = true ↔ busy := State.bellBusy_iff
  have allowed (free : ¬busy) : (s.takeFrame p false false).bellBusy b c = false ∧ (s.swingState b).bringsDown = false :=
    ⟨Bool.eq_false_iff.mpr (mt refused.mp free), by
      rw [not_not.mp fun x => free (.inl x)]
      rfl⟩
  have before : s.changesOnly [.bells, .link] ((s.takeFrame p false false).withConfig b c) :=
    State.modBell_within (State.takeFrame_within (.refl _ s) (by decide) p false false) (by decide) b _
  have record : ((s.takeFrame p false false).withConfig b c).bell b = { s.bell b with config := c } := State.bell_withConfig ..
  have others (k : Bell) (other : k ≠ b) : ((s.takeFrame p false false).withConfig b c).bell k = s.bell k :=
    State.bell_withConfig_of_ne _ other c
  refine ⟨fun is => ?busy, fun free same => ?same, fun free now was => ?unfits, fun free now was => ?fits⟩
  case busy => rw [runs, State.ownSetBell_busy (refused.mpr is), State.respond_refuse]
  case same =>
    rw [runs, State.ownSetBell_replaces (allowed free).1 same quiet]
    exact congrArg Host.Outcome.next (State.respond_takeFrame (s.withConfig b c) p 0x30 .ok _)
  case unfits =>
    obtain ⟨allow, down⟩ := allowed free
    have owned := State.ownSetBell_unfits allow now was
    obtain ⟨only, absent, kept, notice, queue⟩ :=
      State.unfitHammer_settles (s := (s.takeFrame p false false).withConfig b c) (b := b) quiet down
    rw [absent] at owned
    rw [record] at absent
    generalize (((s.takeFrame p false false).withConfig b c).unfitHammer b).settle = t at *
    have here : (State.respond p 0x30 (t.ok (wHammer (some .absent)))).bell b = _ := absent
    refine ⟨_, runs.trans (congrArg (Host.Outcome.next ∘ State.respond p 0x30) owned), ?_, ?_, ?_, ?_, queue,
      State.noticedAll_respond (a := t.ok _) notice p 0x30, fun k other => (kept k other).trans (others k other),
      State.responds_respond .., State.respond_within (a := t.ok _) ((before.mono (by decide)).trans only) (by decide) p 0x30⟩
    · simp only [State.config, here]
    · simp only [here]
    · simp only [here]
    · simp only [State.parkLine, here]
  case fits =>
    intro park home x
    obtain ⟨allow, down⟩ := allowed free
    have state : ((s.takeFrame p false false).withConfig b c).fittedState b = x := by
      rw [State.fittedState_eq, State.demanded, record]
      rfl
    have entered := State.fitHammer_entered ((s.takeFrame p false false).withConfig b c) b
    rw [state] at entered
    have settled := entered.settle quiet down
    have fitted := entered.record
    rw [record] at fitted
    obtain ⟨v, answer, only, kept, notice, here, responds⟩ := entered.answered quiet down before others 0x30 (wHammer (some x))
    have owned := State.ownSetBell_fits allow now was
    have payload : ((((s.takeFrame p false false).withConfig b c).fitHammer b).settle.bell b).hammer = some x := by
      rw [settled]
      exact congrArg BellRec.hammer fitted
    rw [payload] at owned
    rw [fitted] at here
    refine ⟨v, ?_, ?_, ?_, fun running => ?_, fun faulted => ?_, notice, kept, responds, only⟩
    · rw [runs, owned, answer]
    · rw [State.config, here]
    · rw [here]
    · rw [here]
      refine (if_pos running).trans ?_
      rw [State.parkTimer, State.config, record]
      rfl
    · rw [here]
      exact if_pos faulted

namespace State

/-! ## CLEAR-FAULT of a hammer -/

section

variable {s : State} {p : Port} {n : Byte} {b : Bell}

theorem ownClearFault_noRight (without : s.holds p .bells = false) :
    s.ownClearFault p 0 .bells [n, 0] clearHammer = s.refuse .noRight := by
  simp [ownClearFault, without]

theorem ownClearFault_badValue (right : s.holds p .bells = true) (out : n.toNat < 1 ∨ 24 < n.toNat) :
    s.ownClearFault p 0 .bells [n, 0] clearHammer = s.refuse .badValue := by
  have none : bellOf? n.toNat = none := dif_neg (by omega)
  simp [ownClearFault, right, none]

theorem ownClearFault_bell (right : s.holds p .bells = true) (number : n.toNat = b.val + 1) :
    s.ownClearFault p 0 .bells [n, 0] clearHammer = clearHammer b s := by
  have named : bellOf? n.toNat = some b := by
    rw [number]
    exact dif_pos ⟨Nat.le_add_left .., b.isLt⟩
  simp [ownClearFault, right, named]

theorem clearHammer_sound (h : (s.bell b).hammer ≠ some .fault) : clearHammer b s = s.refuse .notSet := if_pos h

variable (fault : (s.bell b).hammer = some .fault)
include fault

theorem clearHammer_unavailable
    (h : ((s.bell b).park.state = some true ∧ (s.bell b).home.state = some true) ∨
      (¬(s.bell b).park.state = some true ∧ ¬(s.bell b).home.state = some true ∧ s.demanded b = false)) :
    clearHammer b s = s.refuse .unavailable := by
  unfold clearHammer
  rcases h with ⟨park, home⟩ | ⟨park, home, free⟩
  · simp [fault, park, home]
  · simp [fault, park, home, free]

omit fault in
/-- The state to which the demands and the sensors clear a hammer (R60). -/
def clearedState (s : State) (b : Bell) : Hammer :=
  if (s.bell b).park.state = some true then
    (if s.demanded b = false ∧ (s.bell b).rest.state = some true then .unparking else .parked)
  else if s.demanded b then .parking else .ready

omit fault in
theorem clearedState_ne_fault (s : State) (b : Bell) : s.clearedState b ≠ .fault := by
  unfold clearedState
  split
  · split <;> decide
  · split <;> decide

omit fault in
/-- Bell `b`'s cause of fault cleared. -/
def withoutCause (b : Bell) (s : State) : State := s.modBell b fun r => { r with cause := none }

omit fault in
theorem bell_withoutCause (s : State) (b : Bell) : (s.withoutCause b).bell b = { s.bell b with cause := none } := by
  rw [withoutCause, bell_modBell, if_pos rfl]

/-- A hammer in FAULT whose sensors and demands allow it enters the state to which they clear it (R60). -/
theorem clearHammer_clears (clear : ¬((s.bell b).park.state = some true ∧ (s.bell b).home.state = some true))
    (reason : (s.bell b).park.state = some true ∨ (s.bell b).home.state = some true ∨ s.demanded b = true) :
    ∃ t, Entered b (s.clearedState b) (s.withoutCause b) t ∧
      clearHammer b s = t.settle.ok (wHammer (t.settle.bell b).hammer) := by
  have record := s.bell_withoutCause b
  have demand : (s.withoutCause b).demanded b = s.demanded b := by rw [demanded, record]; rfl
  have conflict : (s.withoutCause b).sensorConflict b = false := by
    refine Bool.eq_false_iff.mpr fun both => clear ?_
    rw [sensorConflict_iff, record] at both
    exact both.symm
  unfold clearHammer clearedState
  by_cases park : (s.bell b).park.state = some true
  · have home : ¬(s.bell b).home.state = some true := fun home => clear ⟨park, home⟩
    refine ⟨(s.withoutCause b).enterParked b false, ?_, ?_⟩
    · have state : (s.withoutCause b).parkedState b =
          if s.demanded b = false ∧ (s.bell b).rest.state = some true then .unparking else .parked := by
        simp [parkedState, unparkingState, conflict, record, park, demand]
      rw [if_pos park, ← state]
      exact enterParked_entered _ b
    · simp [fault, park, home]
      rfl
  · by_cases demanded : s.demanded b = true
    · refine ⟨(s.withoutCause b).enterParking b, ?_, ?_⟩
      · have state : (s.withoutCause b).parkingState b = .parking := by
          simp [parkingState, conflict, record, park]
        rw [if_neg park, if_pos demanded, ← state]
        exact enterParking_entered _ b
      · simp [fault, park, demanded]
        rfl
    · have home : (s.bell b).home.state = some true := (reason.resolve_left park).resolve_right demanded
      refine ⟨(s.withoutCause b).setHammer b .ready none false, ?_, ?_⟩
      · rw [if_neg park, if_neg demanded]
        exact entered_setHammer (by decide) rfl
      · simp [fault, park, home, demanded]
        rfl

omit fault in
/-- A park line that is driven for its hammer's state alone (R55 to R59). -/
theorem parkLine_iff {x : Hammer} (state : (s.bell b).hammer = some x) (sound : x ≠ .fault) :
    s.parkLine b = true ↔ x = .parked ∨ x = .parking := by
  unfold parkLine
  rw [state]
  cases x <;> simp_all

end

end State

/-- Settles O30: the owner's checks in their order, and then the one state to which demands and sensors clear the hammer. -/
theorem clearFaultOfAHammer : Obligations.ClearFaultOfAHammer := by
  intro p n s takes quiet
  have runs : exec (.clearFaultHammer p [n, 0]) s = .next (State.respond p 0x34
      ((s.takeFrame p false false).ownClearFault p 0 .bells [n, 0] State.clearHammer)) :=
    congrArg Host.Outcome.next ((if_neg (by decide : ¬(0 : Byte) = 1)).trans (State.request_accepted ⟨takes, rfl⟩ _))
  have rights : (s.takeFrame p false false).holds p .bells = s.holds p .bells := by
    rw [State.holds, State.port_takeFrame]
    rfl
  refine ⟨fun without => ?_, fun right => ⟨fun out => ?_, fun b number => ?_⟩⟩
  · rw [runs, State.ownClearFault_noRight (rights.trans without), State.respond_refuse]
  · rw [runs, State.ownClearFault_badValue (rights.trans right) out, State.respond_refuse]
  rw [State.ownClearFault_bell (rights.trans right) number] at runs
  refine ⟨fun sound => ?_, fun fault stuck => ?_, fun fault clear reason state => ?_⟩
  · rw [runs, State.clearHammer_sound (s := s.takeFrame p false false) sound, State.respond_refuse]
  · rw [runs, State.clearHammer_unavailable (s := s.takeFrame p false false) fault stuck, State.respond_refuse]
  · intro x
    have down : (s.swingState b).bringsDown = false := by
      rcases state with e | e | e | e <;> rw [e] <;> rfl
    have sound : x ≠ .fault := s.clearedState_ne_fault b
    obtain ⟨t, entered, owned⟩ := State.clearHammer_clears (s := s.takeFrame p false false) (b := b) fault clear reason
    change State.Entered b x _ t at entered
    have record : ((s.takeFrame p false false).withoutCause b).bell b = { s.bell b with cause := none } :=
      State.bell_withoutCause ..
    have before : s.changesOnly [.bells, .link] ((s.takeFrame p false false).withoutCause b) :=
      State.modBell_within (State.takeFrame_within (.refl _ s) (by decide) p false false) (by decide) b _
    have cleared := entered.record
    rw [State.enteredCause, if_neg sound, record] at cleared
    have payload : (t.settle.bell b).hammer = some x := by
      rw [entered.settle quiet down]
      exact congrArg BellRec.hammer cleared
    rw [payload] at owned
    obtain ⟨v, answer, only, kept, notice, here, responds⟩ := entered.answered quiet down before
      (fun k other => (State.bell_modBell ..).trans (if_neg other)) 0x34 (wHammer (some x))
    rw [cleared] at here
    refine ⟨v, ?_, only, ?_, ?_, ?_, State.parkLine_iff (by rw [here]) sound, kept, notice, responds⟩
    · rw [runs, owned, answer]
    · rw [here]
    · rw [here]
    · rw [here, State.parkTimer, State.config, record]
      rfl

end Sys2Proof.Machine
end

section
/-! PROOFS. A change of one bell's swing state: its record, its park demands and its motor line (R54, R61, R133), and the swing that
a hammer takes with it into FAULT (R142). -/

namespace Sys2Proof.Machine

/-- The park demand set that follows a swing state: SWING is there in all but IDLE, which ends the demand of a start too (R54). -/
def SwingState.demandsOf (x : SwingState) (d : Demands) : Demands :=
  { d with swing := x.demandsPark, start := d.start && x != .idle }

/-- A swing record in FAULT with a cause (R142). -/
def SwingRec.faulted (c : SwingFault) (r : SwingRec) : SwingRec :=
  { r with state := .fault, fault := some c, lastCause := some (.fault c), timer := none }

namespace State

/-- Bell `b`'s swing record has taken its new state by `f`, with the BELL notice, and its park demands and its motor line have
followed; the load, the lights and the slot runs have not heard of it yet (R133). -/
def swingTaken (b : Bell) (f : SwingRec → SwingRec) (quiet : Bool) (s : State) : State :=
  let x := (f (s.swingRec b)).state
  let t := s.modSwingRec b f
  ((if quiet then t else t.raiseAll .bell).changeDemands b x.demandsOf).modBell b fun r =>
    { r with motor := x.demandsMotor && (r.motor || (x == .starting && r.hammer == some .parked)) }

section

variable {s t : State} {b : Bell} {f : SwingRec → SwingRec} {quiet : Bool}

theorem setSwing_eq (s : State) (b : Bell) (f : SwingRec → SwingRec) (quiet : Bool) : s.setSwing b f quiet =
    let t := s.swingTaken b f quiet
    ((if t.swingLoad b < s.swingLoad b then t.signal .loadFell else t).ringCrossing s.ringing).slotRunHears b
      (f (s.swingRec b)).state := by
  have state : (s.modSwingRec b f).swingState b = (f (s.swingRec b)).state := by
    rw [swingState, swingRec_modSwingRec, if_pos rfl]
  unfold setSwing
  dsimp only
  rw [state]
  rfl

theorem slotRunHears_recs (s : State) (b : Bell) (x : SwingState) : (s.slotRunHears b x).swing.recs = s.swing.recs := by
  unfold slotRunHears
  split
  · dsimp only
    split
    · split <;> rfl
    · rfl
    · rfl
    · rfl
  · rfl

theorem swingRec_swingTaken (s : State) (b : Bell) (f : SwingRec → SwingRec) (quiet : Bool) :
    (s.swingTaken b f quiet).swingRec b = f (s.swingRec b) := by
  have told : ((if quiet then s.modSwingRec b f else (s.modSwingRec b f).raiseAll .bell).changeDemands b
      (f (s.swingRec b)).state.demandsOf).swing = (s.modSwingRec b f).swing := by
    refine (changeDemands_within (changesOnly.refl _ _) (List.Subset.refl _) b _ .swing (by decide)).trans ?_
    cases quiet <;> rfl
  refine (congrArg (fun w : Swing => w.recs.get b) told).trans ?_
  exact (swingRec_modSwingRec ..).trans (if_pos rfl)

/-- The blocks that hear of a change of a swing state change neither the bells nor the swing records. -/
theorem setSwing_hears (s : State) (b : Bell) (f : SwingRec → SwingRec) (quiet : Bool) :
    (s.setSwing b f quiet).bells = (s.swingTaken b f quiet).bells ∧
      (s.setSwing b f quiet).swing.recs = (s.swingTaken b f quiet).swing.recs := by
  rw [setSwing_eq]
  extract_lets t
  have crossed : t.changesOnly [.lights, .link, .signals]
      ((if t.swingLoad b < s.swingLoad b then t.signal .loadFell else t).ringCrossing s.ringing) :=
    ringCrossing_within (ite_within (signal_within (.refl _ t) (by decide) _) (.refl _ t)) (List.Subset.refl _) _
  constructor
  · exact (slotRunHears_within (changesOnly.refl _ _) (List.Subset.refl _) b _ .bells (by decide)).trans
      (crossed .bells (by decide))
  · exact (slotRunHears_recs ..).trans (congrArg Swing.recs (crossed .swing (by decide)))

theorem swingRec_setSwing (s : State) (b : Bell) (f : SwingRec → SwingRec) (quiet : Bool) :
    (s.setSwing b f quiet).swingRec b = f (s.swingRec b) :=
  (congrArg (Table.get · b) (s.setSwing_hears b f quiet).2).trans (swingRec_swingTaken ..)

theorem swingState_setSwing (s : State) (b : Bell) (f : SwingRec → SwingRec) (quiet : Bool) :
    (s.setSwing b f quiet).swingState b = (f (s.swingRec b)).state := congrArg SwingRec.state (swingRec_setSwing ..)

theorem setSwing_noticed (s : State) (b : Bell) (f : SwingRec → SwingRec) : (s.setSwing b f false).noticedAll .bell := by
  have taken : ((s.modSwingRec b f).raiseAll .bell).Keeps (s.swingTaken b f false) :=
    ((Keeps.refl _).changeDemands b _).modBell b
  rw [setSwing_eq]
  exact (((Keeps.ite (taken.signal _) taken).ringCrossing _).slotRunHears ..).noticedAll (noticed_raiseAll _ .bell)

/-- A change of the swing state that the hammer ignores changes the demands and the motor line alone. -/
theorem bell_setSwing (h : s.HammerIgnores b (f (s.swingRec b)).state.demandsOf) : (s.setSwing b f quiet).bell b =
    let x := (f (s.swingRec b)).state
    { s.bell b with
      demands := x.demandsOf (s.bell b).demands
      motor := x.demandsMotor && ((s.bell b).motor || (x == .starting && (s.bell b).hammer == some .parked)) } := by
  refine (congrArg (fun t : BellTable => t.bells.get b) (s.setSwing_hears b f quiet).1).trans ?_
  refine (bell_modBell ..).trans ((if_pos rfl).trans ?_)
  have ignores : (if quiet then s.modSwingRec b f else (s.modSwingRec b f).raiseAll .bell).HammerIgnores b
      (f (s.swingRec b)).state.demandsOf := by
    cases quiet <;> exact h
  rw [changeDemands_ignored ignores, bell_withDemands]
  cases quiet <;> rfl

/-! ## A swing that enters FAULT -/

theorem leaveLoadQueue_queue (s : State) (b : Bell) :
    (s.leaveLoadQueue b).load.queue = s.load.queue.filter fun e => e.bell != b := by
  unfold leaveLoadQueue
  dsimp only
  split <;> rfl

theorem leaveLoadQueue_swing (s : State) (b : Bell) : (s.leaveLoadQueue b).swing = s.swing :=
  leaveLoadQueue_within (changesOnly.refl _ s) (List.Subset.refl _) b .swing (by decide)

theorem leaveLoadQueue_bells (s : State) (b : Bell) : (s.leaveLoadQueue b).bells = s.bells :=
  leaveLoadQueue_within (changesOnly.refl _ s) (List.Subset.refl _) b .bells (by decide)

theorem swingFaults_eq (s : State) (b : Bell) (c : SwingFault) :
    s.swingFaults b c = ((s.leaveLoadQueue b).setSwing b (SwingRec.faulted c) false).raiseAll .fault := rfl

theorem bell_raiseAll (s : State) (k : NoticeKind) (b : Bell) : (s.raiseAll k).bell b = s.bell b := rfl

theorem swingRec_raiseAll (s : State) (k : NoticeKind) (b : Bell) : (s.raiseAll k).swingRec b = s.swingRec b := rfl

theorem load_raiseAll (s : State) (k : NoticeKind) : (s.raiseAll k).load = s.load := rfl

theorem swingRec_swingFaults (s : State) (b : Bell) (c : SwingFault) :
    (s.swingFaults b c).swingRec b = (s.swingRec b).faulted c := by
  have swung : (s.leaveLoadQueue b).swingRec b = s.swingRec b := congrArg (fun w : Swing => w.recs.get b) (leaveLoadQueue_swing s b)
  rw [swingFaults_eq, swingRec_raiseAll, swingRec_setSwing, swung]

theorem bell_swingFaults {c : SwingFault} (h : s.HammerIgnores b SwingState.fault.demandsOf) :
    (s.swingFaults b c).bell b =
      { s.bell b with demands := SwingState.fault.demandsOf (s.bell b).demands, motor := false } := by
  have same : (s.leaveLoadQueue b).bell b = s.bell b := congrArg (fun t : BellTable => t.bells.get b) (leaveLoadQueue_bells s b)
  have ignores : (s.leaveLoadQueue b).HammerIgnores b SwingState.fault.demandsOf := by
    unfold HammerIgnores demanded
    rw [same]
    exact h
  have record := bell_setSwing (f := SwingRec.faulted c) (quiet := false) ignores
  rw [same] at record
  rw [swingFaults_eq, bell_raiseAll, record]
  rfl

theorem setSwing_load (s : State) (b : Bell) (f : SwingRec → SwingRec) (quiet : Bool) : (s.setSwing b f quiet).load = s.load :=
  setSwing_within (changesOnly.refl _ s) (List.Subset.refl _) b f quiet .load (by decide)

theorem swingFaults_out (s : State) (b : Bell) (c : SwingFault) : ∀ e ∈ (s.swingFaults b c).load.queue, e.bell ≠ b := by
  intro e mem
  rw [swingFaults_eq, load_raiseAll, setSwing_load, leaveLoadQueue_queue] at mem
  exact bne_iff_ne.mp (List.mem_filter.mp mem).2

/-- A swing that has entered FAULT is reached by no signal (R142). -/
theorem swingFaults_rests (s : State) (b : Bell) (c : SwingFault) : (s.swingFaults b c).Rests b := by
  have state : (s.swingFaults b c).swingState b = .fault := congrArg SwingRec.state (swingRec_swingFaults s b c)
  exact ⟨by rw [state]; rfl, startRefusal_of_busy (by rw [state]; decide) none, swingFaults_out s b c⟩

theorem swingFaults_swingFaulted {c : SwingFault} (h : s.HammerIgnores b SwingState.fault.demandsOf) :
    (s.swingFaults b c).swingFaulted b (s.swingRec b) c := by
  refine ⟨swingRec_swingFaults s b c, ?_, noticed_raiseAll _ .fault, ?_, swingFaults_out s b c⟩
  · rw [motorLine, bell_swingFaults h]
  · rw [swingFaults_eq]
    exact ((Keeps.refl _).raiseAll .fault).noticedAll (setSwing_noticed _ b _)

/-- The rest of the event leaves a swing that has entered FAULT. -/
theorem swingFaulted_settleFor {r : SwingRec} {c : SwingFault} (h : s.swingFaulted b r c) (rests : s.Rests b) (n : Nat) :
    (s.settleFor n).swingFaulted b r c := by
  obtain ⟨swing, motor, fault, bell, out⟩ := h
  have apart := rests.settleFor n
  refine ⟨apart.swing.trans swing, ?_, ((Keeps.refl s).settleFor n).noticedAll fault, ((Keeps.refl s).settleFor n).noticedAll bell,
    fun e mem here => out e (apart.queue e mem here) here⟩
  rw [motorLine, apart.bell]
  exact motor

/-! ## The first signal of an event -/

theorem settle_cons {x : Signal} {rest : List Signal} (h : s.signals = x :: rest) :
    s.settle = settleFor 99999 (deliver x { s with signals := rest }) := settleFor_cons h 99999

/-- What a swing makes of a hammer that is not PARKED where it must be, or is in FAULT where it parks (R61, R142). -/
theorem hammerReported_faults {x : Hammer} (hammer : (s.bell b).hammer = some x) :
    (s.swingState b = .parking → x = .fault → s.hammerReported b = s.swingFaults b .parkFault) ∧
      (s.swingState b = .waitLoad ∨ s.swingState b = .starting ∨ s.swingState b = .ringing → x ≠ .parked →
        s.hammerReported b = s.swingFaults b .hammerLost) := by
  unfold hammerReported
  rw [hammer]
  constructor
  · rintro state rfl
    rw [state]
  · intro state lost
    have other : ¬some x = some Hammer.parked := fun e => lost (Option.some.inj e)
    rcases state with e | e | e <;> rw [e] <;> exact if_neg other

/-! ## A hammer in FAULT -/

/-- The hammer of bell `b` stands in FAULT with a cause, its timer cleared and the motor line released (R59). -/
def FaultStands (b : Bell) (c : HammerCause) (s : State) : Prop :=
  (s.bell b).hammer = some .fault ∧ (s.bell b).cause = some c ∧ (s.bell b).timer = none ∧ s.motorLine b = false

namespace FaultStands

variable {c : HammerCause}

theorem of_bell (h : FaultStands b c s) (same : t.bell b = s.bell b) : FaultStands b c t := by
  unfold FaultStands motorLine at h ⊢
  rwa [same]

theorem setSwing (h : FaultStands b c s) (f : SwingRec → SwingRec) (quiet : Bool) : FaultStands b c (s.setSwing b f quiet) := by
  obtain ⟨hammer, cause, timer, motor⟩ := h
  have record := bell_setSwing (quiet := quiet) (s := s) (b := b) (f := f) (.inl (by simp [hammer]))
  unfold FaultStands motorLine at *
  rw [record]
  simp [hammer, cause, timer, motor]

theorem raiseAll (h : FaultStands b c s) (k : NoticeKind) : FaultStands b c (s.raiseAll k) := h.of_bell rfl

theorem swingFaults (h : FaultStands b c s) (x : SwingFault) : FaultStands b c (s.swingFaults b x) := by
  have left : FaultStands b c (s.leaveLoadQueue b) :=
    h.of_bell (congrArg (fun t : BellTable => t.bells.get b) (leaveLoadQueue_bells s b))
  unfold State.swingFaults
  exact (left.setSwing _ false).raiseAll _

theorem kept : KeptBySignals b (FaultStands b c) where
  away other acts p := p.of_bell (acts.bells b other.symm)
  reported {s} p := by
    unfold hammerReported
    rw [p.1]
    split
    · rename_i parked
      cases parked
    · exact p.swingFaults _
    · exact p.swingFaults _
    · exact p.swingFaults _
    · exact p.swingFaults _
    · exact p
  starts := .inr fun _ p => p.setSwing ..
  parks := .inr fun s origin minutes p => by
    unfold toParking
    have purged (u : State) : (u.purge (fun e => e.bell == b) .interlock).bell b = u.bell b :=
      congrArg (fun t : BellTable => t.bells.get b) (purge_within (changesOnly.refl _ u) (List.Subset.refl _) _ _ .bells (by decide))
    dsimp only
    split <;> exact (p.setSwing _ false).of_bell (purged _)

end FaultStands

end

end State

end Sys2Proof.Machine
end

section
/-! PROOFS. The expiry of a park timer (R56, R58, R59). -/

namespace Sys2Proof.Machine

namespace State

section

variable {s : State} {b : Bell}

theorem exec_parkTimerExpiry (s : State) (b : Bell) :
    exec (.parkTimerExpiry (b.val + 1)) s = .next (s.parkTimerExpires b).settle := by
  have named : bellOf? (b.val + 1) = some b := dif_pos ⟨Nat.le_add_left .., b.isLt⟩
  change execParkTimerExpiry (b.val + 1) s = _
  unfold execParkTimerExpiry
  rw [named]

/-- A park timer reached in PARKING or UNPARKING faults the hammer (R59). -/
theorem parkTimerExpires_faults {n : Nat} (timer : (s.bell b).timer = some n) (reached : n ≤ s.now)
    (moves : (s.bell b).hammer = some .parking ∨ (s.bell b).hammer = some .unparking) :
    s.parkTimerExpires b =
      s.faultHammer b (if (s.bell b).hammer = some .parking then .parkTimeout else .unparkTimeout) false := by
  unfold parkTimerExpires
  rcases moves with h | h <;> simp [timer, reached, h]

/-- A park timer that is not reached, or that no hammer waits for, does nothing. -/
theorem parkTimerExpires_stays (h : (s.bell b).timer = none ∨ (∃ n, (s.bell b).timer = some n ∧ s.now < n) ∨
    ((s.bell b).hammer ≠ some .parking ∧ (s.bell b).hammer ≠ some .unparking)) : s.parkTimerExpires b = s := by
  unfold parkTimerExpires
  split
  · rename_i reached
    rcases h with none | ⟨n, timer, early⟩ | ⟨parking, unparking⟩
    · simp [none] at reached
    · simp [timer, Nat.not_le.mpr early] at reached
    · split
      · exact absurd ‹_› parking
      · exact absurd ‹_› unparking
      · rfl
  · rfl

/-- A hammer in FAULT takes with it the swing that waits for it or needs it PARKED, and no other (R142). -/
theorem faultHammer_settles (c : HammerCause) (quiet : s.signals = []) :
    let t := (s.faultHammer b c false).settle
    (s.swingState b = .parking → t.swingFaulted b (s.swingRec b) .parkFault) ∧
      (s.swingState b = .waitLoad ∨ s.swingState b = .starting ∨ s.swingState b = .ringing →
        t.swingFaulted b (s.swingRec b) .hammerLost) ∧
      ((s.swingState b).bringsDown = false → t.swing = s.swing) := by
  have takes := faultHammer_takes s b c
  have signals : (s.faultHammer b c false).signals = [.hammer b] := by rw [faultHammer_signals, quiet]; rfl
  have hammer : ((s.faultHammer b c false).bell b).hammer = some .fault := by rw [takes.record]
  have swing : (s.faultHammer b c false).swing = s.swing := takes.only .swing (by decide)
  generalize s.faultHammer b c false = u at *
  have record : u.swingRec b = s.swingRec b := congrArg (fun w : Swing => w.recs.get b) swing
  have state : u.swingState b = s.swingState b := congrArg SwingRec.state record
  have taken : u.settle = settleFor 99999 (hammerReported b { u with signals := [] }) := settle_cons signals
  obtain ⟨parks, lost⟩ := hammerReported_faults (s := { u with signals := [] }) hammer
  have faulted (x : SwingFault) (h : hammerReported b { u with signals := [] } = swingFaults b x { u with signals := [] }) :
      u.settle.swingFaulted b (s.swingRec b) x := by
    have ignores : HammerIgnores { u with signals := [] } b SwingState.fault.demandsOf :=
      .inl (by change (u.bell b).hammer ≠ _ ∧ (u.bell b).hammer ≠ _ ∧ (u.bell b).hammer ≠ _; simp [hammer])
    rw [taken, h, ← record]
    exact swingFaulted_settleFor (swingFaults_swingFaulted ignores) (swingFaults_rests ..) _
  refine ⟨fun is => faulted _ (parks (state.trans is) rfl), fun is => faulted _ (lost ?_ (by decide)), fun down => ?_⟩
  · change u.swingState b = _ ∨ u.swingState b = _ ∨ u.swingState b = _
    rwa [state]
  · rw [settle_of_hammers (n := 1) signals (by decide) (state ▸ down)]
    exact swing

end

end State

/-- Settles O29: the hammer's fault stands through the event, and its one report faults the swing. -/
theorem parkTimerFaultsTheHammer : Obligations.ParkTimerFaultsTheHammer := by
  intro b s
  refine ⟨fun n timer reached moves => ?_, fun quiet h => ?_⟩
  · generalize cause : (if (s.bell b).hammer = some .parking then HammerCause.parkTimeout else .unparkTimeout) = c
    have runs := State.exec_parkTimerExpiry s b
    rw [State.parkTimerExpires_faults timer reached moves, cause] at runs
    have takes := State.faultHammer_takes s b c
    have stands : State.FaultStands b c (s.faultHammer b c false) := by
      unfold State.FaultStands State.motorLine
      rw [takes.record]
      simp
    obtain ⟨hammer, cause, timer, motor⟩ := State.FaultStands.kept.settleFor Config.signalLimit stands
    have kept := (State.Keeps.refl (s.faultHammer b c false)).settle
    have config (k : Bell) : ((s.faultHammer b c false).settle.bell k).config = (s.bell k).config :=
      (((State.Keeps.refl s).faultHammer b c false).settle).bells.config k
    refine ⟨_, runs, hammer, cause, timer, motor, kept.noticedAll (takes.faults rfl), kept.noticedAll takes.notice, config,
      fun quiet => ?_⟩
    obtain ⟨parks, lost, stays⟩ := State.faultHammer_settles (b := b) (s := s) c quiet
    refine ⟨parks, lost, fun ⟨notParking, notWaiting, notStarting, notRinging⟩ => stays ?_⟩
    cases state : s.swingState b <;> simp_all [SwingState.bringsDown]
  · rw [State.exec_parkTimerExpiry, State.parkTimerExpires_stays h, State.settle_of_quiet quiet]

end Sys2Proof.Machine
end

section
/-! PROOFS. The scan of the sensors: what it debounces, what of it stands whatever its changes do, and the scans of a part without
the supply (R50, R51, R63). -/

namespace Sys2Proof.Machine

theorem Sensor.sample_of_agreeing {x : Sensor} {r : Bool} (h : x.last = some r) : x.sample r =
    { last := some r, state := some r, latch := x.latch || (x.state.isSome && x.state != some r) } := by
  unfold sample
  by_cases same : x.state = some r
  · simp [h, same]
  · have differs : (x.state != some r) = true := bne_iff_ne.mpr same
    simp [h, differs]

theorem Sensor.sample_of_differing {x : Sensor} {r : Bool} (h : x.last ≠ some r) : x.sample r = { x with last := some r } := by
  unfold sample
  have other : (x.last == some r) = false := beq_eq_false_iff_ne.mpr h
  simp [other]

/-- A known sensor stays known. -/
theorem Sensor.sample_known {x : Sensor} (h : x.state.isSome = true) (r : Bool) : (x.sample r).state.isSome = true := by
  unfold sample
  split
  · rfl
  · exact h

theorem BellRec.known_iff (r : BellRec) : r.known = true ↔ ∀ y ∈ r.sensors, y.state.isSome = true := by
  simp [known, sensors, and_assoc]

theorem BellTable.get_sample (t : BellTable) (m : BitVec 96) (lockout mains : Bool) (b : Bell) :
    (t.sample m lockout mains).bells.get b = (t.bells.get b).sample m b := by
  simp [sample, Table.get]

theorem BellTable.imageValid_sample (t : BellTable) (m : BitVec 96) (lockout mains : Bool) :
    (t.sample m lockout mains).imageValid = true ↔ t.imageValid = true ∨
      ((t.sample m lockout mains).lockout.state.isSome = true ∧
        ∀ b, ((t.sample m lockout mains).bells.get b).known = true) := by
  simp only [get_sample]
  simp [sample]

namespace State

/-! ## The debounced readings -/

section

variable {s t u : State} {m : BitVec 96} {lockout mains : Bool} {b : Bell}

theorem bell_debounced (s : State) (m : BitVec 96) (lockout mains : Bool) (b : Bell) :
    (s.debounced m lockout mains).bell b = (s.bell b).sample m b := BellTable.get_sample ..

/-- The hammer, its demands and the rest of bell `b`'s record are no part of a scan. -/
theorem debounced_sensors (s : State) (m : BitVec 96) (lockout mains : Bool) (b : Bell) :
    ((s.debounced m lockout mains).bell b).sensors =
      [(s.bell b).sw.sample (m.getLsbD (4 * b.val)), (s.bell b).rest.sample (m.getLsbD (4 * b.val + 1)),
       (s.bell b).home.sample (m.getLsbD (4 * b.val + 2)), (s.bell b).park.sample (m.getLsbD (4 * b.val + 3))] := by
  rw [bell_debounced]
  rfl

/-! ## The delivery of the changes -/

theorem hammerFirstState_keepsInputs (s : State) (b : Bell) : s.KeepsInputs True (s.hammerFirstState b) :=
  .of_actsAt (ActsAt.refl True b s).hammerFirstState

theorem lockoutDemands_keepsInputs (present : Bool) (s : State) : s.KeepsInputs True (s.lockoutDemands present) := by
  unfold lockoutDemands
  refine KeepsInputs.foldl (fun u b => KeepsInputs.of_actsAt (b := b) ?_) (.refl True s) _
  exact (ActsAt.refl True b u).changeDemands fun _ _ => rfl

theorem firstStates_keepsInputs (s : State) : s.KeepsInputs True s.firstStates := by
  have hammers : s.KeepsInputs True (allBells.foldl (fun s b => s.hammerFirstState b) s) :=
    .foldl hammerFirstState_keepsInputs (.refl True s) _
  unfold firstStates
  dsimp only
  refine .foldl (fun u b => .of_actsAt (ActsAt.refl True b u).swingFirstState) ?_ _
  refine .foldl (fun u b => .of_actsAt (ActsAt.refl True b u).meetDemand) ?_ _
  split
  · exact hammers.trans (lockoutDemands_keepsInputs ..)
  · exact hammers

theorem swingLockOut_keepsInputs (s : State) : s.KeepsInputs True s.swingLockOut :=
  .foldl (fun u b => .of_actsAt ((ActsAt.refl True b u).bringDown .lockOut)) (.refl True s) _

/-- A notice is no concern of the bells. -/
theorem raiseAll_keepsInputs (s : State) (k : NoticeKind) : s.KeepsInputs True (s.raiseAll k) :=
  .of_actsAt ((ActsAt.refl True 0 s).raiseAll k)

theorem deliverLockout_keepsInputs (before : Option Bool) (s : State) : s.KeepsInputs True (s.deliverLockout before) := by
  unfold deliverLockout
  dsimp only
  split
  · exact ((lockoutDemands_keepsInputs ..).trans (swingLockOut_keepsInputs _)).trans (raiseAll_keepsInputs ..)
  · split
    · exact (lockoutDemands_keepsInputs ..).trans (raiseAll_keepsInputs ..)
    · exact .refl True s

/-- What a scan does once each bell's changes have been delivered to it. -/
def scanRest (old : BellTable) (s : State) : State :=
  let s := s.deliverLockout old.lockout.state
  (if s.bells.imageValid && !old.imageValid then s.firstStates else s).settle

/-- The changes of each bell's sensors, delivered in turn. -/
def deliverBells (old : BellTable) (s : State) : State := allBells.foldl (fun s b => s.deliverBell (old.bells.get b) b) s

theorem deliverScan_settle (old : BellTable) (s : State) : (s.deliverScan old).settle = (s.deliverBells old).scanRest old := rfl

/-- What follows the changes of the bells leaves the sensors and the claims as they are. -/
theorem scanRest_keepsInputs (old : BellTable) (s : State) : s.KeepsInputs True (s.scanRest old) := by
  have heard := deliverLockout_keepsInputs old.lockout.state s
  refine KeepsInputs.trans ?_ (KeepsInputs.settle _)
  split
  · exact heard.trans (firstStates_keepsInputs _)
  · exact heard

theorem deliverBells_keepsInputs (old : BellTable) (s : State) : s.KeepsInputs False (s.deliverBells old) :=
  .foldl (fun u b => .of_actsAt { deliverBell_actsAt u (old.bells.get b) b with rope := False.elim }) (.refl False s) _

theorem scan_keepsInputs (old : BellTable) (s : State) : s.KeepsInputs False (s.deliverScan old).settle :=
  (deliverBells_keepsInputs old s).trans (scanRest_keepsInputs old _).weaken

theorem scanRest_keeps {u : State} (old : BellTable) (h : u.Keeps t) : u.Keeps (t.scanRest old) := by
  have heard := h.deliverLockout old.lockout.state
  exact (Keeps.ite heard.firstStates heard).settle

/-! ## A scan of a part with the supply -/

theorem exec_sensorScan_on (on : s.power = .on) :
    exec (.sensorScan m lockout mains) s = .next (s.scanWorking m lockout mains) := by
  change execSensorScan m lockout mains s = _
  unfold execSensorScan
  rw [on]

theorem scanWorking_fails (absent : (s.bells.mains.sample mains).state = some false) (was : s.bells.mains.state ≠ some false) :
    s.scanWorking m lockout mains = (s.debounced m lockout mains).unsupplied .absent := by
  refine if_pos ?_
  rw [Bool.and_eq_true, beq_iff_eq, bne_iff_ne]
  exact ⟨absent, was⟩

theorem scanWorking_delivers (h : (s.bells.mains.sample mains).state ≠ some false ∨ s.bells.mains.state = some false) :
    s.scanWorking m lockout mains = ((s.debounced m lockout mains).deliverScan s.bells).settle := by
  refine if_neg ?_
  rw [Bool.and_eq_true, beq_iff_eq, bne_iff_ne]
  rintro ⟨absent, was⟩
  exact h.elim (· absent) was

/-- The readings of a scan are no part of the retained store. -/
theorem keepsRetained_of_debounced (h : (s.debounced m lockout mains).keepsRetained t) : s.keepsRetained t := by
  unfold keepsRetained at h ⊢
  have config (b : Bell) : (s.debounced m lockout mains).config b = s.config b := by
    rw [State.config, bell_debounced]
    rfl
  simp only [config] at h
  exact h

/-! ## A scan of a part without the supply -/

theorem exec_sensorScan_absent (absent : s.power = .absent) :
    exec (.sensorScan m lockout mains) s = .next (s.scanMains mains) := by
  change execSensorScan m lockout mains s = _
  unfold execSensorScan
  rw [absent]

theorem exec_sensorScan_off (off : s.power = .off) : exec (.sensorScan m lockout mains) s = .next s := by
  change execSensorScan m lockout mains s = _
  unfold execSensorScan
  rw [off]

/-- A scan without mains reads the mains-present input, and begins a start where it is debounced true (R63). -/
theorem scanMains_eq (s : State) (mains : Bool) : s.scanMains mains =
    let t := s.modBells fun t => { t with mains := s.bells.mains.sample mains }
    if (s.bells.mains.sample mains).state = some true then t.warmStarts else t := by
  unfold scanMains
  simp only [beq_iff_eq]
  rfl

/-- What of a scan with the supply stands whatever its changes do: the sensors it has debounced, and the image (R50, R51). -/
theorem scan_image (s : State) (m : BitVec 96) (lockout mains : Bool) :
    let t := ((s.debounced m lockout mains).deliverScan s.bells).settle
    t.power = s.power ∧
      (∀ b, (t.bell b).sensors =
        [(s.bell b).sw.sample (m.getLsbD (4 * b.val)), (s.bell b).rest.sample (m.getLsbD (4 * b.val + 1)),
         (s.bell b).home.sample (m.getLsbD (4 * b.val + 2)), (s.bell b).park.sample (m.getLsbD (4 * b.val + 3))]) ∧
      t.bells.lockout = s.bells.lockout.sample lockout ∧ t.bells.mains = s.bells.mains.sample mains ∧
      (t.bells.imageValid = true ↔ s.bells.imageValid = true ∨
        (t.bells.lockout.state.isSome = true ∧ ∀ b, ∀ y ∈ (t.bell b).sensors, y.state.isSome = true)) := by
  intro t
  have kept : (s.debounced m lockout mains).KeepsInputs False t := scan_keepsInputs s.bells _
  have power : t.power = s.power :=
    settle_within (deliverScan_within (L := [.bells, .claims, .engine, .players, .clavier, .swing, .lights, .load, .link, .signals])
      (changesOnly.refl _ (s.debounced m lockout mains)) (by decide) s.bells) (by decide) .power (by decide)
  refine ⟨power, fun b => (kept.sensors b).trans (debounced_sensors ..), kept.lockout, kept.mains, ?_⟩
  rw [kept.image, kept.lockout]
  refine (BellTable.imageValid_sample s.bells m lockout mains).trans ?_
  simp only [kept.sensors, ← BellRec.known_iff]
  rfl

end

end State

end Sys2Proof.Machine
end

section
/-! PROOFS. What one bell's hammer makes of its sensors' debounced changes (R56 to R59). -/

namespace Sys2Proof.Machine.State

section

variable {s t u m : State} {b : Bell}

/-! ## Changes of known sensors -/

theorem debouncedChange_iff {x y : Option Bool} (hx : x.isSome = true) (hy : y.isSome = true) :
    debouncedChange x y = true ↔ y ≠ x := by
  simp [debouncedChange, hx, hy, ne_comm]

theorem becameTrue_iff {x y : Option Bool} : becameTrue x y = true ↔ y = some true ∧ x = some false := by
  simp [becameTrue, and_comm]

theorem debouncedChange_self (x : Option Bool) : debouncedChange x x = false := by simp [debouncedChange]

theorem becameTrue_self (x : Option Bool) : becameTrue x x = false := by
  cases x with
  | none => rfl
  | some x => cases x <;> rfl

theorem becameFalse_self (x : Option Bool) : becameFalse x x = false := by
  cases x with
  | none => rfl
  | some x => cases x <;> rfl

/-! ## What a hammer can do -/

/-- The hammer of bell `b` has done nothing from `u` to `m`, or has gone over to a state. -/
def HammerActs (b : Bell) (u m : State) : Prop := m = u ∨ ∃ x cause, HammerTakes b x cause u m

theorem HammerActs.ite {c : Prop} [Decidable c] (h : HammerActs b u s) (g : HammerActs b u t) :
    HammerActs b u (if c then s else t) := by split <;> assumption

/-- The changes of the sensors make the hammer do nothing, or go over to a state (R56 to R59). -/
theorem hammerSensors_acts (u : State) (b : Bell) (rest home park : Bool) : HammerActs b u (u.hammerSensors b rest home park) := by
  have stays : HammerActs b u u := .inl rfl
  have faults (c : HammerCause) : HammerActs b u (u.faultHammer b c false) := .inr ⟨_, _, faultHammer_takes u b c⟩
  unfold hammerSensors
  dsimp only
  split
  · exact stays
  · exact stays
  · exact stays
  · exact .ite (faults _) stays
  · exact .ite (faults _) (.ite (.inr ⟨_, _, enterParked_entered u b⟩) stays)
  · exact .ite (faults _) (.ite (faults _) (.ite (.inr ⟨_, _, enterUnparking_entered u b⟩) stays))
  · exact .ite (faults _) (.ite (.inr ⟨_, _, enterParking_entered u b⟩)
      (.ite (.inr ⟨_, _, setHammer_takes (by decide) rfl⟩) stays))

theorem hammerSensors_ready (h : (s.bell b).hammer = some .ready) (rest home park : Bool) :
    s.hammerSensors b rest home park =
      if (park = true ∧ (s.bell b).park.state = some true) ∨ (home = true ∧ s.sensorConflict b = true) then
        s.faultHammer b .sensorConflict false
      else s := by
  unfold hammerSensors
  simp [h]

theorem hammerSensors_parking (h : (s.bell b).hammer = some .parking) (rest home park : Bool) :
    s.hammerSensors b rest home park =
      if (home = true ∨ park = true) ∧ s.sensorConflict b = true then s.faultHammer b .sensorConflict false
      else if park = true ∧ (s.bell b).park.state = some true then s.enterParked b false
      else s := by
  unfold hammerSensors
  simp [h]

theorem hammerSensors_parked (h : (s.bell b).hammer = some .parked) (rest home park : Bool) :
    s.hammerSensors b rest home park =
      if (home = true ∨ park = true) ∧ s.sensorConflict b = true then s.faultHammer b .sensorConflict false
      else if park = true ∧ (s.bell b).park.state ≠ some true then s.faultHammer b .parkLost false
      else if rest = true ∧ (s.bell b).rest.state = some true ∧ s.demanded b = false then s.enterUnparking b false
      else s := by
  unfold hammerSensors
  simp [h, and_assoc]

theorem hammerSensors_unparking (h : (s.bell b).hammer = some .unparking) (rest home park : Bool) :
    s.hammerSensors b rest home park =
      if (home = true ∨ park = true) ∧ s.sensorConflict b = true then s.faultHammer b .sensorConflict false
      else if rest = true ∧ (s.bell b).rest.state ≠ some true then s.enterParking b
      else if (home = true ∨ park = true) ∧ (s.bell b).park.state ≠ some true ∧ (s.bell b).home.state = some true then
        s.setHammer b .ready none false
      else s := by
  unfold hammerSensors
  simp [h, and_assoc]

/-! ## The moves of the hammer, and what shows them -/

/-- `t` shows of bell `b`'s hammer what `m` does, which was to come of `u`. -/
structure HammerShown (b : Bell) (u m t : State) : Prop where
  hammer : (t.bell b).hammer = (m.bell b).hammer
  timer : (t.bell b).timer = (m.bell b).timer
  cause : (t.bell b).cause = (m.bell b).cause
  motor : (m.bell b).hammer = some .fault → (m.bell b).motor = false → t.motorLine b = false
  notices : ∀ k, m.noticedAll k → t.noticedAll k
  still : m = u → t.bell b = u.bell b

/-- A later state with the same record, which keeps the notices. -/
theorem HammerShown.of_bell (record : t.bell b = m.bell b) (keeps : m.Keeps t) : HammerShown b u m t where
  hammer := by rw [record]
  timer := by rw [record]
  cause := by rw [record]
  motor _ off := by rwa [motorLine, record]
  notices _ := keeps.noticedAll
  still same := by rw [record, same]

theorem HammerShown.enters {x : Hammer} {cause : Option HammerCause} (shown : HammerShown b u m t) (takes : HammerTakes b x cause u m)
    (timer : u.parkTimer b = s.parkTimer b) : s.hammerEnters t b x := by
  refine ⟨?_, shown.notices _ takes.notice, ?_⟩
  · rw [shown.hammer, takes.record]
  · rw [shown.timer, takes.record]
    dsimp only
    rw [timer]
    rfl

theorem HammerShown.faults {c : HammerCause} (shown : HammerShown b u m t) (takes : HammerTakes b .fault (some c) u m) :
    s.hammerFaulted t b c := by
  refine ⟨⟨?_, shown.notices _ takes.notice, ?_⟩, ?_, shown.notices _ (takes.faults rfl), shown.motor ?_ ?_⟩
  · rw [shown.hammer, takes.record]
  · rw [shown.timer, takes.record]
    rfl
  · rw [shown.cause, takes.record]
  · rw [takes.record]
  · rw [takes.record]
    exact Bool.and_false _

/-- The readings of a scan have changed bell `b`'s four sensors, all of them known, and nothing else of it. -/
structure Resampled (s u : State) (b : Bell) : Prop where
  record : u.bell b =
    { s.bell b with sw := (u.bell b).sw, rest := (u.bell b).rest, home := (u.bell b).home, park := (u.bell b).park }
  now : u.now = s.now
  before : ∀ y ∈ (s.bell b).sensors, y.state.isSome = true
  after : ∀ y ∈ (u.bell b).sensors, y.state.isSome = true

namespace Resampled

theorem debounced {l : BitVec 96} {lockout mains : Bool} (known : ∀ y ∈ (s.bell b).sensors, y.state.isSome = true) :
    s.Resampled (s.debounced l lockout mains) b := by
  refine ⟨?_, rfl, known, ?_⟩
  · rw [bell_debounced]
    rfl
  · rw [debounced_sensors]
    simp only [BellRec.sensors, List.mem_cons, List.not_mem_nil, or_false, forall_eq_or_imp, forall_eq] at known ⊢
    obtain ⟨sw, rest, home, park⟩ := known
    exact ⟨Sensor.sample_known sw _, Sensor.sample_known rest _, Sensor.sample_known home _, Sensor.sample_known park _⟩

variable (r : s.Resampled u b)
include r

theorem hammer : (u.bell b).hammer = (s.bell b).hammer := by rw [r.record]

theorem demands : (u.bell b).demands = (s.bell b).demands := by rw [r.record]

theorem motor : (u.bell b).motor = (s.bell b).motor := by rw [r.record]

theorem demanded : u.demanded b = s.demanded b := by rw [State.demanded, r.demands]; rfl

theorem parkTimer : u.parkTimer b = s.parkTimer b := by
  unfold State.parkTimer State.config
  rw [r.now, r.record]

theorem rest_iff : debouncedChange (s.bell b).rest.state (u.bell b).rest.state = true ↔
    (u.bell b).rest.state ≠ (s.bell b).rest.state :=
  debouncedChange_iff (r.before _ (by simp [BellRec.sensors])) (r.after _ (by simp [BellRec.sensors]))

theorem home_iff : debouncedChange (s.bell b).home.state (u.bell b).home.state = true ↔
    (u.bell b).home.state ≠ (s.bell b).home.state :=
  debouncedChange_iff (r.before _ (by simp [BellRec.sensors])) (r.after _ (by simp [BellRec.sensors]))

theorem park_iff : debouncedChange (s.bell b).park.state (u.bell b).park.state = true ↔
    (u.bell b).park.state ≠ (s.bell b).park.state :=
  debouncedChange_iff (r.before _ (by simp [BellRec.sensors])) (r.after _ (by simp [BellRec.sensors]))

theorem rest_known : ∃ x y, (s.bell b).rest.state = some x ∧ (u.bell b).rest.state = some y := by
  obtain ⟨x, hx⟩ := Option.isSome_iff_exists.mp (r.before (s.bell b).rest (by simp [BellRec.sensors]))
  obtain ⟨y, hy⟩ := Option.isSome_iff_exists.mp (r.after (u.bell b).rest (by simp [BellRec.sensors]))
  exact ⟨x, y, hx, hy⟩

end Resampled

/-- The hammer's part of the delivery of bell `b`'s changes from `s` to `u`. -/
def hammerHears (s u : State) (b : Bell) : State :=
  u.hammerSensors b (debouncedChange (s.bell b).rest.state (u.bell b).rest.state)
    (debouncedChange (s.bell b).home.state (u.bell b).home.state) (debouncedChange (s.bell b).park.state (u.bell b).park.state)

section

variable (r : s.Resampled u b) (shown : HammerShown b u (hammerHears s u b) t)
include r shown

theorem ready_follows (is : (s.bell b).hammer = some .ready) :
    let changed := (u.bell b).home.state ≠ (s.bell b).home.state ∨ (u.bell b).park.state ≠ (s.bell b).park.state
    let acts := ((u.bell b).park.state = some true ∧ (u.bell b).park.state ≠ (s.bell b).park.state) ∨
      ((u.bell b).home.state = some true ∧ (u.bell b).park.state = some true ∧ changed)
    (acts → s.hammerFaulted t b .sensorConflict) ∧ (¬acts → t.bell b = u.bell b) := by
  intro changed acts
  rw [hammerHears, hammerSensors_ready (r.hammer.trans is)] at shown
  simp only [r.home_iff, r.park_iff, sensorConflict_iff] at shown
  split_ifs at shown with c
  · exact ⟨fun _ => shown.faults (faultHammer_takes u b _), fun none => absurd (by tauto) none⟩
  · exact ⟨fun act => absurd (by tauto) c, fun _ => shown.still rfl⟩

theorem conflict_follows (conflict : (u.bell b).home.state = some true ∧ (u.bell b).park.state = some true)
    (changed : (u.bell b).home.state ≠ (s.bell b).home.state ∨ (u.bell b).park.state ≠ (s.bell b).park.state)
    (is : (s.bell b).hammer = some .parking ∨ (s.bell b).hammer = some .parked ∨ (s.bell b).hammer = some .unparking) :
    s.hammerFaulted t b .sensorConflict := by
  have heard : hammerHears s u b = u.faultHammer b .sensorConflict false := by
    have both := And.intro ((or_congr r.home_iff r.park_iff).mpr changed) (sensorConflict_iff.mpr conflict)
    unfold hammerHears
    rcases is with is | is | is
    · rw [hammerSensors_parking (r.hammer.trans is), if_pos both]
    · rw [hammerSensors_parked (r.hammer.trans is), if_pos both]
    · rw [hammerSensors_unparking (r.hammer.trans is), if_pos both]
  rw [heard] at shown
  exact shown.faults (faultHammer_takes u b _)

variable (clear : ¬((u.bell b).home.state = some true ∧ (u.bell b).park.state = some true))
include clear

theorem parking_follows (is : (s.bell b).hammer = some .parking) :
    let arrives := (u.bell b).park.state = some true ∧ (u.bell b).park.state ≠ (s.bell b).park.state
    (arrives → s.hammerEnters t b
      (if s.demanded b = false ∧ (u.bell b).rest.state = some true then .unparking else .parked)) ∧
    (¬arrives → t.bell b = u.bell b) := by
  intro arrives
  rw [hammerHears, hammerSensors_parking (r.hammer.trans is)] at shown
  simp only [r.park_iff, sensorConflict_iff, clear, and_false, if_false] at shown
  split_ifs at shown with c
  · refine ⟨fun _ => ?_, fun none => absurd c.symm none⟩
    have state : u.parkedState b =
        if s.demanded b = false ∧ (u.bell b).rest.state = some true then .unparking else .parked := by
      have conflict : u.sensorConflict b = false := Bool.eq_false_iff.mpr fun x => clear (sensorConflict_iff.mp x)
      simp [parkedState, unparkingState, conflict, c.2, r.demanded]
    rw [← state]
    exact shown.enters (enterParked_entered u b) r.parkTimer
  · exact ⟨fun act => absurd act.symm c, fun _ => shown.still rfl⟩

theorem parked_follows (is : (s.bell b).hammer = some .parked) :
    let park := (u.bell b).park.state = some true
    let rises := (u.bell b).rest.state = some true ∧ (s.bell b).rest.state = some false
    (¬park ∧ (u.bell b).park.state ≠ (s.bell b).park.state → s.hammerFaulted t b .parkLost) ∧
    (park → rises → s.demanded b = false → s.hammerEnters t b .unparking) ∧
    (park → ¬(rises ∧ s.demanded b = false) → t.bell b = u.bell b) := by
  intro park rises
  have rise : rises ↔ (u.bell b).rest.state ≠ (s.bell b).rest.state ∧ (u.bell b).rest.state = some true := by
    obtain ⟨x, y, before, after⟩ := r.rest_known
    cases x <;> simp [rises, before, after]
  rw [hammerHears, hammerSensors_parked (r.hammer.trans is)] at shown
  simp only [r.park_iff, r.rest_iff, r.demanded, sensorConflict_iff, clear, and_false, if_false] at shown
  split_ifs at shown with lost free
  · exact ⟨fun _ => shown.faults (faultHammer_takes u b _), fun has => absurd has lost.2, fun has => absurd has lost.2⟩
  · refine ⟨fun x => absurd x.symm lost, fun has _ _ => ?_, fun _ none => absurd ⟨rise.mpr ⟨free.1, free.2.1⟩, free.2.2⟩ none⟩
    have state : u.unparkingState b = .unparking := by
      have conflict : u.sensorConflict b = false := Bool.eq_false_iff.mpr fun x => clear (sensorConflict_iff.mp x)
      have away : ¬(u.bell b).park.state = some false := by rw [show (u.bell b).park.state = some true from has]; decide
      simp [unparkingState, conflict, away]
    rw [← state]
    exact shown.enters (enterUnparking_entered u b) r.parkTimer
  · exact ⟨fun x => absurd x.symm lost, fun _ x demand => absurd ⟨(rise.mp x).1, (rise.mp x).2, demand⟩ free,
      fun _ _ => shown.still rfl⟩

theorem unparking_follows (is : (s.bell b).hammer = some .unparking) :
    let changed := (u.bell b).home.state ≠ (s.bell b).home.state ∨ (u.bell b).park.state ≠ (s.bell b).park.state
    let home := (u.bell b).home.state = some true
    let park := (u.bell b).park.state = some true
    let falls := (u.bell b).rest.state = some false ∧ (s.bell b).rest.state = some true
    (falls → ¬park → s.hammerEnters t b .parking) ∧
    (¬falls → changed → home → s.hammerEnters t b .ready) ∧
    (¬falls → ¬(changed ∧ home ∧ ¬park) → t.bell b = u.bell b) := by
  intro changed home park falls
  have fall : falls ↔ (u.bell b).rest.state ≠ (s.bell b).rest.state ∧ (u.bell b).rest.state ≠ some true := by
    obtain ⟨x, y, before, after⟩ := r.rest_known
    cases y <;> simp [falls, before, after]
  rw [hammerHears, hammerSensors_unparking (r.hammer.trans is)] at shown
  simp only [r.home_iff, r.park_iff, r.rest_iff, sensorConflict_iff, clear, and_false, if_false] at shown
  split_ifs at shown with down arrives
  · refine ⟨fun _ away => ?_, fun none => absurd (fall.mpr down) none, fun none => absurd (fall.mpr down) none⟩
    have state : u.parkingState b = .parking := by
      have conflict : u.sensorConflict b = false := Bool.eq_false_iff.mpr fun x => clear (sensorConflict_iff.mp x)
      simp [parkingState, conflict, show ¬(u.bell b).park.state = some true from away]
    rw [← state]
    exact shown.enters (enterParking_entered u b) r.parkTimer
  · refine ⟨fun x => absurd (fall.mp x) down, fun _ _ _ => ?_, fun _ none => absurd ⟨arrives.1, arrives.2.2, arrives.2.1⟩ none⟩
    exact shown.enters (setHammer_takes (by decide) rfl) r.parkTimer
  · exact ⟨fun x => absurd (fall.mp x) down, fun _ c h => absurd ⟨c, fun p => clear ⟨h, p⟩, h⟩ arrives,
      fun _ _ => shown.still rfl⟩

end

/-- A state that shows what the hammer made of the changes shows its moves by R56 to R59. -/
theorem hammerFollows_of_shown (r : s.Resampled u b) (shown : HammerShown b u (hammerHears s u b) t) :
    s.hammerFollows u t b :=
  ⟨ready_follows r shown, fun is ⟨home, park, changed⟩ => conflict_follows r shown ⟨home, park⟩ changed is,
    fun is clear => parking_follows r shown clear is, fun is clear => parked_follows r shown clear is,
    fun is clear => unparking_follows r shown clear is⟩

end

end Sys2Proof.Machine.State
end

section
/-! PROOFS. What one bell's swing makes of its SW and REST (R137, R138, R140, R141). -/

namespace Sys2Proof.Machine

/-- A swing record that notes a pulse of SW. -/
def SwingRec.pulsed (now : Nat) (r : SwingRec) : SwingRec := { r with lastPulse := some now }

/-- A swing record in a state that its timer ends after `n` s. -/
def SwingRec.timed (x : SwingState) (now n : Nat) (r : SwingRec) : SwingRec := { r with state := x, timer := some (now + n * 256) }

/-- A swing record after a pulse of SW (R137, R138, R141). -/
def SwingRec.atEdge (r : SwingRec) (c : BellConfig) (rest : Option Bool) (now : Nat) : SwingRec :=
  match r.state with
  | .starting => { r.pulsed now with edges := min 255 (r.edges + 1) }
  | .ringing => (r.pulsed now).timed .ringing now c.pulseTimeout
  | .settling => if rest = some true then (r.pulsed now).timed .settling now c.settleTime else r.pulsed now
  | _ => r.pulsed now

/-- A swing record after a change of REST: a quiet bell settles, and one that settles and moves stops (R140, R141). -/
def SwingRec.atRest (r : SwingRec) (c : BellConfig) (rest : Option Bool) (quiet : Bool) (now : Nat) : SwingRec :=
  match r.state with
  | .stopping =>
    if rest = some true ∧ quiet = true then r.timed .settling now c.settleTime else r
  | .settling => if rest = some true then r else r.timed .stopping now c.stopTimeout
  | _ => r

/-- A swing record after a scan: a bell that has just spoken is not quiet (R140). -/
def SwingRec.atSensors (r : SwingRec) (c : BellConfig) (rest : Option Bool) (quiet : Bool) (now : Nat) (edge changed : Bool) :
    SwingRec :=
  let r := if edge then r.atEdge c rest now else r
  if changed then r.atRest c rest (quiet && !edge) now else r

/-- A pulse of SW changes no swing state. -/
theorem SwingRec.atEdge_state (r : SwingRec) (c : BellConfig) (rest : Option Bool) (now : Nat) :
    (r.atEdge c rest now).state = r.state := by
  unfold atEdge
  split
  · rfl
  · exact Eq.symm ‹_›
  · split
    · exact Eq.symm ‹_›
    · rfl
  · rfl

/-- A swing that comes to rest: it drives no motor, and no start waits for it. -/
def SwingState.calm (x : SwingState) : Prop := x = .stopping ∨ x = .settling

theorem SwingState.calm.not_ringing {x : SwingState} (h : x.calm) : x ≠ .ringing := by
  rcases h with rfl | rfl <;> decide

namespace State

section

variable {s t u v w : State} {b : Bell} {f : SwingRec → SwingRec} {quiet : Bool}

/-! ## A change of the swing state that no block hears -/

theorem ringing_of_iff (h : ∀ k, t.swingState k = .ringing ↔ s.swingState k = .ringing) : t.ringing = s.ringing := by
  have same : (fun k => t.swingState k == .ringing) = fun k => s.swingState k == .ringing := by
    funext k
    rw [Bool.eq_iff_iff, beq_iff_eq, beq_iff_eq]
    exact h k
  unfold ringing
  rw [same]

theorem swingRec_swingTaken_of_ne {k : Bell} (other : k ≠ b) : (s.swingTaken b f quiet).swingRec k = s.swingRec k :=
  (congrArg (Table.get · k) (s.setSwing_hears b f quiet).2.symm).trans (((ActsAt.refl True b s).setSwing f quiet).swings k other)

theorem slotRunHears_calm {x : SwingState} (calm : x.calm) : s.slotRunHears b x = s := by
  unfold slotRunHears
  rcases calm with rfl | rfl <;> split <;> rfl

theorem ringing_swingTaken (before : s.swingState b ≠ .ringing) (after : (f (s.swingRec b)).state ≠ .ringing) :
    (s.swingTaken b f quiet).ringing = s.ringing := by
  have state : (s.swingTaken b f quiet).swingState b = (f (s.swingRec b)).state :=
    congrArg SwingRec.state (swingRec_swingTaken s b f quiet)
  refine ringing_of_iff fun k => ?_
  by_cases here : k = b
  · rw [here, state]
    exact iff_of_false after before
  · rw [swingState, swingRec_swingTaken_of_ne here]
    rfl

theorem changeDemands_signals {g : Demands → Demands} (ignores : s.HammerIgnores b g) :
    (s.changeDemands b g).signals = s.signals := by
  rw [changeDemands_ignored ignores]
  rfl

theorem swingTaken_signals (ignores : s.HammerIgnores b (f (s.swingRec b)).state.demandsOf) :
    (s.swingTaken b f quiet).signals = s.signals := by
  have told (t : State) (h : t.HammerIgnores b (f (s.swingRec b)).state.demandsOf) (g : BellRec → BellRec) :
      ((t.changeDemands b (f (s.swingRec b)).state.demandsOf).modBell b g).signals = t.signals := changeDemands_signals h
  cases quiet
  · exact told ((s.modSwingRec b f).raiseAll .bell) ignores _
  · exact told (s.modSwingRec b f) ignores _

/-- From STOPPING to SETTLING and back the load, the lights and the slot runs hear nothing. -/
theorem setSwing_signals (ignores : s.HammerIgnores b (f (s.swingRec b)).state.demandsOf) (before : (s.swingState b).calm)
    (after : (f (s.swingRec b)).state.calm) : (s.setSwing b f quiet).signals = s.signals := by
  have unloaded : s.swingLoad b = 0 := by
    unfold swingLoad
    rcases before with e | e <;> rw [e]
  have ringing := ringing_swingTaken (quiet := quiet) before.not_ringing after.not_ringing
  have taken := swingTaken_signals (quiet := quiet) ignores
  rw [setSwing_eq]
  generalize s.swingTaken b f quiet = t at *
  dsimp only
  rw [slotRunHears_calm after, unloaded, if_neg (Nat.not_lt_zero _), ringCrossing, ringing, if_neg (fun x => x.2 x.1),
    if_neg (fun x => x.1 x.2), taken]

/-! ## A pulse of SW -/

theorem swingRec_modSwingRec_self (s : State) (b : Bell) (f : SwingRec → SwingRec) :
    (s.modSwingRec b f).swingRec b = f (s.swingRec b) := by rw [swingRec_modSwingRec, if_pos rfl]

theorem modSwingRec_only (s : State) (b : Bell) (f : SwingRec → SwingRec) : s.changesOnly [.swing] (s.modSwingRec b f) :=
  modSwingRec_within (changesOnly.refl _ s) (List.Subset.refl _) b f

/-- A bell that has just spoken is not quiet (R140). -/
theorem testRest_of_pulse (h : (s.swingRec b).lastPulse = some s.now) : s.testRest b = s := by
  refine if_neg fun x => ?_
  have quiet := x.2.2
  rw [State.quiet, h] at quiet
  simp at quiet

theorem swingRec_timed {x : SwingState} {n : Nat} (h : (s.swingRec b).state = x) :
    (s.modSwingRec b fun r => { r with timer := some (s.now + n * Config.second) }).swingRec b = (s.swingRec b).timed x s.now n := by
  rw [swingRec_modSwingRec_self, SwingRec.timed, ← h]
  rfl

/-- A pulse of SW changes the swing record alone (R137, R138, R141). -/
theorem swingEdge_spec (v : State) (b : Bell) : v.changesOnly [.swing] (v.swingEdge b) ∧
    (v.swingEdge b).swingRec b = (v.swingRec b).atEdge (v.config b) (v.bell b).rest.state v.now := by
  have pulsed : (v.modSwingRec b fun r => { r with lastPulse := some v.now }).swingRec b = (v.swingRec b).pulsed v.now :=
    swingRec_modSwingRec_self v b _
  have only := modSwingRec_only v b fun r => { r with lastPulse := some v.now }
  have rest : ((v.modSwingRec b fun r => { r with lastPulse := some v.now }).bell b).rest.state = (v.bell b).rest.state := rfl
  have now : (v.modSwingRec b fun r => { r with lastPulse := some v.now }).now = v.now := rfl
  have config : (v.modSwingRec b fun r => { r with lastPulse := some v.now }).config b = v.config b := rfl
  unfold swingEdge SwingRec.atEdge
  generalize v.modSwingRec b (fun r => { r with lastPulse := some v.now }) = p at *
  have state : (p.swingRec b).state = (v.swingRec b).state := by rw [pulsed]; rfl
  have edges : (p.swingRec b).edges = (v.swingRec b).edges := by rw [pulsed]; rfl
  have still := testRest_of_pulse (s := p) (b := b) (by rw [pulsed, now]; rfl)
  have timed (n : Nat) := only.trans (modSwingRec_only p b fun r => { r with timer := some (p.now + n * Config.second) })
  dsimp only
  rw [swingState, state, rest, ← pulsed, ← now, ← config, still]
  generalize (v.swingRec b).state = x at state ⊢
  cases x with
  | starting => exact ⟨only.trans (modSwingRec_only p b _), by rw [swingRec_modSwingRec_self, edges]⟩
  | ringing => exact ⟨timed _, swingRec_timed state⟩
  | settling =>
    dsimp only
    split
    · exact ⟨timed _, swingRec_timed state⟩
    · exact ⟨only, rfl⟩
  | stopping => exact ⟨only, rfl⟩
  | unreported => exact ⟨only, rfl⟩
  | idle => exact ⟨only, rfl⟩
  | parking => exact ⟨only, rfl⟩
  | waitLoad => exact ⟨only, rfl⟩
  | fault => exact ⟨only, rfl⟩

/-! ## A change of REST -/

/-- Bell `b`'s swing has taken a change of its sensors: its record is `r`, and nobody has been told but by the notices. -/
structure SwingHears (b : Bell) (r : SwingRec) (v t : State) : Prop where
  acts : v.ActsAt True b t
  keeps : v.Keeps t
  record : t.swingRec b = r
  signals : t.signals = v.signals
  load : t.load = v.load
  bell : (v.bell b).motor = false → t.bell b = v.bell b

theorem SwingHears.refl (b : Bell) (v : State) : SwingHears b (v.swingRec b) v v :=
  ⟨.refl _ b v, .refl v, rfl, rfl, rfl, fun _ => rfl⟩

theorem SwingHears.trans {r q : SwingRec} (h : SwingHears b r v t) (g : SwingHears b q t u) : SwingHears b q v u :=
  ⟨h.acts.trans g.acts, h.keeps.trans g.keeps, g.record, g.signals.trans h.signals, g.load.trans h.load,
    fun off => (g.bell (by rw [h.bell off, off])).trans (h.bell off)⟩

/-- A swing that goes between STOPPING and SETTLING: its SWING demand stands, and no motor runs. -/
theorem setSwing_hears_calm (before : (v.swingState b).calm) (after : (f (v.swingRec b)).state.calm)
    (demand : (v.bell b).demands.swing = true) : SwingHears b (f (v.swingRec b)) v (v.setSwing b f quiet) := by
  have parks : (f (v.swingRec b)).state.demandsPark = true := by rcases after with e | e <;> rw [e] <;> rfl
  have busy : ((f (v.swingRec b)).state != .idle) = true := by rcases after with e | e <;> rw [e] <;> rfl
  have still : (f (v.swingRec b)).state.demandsMotor = false := by rcases after with e | e <;> rw [e] <;> rfl
  have same : (f (v.swingRec b)).state.demandsOf (v.bell b).demands = (v.bell b).demands := by
    unfold SwingState.demandsOf
    rw [parks, busy, Bool.and_true, ← demand]
  have ignores : v.HammerIgnores b (f (v.swingRec b)).state.demandsOf := .inr (by rw [same]; rfl)
  refine ⟨(ActsAt.refl True b v).setSwing f quiet, (Keeps.refl v).setSwing b f quiet, swingRec_setSwing v b f quiet,
    setSwing_signals ignores before after, setSwing_load v b f quiet, fun off => ?_⟩
  rw [bell_setSwing ignores]
  dsimp only
  rw [same, still, Bool.false_and, ← off]

/-- The test of a bell in STOPPING (R140). -/
theorem testRest_hears (is : v.swingState b = .stopping) (demand : (v.bell b).demands.swing = true) :
    SwingHears b ((v.swingRec b).atRest (v.config b) (v.bell b).rest.state (v.quiet b) v.now) v (v.testRest b) := by
  have state : (v.swingRec b).state = .stopping := is
  unfold SwingRec.atRest testRest
  rw [state]
  dsimp only
  by_cases h : (v.bell b).rest.state = some true ∧ v.quiet b = true
  · rw [if_pos h, if_pos ⟨is, h⟩]
    exact setSwing_hears_calm (f := SwingRec.timed .settling v.now (v.config b).settleTime) (.inl is) (.inr rfl) demand
  · rw [if_neg h, if_neg fun x => h x.2]
    exact .refl b v

theorem ActsAt.rest {held : Prop} (h : s.ActsAt held b t) : (t.bell b).rest = (s.bell b).rest := by
  have same := h.sensors
  simp only [BellRec.sensors, List.cons.injEq] at same
  exact same.2.1

/-- A change of REST (R140, R141). -/
theorem swingRest_hears (demand : (v.swingState b).calm → (v.bell b).demands.swing = true) :
    SwingHears b ((v.swingRec b).atRest (v.config b) (v.bell b).rest.state (v.quiet b) v.now) v (v.swingRest b) := by
  by_cases stopping : v.swingState b = .stopping
  · unfold swingRest
    rw [stopping]
    exact testRest_hears stopping (demand (.inl stopping))
  by_cases settling : v.swingState b = .settling
  · have state : (v.swingRec b).state = .settling := settling
    unfold swingRest SwingRec.atRest
    rw [settling, state]
    dsimp only
    by_cases rest : (v.bell b).rest.state = some true
    · rw [if_pos rest, if_pos rest]
      exact .refl b v
    · have stops : SwingHears b _ v (v.setSwing b (SwingRec.timed .stopping v.now (v.config b).stopTimeout) false) :=
        setSwing_hears_calm (.inr settling) (.inl rfl) (demand (.inr settling))
      have still : testRest b (v.setSwing b (SwingRec.timed .stopping v.now (v.config b).stopTimeout) false) =
          v.setSwing b (SwingRec.timed .stopping v.now (v.config b).stopTimeout) false :=
        if_neg fun x => rest (stops.acts.rest ▸ x.2.1)
      have same : v.toStopping b none false =
          testRest b (v.setSwing b (SwingRec.timed .stopping v.now (v.config b).stopTimeout) false) := rfl
      rw [if_neg rest, if_neg rest, same, still]
      exact stops
  · have same : v.swingRest b = v := by
      unfold swingRest
      split
      · exact absurd ‹_› stopping
      · exact absurd ‹_› settling
      · rfl
    have record : (v.swingRec b).atRest (v.config b) (v.bell b).rest.state (v.quiet b) v.now = v.swingRec b := by
      unfold SwingRec.atRest
      split
      · exact absurd ‹_› stopping
      · exact absurd ‹_› settling
      · rfl
    rw [same, record]
    exact .refl b v

/-! ## Both -/

/-- The swing's part of the delivery of bell `b`'s changes: a pulse of SW, and then a change of REST. -/
def swingSensors (b : Bell) (edge changed : Bool) (s : State) : State :=
  let s := if edge then s.swingEdge b else s
  if changed then s.swingRest b else s

theorem SwingHears.of_only {r : SwingRec} (acts : v.ActsAt True b t) (keeps : v.Keeps t) (only : v.changesOnly [.swing] t)
    (record : t.swingRec b = r) : SwingHears b r v t :=
  ⟨acts, keeps, record, only .signals (by decide), only .load (by decide),
    fun _ => congrArg (fun x : BellTable => x.bells.get b) (only .bells (by decide))⟩

theorem swingEdge_hears (v : State) (b : Bell) :
    SwingHears b ((v.swingRec b).atEdge (v.config b) (v.bell b).rest.state v.now) v (v.swingEdge b) :=
  .of_only (ActsAt.refl True b v).swingEdge ((Keeps.refl v).swingEdge b) (swingEdge_spec v b).1 (swingEdge_spec v b).2

theorem quiet_swingEdge (v : State) (b : Bell) : (v.swingEdge b).quiet b = false := by
  have now : (v.swingEdge b).now = v.now := congrArg Timekeeper.runCount ((swingEdge_spec v b).1 .timekeeper (by decide))
  have pulse : ((v.swingEdge b).swingRec b).lastPulse = some v.now := by
    rw [(swingEdge_spec v b).2]
    unfold SwingRec.atEdge
    split
    · rfl
    · rfl
    · split <;> rfl
    · rfl
  simp [State.quiet, pulse, now]

theorem swingSensors_hears {edge changed : Bool} (demand : (v.swingState b).calm → (v.bell b).demands.swing = true) :
    SwingHears b ((v.swingRec b).atSensors (v.config b) (v.bell b).rest.state (v.quiet b) v.now edge changed) v
      (v.swingSensors b edge changed) := by
  cases edge with
  | false =>
    cases changed with
    | false => exact .refl b v
    | true => simpa [swingSensors, SwingRec.atSensors] using swingRest_hears demand
  | true =>
    have spoke := swingEdge_hears v b
    cases changed with
    | false => exact spoke
    | true =>
      have only := (swingEdge_spec v b).1
      have bell : (v.swingEdge b).bell b = v.bell b := congrArg (fun x : BellTable => x.bells.get b) (only .bells (by decide))
      have now : (v.swingEdge b).now = v.now := congrArg Timekeeper.runCount (only .timekeeper (by decide))
      have config : (v.swingEdge b).config b = v.config b := by rw [State.config, bell]; rfl
      have state : (v.swingEdge b).swingState b = v.swingState b :=
        (congrArg SwingRec.state spoke.record).trans (SwingRec.atEdge_state ..)
      have rests := swingRest_hears (v := v.swingEdge b) (b := b) (by rw [state, bell]; exact demand)
      rw [bell, now, config, quiet_swingEdge, spoke.record] at rests
      simpa [swingSensors, SwingRec.atSensors] using spoke.trans rests

end

end State

end Sys2Proof.Machine
end

section
/-! PROOFS. The delivery of one bell's debounced changes: to its hammer, to its claim, and to its swing (R52). -/

namespace Sys2Proof.Machine.State

section

variable {s t u v m : State} {b : Bell}

/-! ## Reports of a hammer -/

/-- Every signal of `t` was given in `s`, or reports bell `b`'s hammer. -/
def Reports (b : Bell) (s t : State) : Prop := ∀ x ∈ t.signals, x ∈ s.signals ∨ x = .hammer b

theorem Reports.of_eq (h : t.signals = s.signals) : Reports b s t := fun _ mem => .inl (h ▸ mem)

theorem Reports.refl (b : Bell) (s : State) : Reports b s s := .of_eq rfl

theorem Reports.trans (h : Reports b s t) (g : Reports b t u) : Reports b s u :=
  fun x mem => (g x mem).elim (h x) .inr

theorem HammerTakes.reports {x : Hammer} {cause : Option HammerCause} (h : HammerTakes b x cause s t) : Reports b s t := by
  obtain ⟨n, -, signals⟩ := h.signals
  intro y mem
  rw [signals, List.mem_append] at mem
  exact mem.imp_right List.eq_of_mem_replicate

theorem HammerActs.reports (h : HammerActs b s t) : Reports b s t := by
  rcases h with rfl | ⟨x, cause, takes⟩
  · exact .refl b t
  · exact takes.reports

/-- A change of the demand set leaves the set changed, whatever the hammer does (R54). -/
theorem changeDemands_acts (s : State) (b : Bell) (f : Demands → Demands) :
    HammerActs b (s.withDemands b f) (s.changeDemands b f) := by
  rw [changeDemands_eq]
  exact .ite (.inr ⟨_, _, enterParking_entered ..⟩) (.ite (.inr ⟨_, _, enterUnparking_entered ..⟩) (.inl rfl))

/-- What a hammer does leaves its demand set. -/
theorem HammerActs.demands (h : HammerActs b s t) : (t.bell b).demands = (s.bell b).demands := by
  rcases h with rfl | ⟨x, cause, takes⟩
  · rfl
  · rw [takes.record]

theorem demands_changeDemands (s : State) (b : Bell) (f : Demands → Demands) :
    ((s.changeDemands b f).bell b).demands = f (s.bell b).demands := by
  rw [(changeDemands_acts s b f).demands, bell_withDemands]

theorem changeDemands_reports (s : State) (b : Bell) (f : Demands → Demands) : Reports b s (s.changeDemands b f) :=
  (Reports.of_eq (s := s) (t := s.withDemands b f) rfl).trans (changeDemands_acts s b f).reports

/-! ## A claim that ends at rest (R76) -/

theorem endClaim_spec {c : Claim} (has : s.claim b = some c) : (s.endClaim b).claim b = none ∧ Reports b s (s.endClaim b) ∧
    ((s.endClaim b).bell b).demands.swing = (s.bell b).demands.swing ∧
    (c.kind = .rope → ((s.endClaim b).bell b).demands.rope = false) := by
  have free : (s.setClaim b none).claim b = none := by rw [claim_setClaim, if_pos rfl]
  have ends : s.endClaim b = if c.kind = .rope then (s.setClaim b none).ropeDemand b false else s.setClaim b none := by
    unfold endClaim
    rw [has]
  by_cases rope : c.kind = .rope
  · rw [ends, if_pos rope, ropeDemand]
    have claims : ((s.setClaim b none).changeDemands b fun d => { d with rope := false }).claims = (s.setClaim b none).claims :=
      changeDemands_within (changesOnly.refl _ _) (List.Subset.refl _) b _ .claims (by decide)
    refine ⟨(congrArg (fun x : Claims => x.recs.get b) claims).trans free, ?_, ?_, fun _ => ?_⟩
    · exact (Reports.of_eq (s := s) (t := s.setClaim b none) rfl).trans (changeDemands_reports _ b _)
    · rw [demands_changeDemands]
      rfl
    · rw [demands_changeDemands]
  · rw [ends, if_neg rope]
    exact ⟨free, .of_eq rfl, rfl, fun x => absurd x rope⟩

theorem claimAtRest_ends {c : Claim} (has : s.claim b = some c) (releasing : c.releasing = true) :
    s.claimAtRest b = (s.endClaim b).raise .claim c.owner := by
  unfold claimAtRest
  rw [has]
  exact if_pos releasing

theorem claimAtRest_stays (h : ∀ c, s.claim b = some c → c.releasing = false) : s.claimAtRest b = s := by
  unfold claimAtRest
  split
  · rename_i c has
    rw [h c has]
    rfl
  · rfl

/-! ## The three parts -/

/-- The claim's part of the delivery of a change of REST. -/
def claimHears (b : Bell) (rises : Bool) (s : State) : State := if rises then s.claimAtRest b else s

theorem deliverBell_eq (s u : State) (b : Bell) : u.deliverBell (s.bell b) b =
    ((hammerHears s u b).claimHears b (becameTrue (s.bell b).rest.state (u.bell b).rest.state)).swingSensors b
      (becameTrue (s.bell b).sw.state (u.bell b).sw.state) (debouncedChange (s.bell b).rest.state (u.bell b).rest.state) := rfl

/-- What the hammer and the claim make of the changes is no concern of the swing but for its hammer and its demands. -/
structure BeforeSwing (b : Bell) (u v : State) : Prop where
  only : u.changesOnly [.bells, .claims, .link, .signals] v
  acts : u.ActsAt False b v
  reports : Reports b u v
  demand : (v.bell b).demands.swing = (u.bell b).demands.swing

namespace BeforeSwing

theorem refl (b : Bell) (u : State) : BeforeSwing b u u := ⟨changesOnly.refl _ u, .refl _ b u, .refl b u, rfl⟩

theorem trans (h : BeforeSwing b s t) (g : BeforeSwing b t u) : BeforeSwing b s u :=
  ⟨h.only.trans g.only, h.acts.trans g.acts, h.reports.trans g.reports, g.demand.trans h.demand⟩

theorem of_hammer (h : HammerActs b u m) : BeforeSwing b u m := by
  rcases h with rfl | ⟨x, cause, takes⟩
  · exact .refl b m
  · exact ⟨takes.only.mono (by decide), takes.acts.weaken, takes.reports, by rw [takes.record]⟩

theorem claimHears (m : State) (b : Bell) (rises : Bool) : BeforeSwing b m (m.claimHears b rises) := by
  unfold State.claimHears
  split
  · have only : m.changesOnly [.bells, .claims, .link, .signals] (m.claimAtRest b) :=
      claimAtRest_within (changesOnly.refl _ m) (List.Subset.refl _) b
    have acts : m.ActsAt False b (m.claimAtRest b) := (ActsAt.refl False b m).claimAtRest False.elim
    by_cases ends : ∃ c, m.claim b = some c ∧ c.releasing = true
    · obtain ⟨c, has, releasing⟩ := ends
      obtain ⟨-, reports, demand, -⟩ := endClaim_spec has
      rw [claimAtRest_ends has releasing] at only acts ⊢
      exact ⟨only, acts, reports, demand⟩
    · rw [claimAtRest_stays fun c has => Bool.eq_false_iff.mpr fun r => ends ⟨c, has, r⟩]
      exact .refl b m
  · exact .refl b m

/-- The hammer and the claim have taken the changes of bell `b`'s sensors. -/
theorem heard (s u : State) (b : Bell) (rises : Bool) : BeforeSwing b u ((hammerHears s u b).claimHears b rises) :=
  (of_hammer (hammerSensors_acts ..)).trans (claimHears ..)

variable (h : BeforeSwing b u v)
include h

theorem swing : v.swing = u.swing := h.only .swing (by decide)

theorem now : v.now = u.now := congrArg Timekeeper.runCount h.acts.tk

theorem swingRec (k : Bell) : v.swingRec k = u.swingRec k := congrArg (fun w : Swing => w.recs.get k) h.swing

theorem quiet : v.quiet b = u.quiet b := by
  unfold State.quiet
  rw [h.swingRec, h.now]

end BeforeSwing

/-! ## A scan in which one bell's sensors change -/

theorem hammerSensors_none (s : State) (b : Bell) : s.hammerSensors b false false false = s := by
  unfold hammerSensors
  split <;> simp

theorem sameSensors_iff : s.sameSensors u b ↔
    (u.bell b).sw.state = (s.bell b).sw.state ∧ (u.bell b).rest.state = (s.bell b).rest.state ∧
      (u.bell b).home.state = (s.bell b).home.state ∧ (u.bell b).park.state = (s.bell b).park.state := by
  simp [sameSensors, BellRec.sensors]

/-- Where none of its sensors has changed, nothing is delivered to a bell. -/
theorem deliverBell_same (same : s.sameSensors u b) : u.deliverBell (s.bell b) b = u := by
  obtain ⟨sw, rest, home, park⟩ := sameSensors_iff.mp same
  rw [deliverBell_eq, hammerHears, sw, rest, home, park, debouncedChange_self, debouncedChange_self, debouncedChange_self,
    becameTrue_self, becameTrue_self, hammerSensors_none]
  rfl

/-- Operations on all bells in turn, of which that on bell `b` alone has an effect. -/
theorem foldl_allBells_one {f : State → Bell → State} (b : Bell)
    (others : ∀ v k, k ≠ b → v.bell k = u.bell k → f v k = v) (acts : ∀ k, k ≠ b → (f u b).bell k = u.bell k) :
    allBells.foldl f u = f u b := by
  have rest (v : State) (l : List Bell) (out : b ∉ l) (same : ∀ k, k ≠ b → v.bell k = u.bell k) : l.foldl f v = v := by
    induction l with
    | nil => rfl
    | cons k l ih =>
      have other : k ≠ b := fun e => out (e ▸ List.mem_cons_self)
      rw [List.foldl_cons, others v k other (same k other), ih fun mem => out (List.mem_cons_of_mem k mem)]
  have nodup : allBells.Nodup := List.nodup_finRange 24
  have mem : b ∈ allBells := List.mem_finRange b
  obtain ⟨l₁, l₂, split⟩ := List.append_of_mem mem
  rw [split] at nodup ⊢
  obtain ⟨-, nodup₂, distinct⟩ := List.nodup_append.mp nodup
  rw [List.foldl_append, rest u l₁ (fun h => distinct b h b List.mem_cons_self rfl) fun _ _ => rfl, List.foldl_cons]
  exact rest _ l₂ (List.nodup_cons.mp nodup₂).1 acts

/-- Where no bell's sensors have changed, nothing is delivered. -/
theorem deliverBells_same (same : ∀ b, s.sameSensors u b) : u.deliverBells s.bells = u :=
  (foldl_allBells_one (f := fun v k => v.deliverBell (s.bell k) k) 0
    (fun v k _ h => deliverBell_same (s := s) (by unfold sameSensors; rw [h]; exact same k))
    fun k other => (deliverBell_actsAt u (s.bell 0) 0).bells k other).trans (deliverBell_same (same 0))

theorem scanRest_of_still (lockout : u.bells.lockout.state = s.bells.lockout.state) (image : s.bells.imageValid = true)
    (same : v.bells.lockout = u.bells.lockout) : v.scanRest s.bells = v.settle := by
  have none : v.deliverLockout s.bells.lockout.state = v := by
    unfold deliverLockout
    dsimp only
    rw [same, lockout, becameTrue_self, becameFalse_self]
    rfl
  unfold scanRest
  dsimp only
  rw [none, image, Bool.not_true, Bool.and_false]
  rfl

/-- A scan in which only bell `b`'s sensors change delivers its changes, and then the signals that they give (R52). -/
theorem scan_onlySensorsOf (h : s.onlySensorsOf u b) :
    (u.deliverScan s.bells).settle = (u.deliverBell (s.bell b) b).settle := by
  obtain ⟨-, image, lockout, others, -⟩ := h
  have one : u.deliverBells s.bells = u.deliverBell (s.bell b) b :=
    foldl_allBells_one b
      (fun v k other same => deliverBell_same (s := s) (by unfold sameSensors; rw [same]; exact others k other))
      fun k other => (deliverBell_actsAt u (s.bell b) b).bells k other
  rw [deliverScan_settle, one]
  exact scanRest_of_still lockout image (deliverBell_actsAt u (s.bell b) b).lockout

end

end Sys2Proof.Machine.State
end

section
/-! PROOFS. What a scan in which one bell's sensors change makes of that bell's swing (R137, R138, R140, R141). -/

namespace Sys2Proof.Machine

/-! ## The record after a scan -/

namespace SwingRec

variable {r : SwingRec} {c : BellConfig} {rest : Option Bool} {quiet edge changed : Bool} {now : Nat}

theorem atRest_calm (h : r.state.calm) : (r.atRest c rest quiet now).state.calm := by
  unfold atRest
  split
  · split
    · exact .inr rfl
    · exact h
  · split
    · exact h
    · exact .inl rfl
  · exact h

theorem atRest_of_not_calm (h : ¬r.state.calm) : r.atRest c rest quiet now = r := by
  unfold atRest
  split
  · exact absurd (.inl ‹_›) h
  · exact absurd (.inr ‹_›) h
  · rfl

/-- A swing that comes to rest goes on coming to rest. -/
theorem atSensors_calm (h : r.state.calm) : (r.atSensors c rest quiet now edge changed).state.calm := by
  have spoken : (if edge then r.atEdge c rest now else r).state.calm := by
    split
    · rwa [atEdge_state]
    · exact h
  unfold atSensors
  dsimp only
  split
  · exact atRest_calm spoken
  · exact spoken

/-- Another swing takes its pulse alone. -/
theorem atSensors_of_not_calm (h : ¬r.state.calm) :
    r.atSensors c rest quiet now edge changed = if edge then r.atEdge c rest now else r := by
  have spoken : ¬(if edge then r.atEdge c rest now else r).state.calm := by
    split
    · rwa [atEdge_state]
    · exact h
  unfold atSensors
  dsimp only
  split
  · exact atRest_of_not_calm spoken
  · rfl

theorem atSensors_state (h : ¬r.state.calm) : (r.atSensors c rest quiet now edge changed).state = r.state := by
  rw [atSensors_of_not_calm h]
  split
  · exact atEdge_state ..
  · rfl

/-- A swing that comes to rest, or that does not swing, is brought down by nothing, before a scan and after it. -/
theorem atSensors_down (h : r.state.bringsDown = false) :
    (r.atSensors c rest quiet now edge changed).state.bringsDown = false := by
  by_cases calm : r.state.calm
  · rcases atSensors_calm (c := c) (rest := rest) (quiet := quiet) (edge := edge) (changed := changed) (now := now) calm with e | e
    · rw [e]
      rfl
    · rw [e]
      rfl
  · rwa [atSensors_state calm]

/-- STOPPING ends in SETTLING at a change of REST to true of a quiet bell (R140). -/
theorem atSensors_stopping (is : r.state = .stopping) : r.atSensors c rest quiet now edge changed =
    if ¬edge = true ∧ changed = true ∧ rest = some true ∧ quiet = true then r.timed .settling now c.settleTime
    else if edge = true then r.pulsed now else r := by
  have spoken : r.atEdge c rest now = r.pulsed now := by
    unfold atEdge
    rw [is]
  have pulsed : (r.pulsed now).state = .stopping := is
  cases edge <;> cases changed <;> simp [atSensors, spoken, atRest, is, pulsed]

/-- SETTLING is timed afresh by a pulse at rest, and ends in STOPPING at a change of REST to false (R141). -/
theorem atSensors_settling (is : r.state = .settling) : r.atSensors c rest quiet now edge changed =
    if changed = true ∧ ¬rest = some true then (if edge = true then r.pulsed now else r).timed .stopping now c.stopTimeout
    else if edge = true ∧ rest = some true then (r.pulsed now).timed .settling now c.settleTime
    else if edge = true then r.pulsed now else r := by
  have spoken : r.atEdge c rest now = if rest = some true then (r.pulsed now).timed .settling now c.settleTime else r.pulsed now := by
    unfold atEdge
    rw [is]
  have pulsed : (r.pulsed now).state = .settling := is
  by_cases still : rest = some true
  · subst still
    rw [if_pos rfl] at spoken
    have timed : ((r.pulsed now).timed .settling now c.settleTime).state = .settling := rfl
    cases edge <;> cases changed <;> simp [atSensors, spoken, atRest, is, timed]
  · cases edge <;> cases changed <;> simp [atSensors, spoken, atRest, is, pulsed, still]

end SwingRec

namespace State

section

variable {s t u v : State} {b : Bell}

/-- Bell `b`'s swing record in `s` after the debounced changes that `u` shows. -/
def sensed (s u : State) (b : Bell) : SwingRec :=
  (s.swingRec b).atSensors (s.config b) (u.bell b).rest.state (s.quiet b) s.now (becameTrue (s.bell b).sw.state (u.bell b).sw.state)
    (debouncedChange (s.bell b).rest.state (u.bell b).rest.state)

/-- The hammer and the claim have taken the changes of bell `b`'s sensors; the swing has not. -/
def beforeSwing (s u : State) (b : Bell) : State :=
  (hammerHears s u b).claimHears b (becameTrue (s.bell b).rest.state (u.bell b).rest.state)

theorem beforeSwing_spec (s u : State) (b : Bell) : BeforeSwing b u (s.beforeSwing u b) := .heard s u b _

theorem beforeSwing_keeps (s u : State) (b : Bell) : (hammerHears s u b).Keeps (s.beforeSwing u b) :=
  .ite ((Keeps.refl _).claimAtRest b) (.refl _)

/-- The swing takes the changes after the hammer and the claim have. -/
theorem deliverBell_hears (r : s.Resampled u b) (swing : u.swing = s.swing)
    (demand : (s.swingState b).calm → (s.bell b).demands.swing = true) :
    SwingHears b (s.sensed u b) (s.beforeSwing u b) (u.deliverBell (s.bell b) b) := by
  have before := beforeSwing_spec s u b
  have config : (s.beforeSwing u b).config b = s.config b := by
    have kept := (((Keeps.refl u).hammerSensors b _ _ _).trans (beforeSwing_keeps s u b)).bells.config b
    refine kept.trans ?_
    change (u.bell b).config = _
    rw [r.record]
    rfl
  have quiet : (s.beforeSwing u b).quiet b = s.quiet b := by
    rw [before.quiet, State.quiet, State.quiet, r.now, swingRec, swing]
    rfl
  have record : (s.beforeSwing u b).swingRec b = s.swingRec b := by rw [before.swingRec, swingRec, swing]; rfl
  have hears := swingSensors_hears (v := s.beforeSwing u b) (b := b)
    (edge := becameTrue (s.bell b).sw.state (u.bell b).sw.state)
    (changed := debouncedChange (s.bell b).rest.state (u.bell b).rest.state) (by
      rw [swingState, record, before.demand, r.demands]
      exact demand)
  rw [record, config, before.acts.rest, quiet, before.now, r.now] at hears
  exact hears

theorem endClaim_signals (demand : (s.bell b).demands.swing = true) : (s.endClaim b).signals = s.signals := by
  have same : (s.setClaim b none).bell b = s.bell b := rfl
  unfold endClaim
  split
  · split
    · refine changeDemands_signals (.inr ?_)
      rw [demanded, same]
      simp [Demands.isEmpty, demand]
    · rfl
  · rfl

theorem claimAtRest_signals (demand : (s.bell b).demands.swing = true) : (s.claimAtRest b).signals = s.signals := by
  unfold claimAtRest
  split
  · split
    · exact endClaim_signals demand
    · rfl
  · rfl

/-- A hammer that a demand holds in PARKED hears nothing of a change of REST. -/
theorem hammerHears_held (r : s.Resampled u b) (parked : (s.bell b).hammer = some .parked) (demand : (s.bell b).demands.swing = true)
    (home : (u.bell b).home.state = (s.bell b).home.state) (park : (u.bell b).park.state = (s.bell b).park.state) :
    hammerHears s u b = u := by
  have demanded : u.demanded b = true := by
    rw [State.demanded, r.demands]
    simp [Demands.isEmpty, demand]
  rw [hammerHears, hammerSensors_parked (r.hammer.trans parked), home, park, debouncedChange_self, debouncedChange_self, demanded]
  simp

/-- A swing's hammer stays PARKED, and its HOME and PARK do not change. -/
def heldParked (s u : State) (b : Bell) : Prop :=
  (s.bell b).hammer = some .parked ∧ (u.bell b).home.state = (s.bell b).home.state ∧
    (u.bell b).park.state = (s.bell b).park.state

end

/-! ## The swing as the scan leaves it -/

section

variable {s u : State} {b : Bell} (h : s.onlySensorsOf u b) (r : s.Resampled u b) (swing : u.swing = s.swing)
  (signals : u.signals = s.signals)
include h r swing signals

theorem deliverBell_signals (demand : (s.swingState b).calm → (s.bell b).demands.swing = true) :
    ∀ x ∈ (u.deliverBell (s.bell b) b).signals, x = .hammer b := by
  intro x mem
  rw [(deliverBell_hears r swing demand).signals] at mem
  refine ((beforeSwing_spec s u b).reports x mem).resolve_left fun old => ?_
  rw [signals, h.1] at old
  cases old

/-- A bell that neither swings nor waits to is reached by no signal of the scan. -/
theorem scan_of_down (down : (s.swingState b).bringsDown = false)
    (demand : (s.swingState b).calm → (s.bell b).demands.swing = true) :
    (u.deliverScan s.bells).settle = { u.deliverBell (s.bell b) b with
      signals := (u.deliverBell (s.bell b) b).signals.drop Config.signalLimit } := by
  have state : (u.deliverBell (s.bell b) b).swingState b = (s.sensed u b).state :=
    congrArg SwingRec.state (deliverBell_hears r swing demand).record
  rw [scan_onlySensorsOf h]
  refine settle_of_down fun x mem => ⟨b, deliverBell_signals h r swing signals demand x mem, ?_⟩
  rw [state]
  exact SwingRec.atSensors_down down

/-- A bell whose hammer stays PARKED gives no signal. -/
theorem scan_of_held (held : s.heldParked u b) (active : ¬(s.swingState b).calm) (demand : (s.bell b).demands.swing = true) :
    (u.deliverScan s.bells).settle = u.deliverBell (s.bell b) b := by
  obtain ⟨parked, home, park⟩ := held
  rw [scan_onlySensorsOf h]
  refine settle_of_quiet ?_
  rw [(deliverBell_hears r swing fun c => absurd c active).signals, beforeSwing, hammerHears_held r parked demand home park]
  refine Eq.trans ?_ (signals.trans h.1)
  unfold State.claimHears
  split
  · exact claimAtRest_signals (r.demands ▸ demand)
  · rfl

/-- The swing controller as the scan leaves it: bell `b`'s record has taken its sensors, and the others stay (R137 to R141). -/
theorem scan_swing (law : s.demandLaw)
    (settled : (s.swingState b).bringsDown = false ∨
      ((s.swingState b = .starting ∨ s.swingState b = .ringing) ∧ s.heldParked u b)) :
    let t := (u.deliverScan s.bells).settle
    t.swingRec b = s.sensed u b ∧ ∀ k, k ≠ b → t.swingRec k = s.swingRec k := by
  have park : (s.bell b).demands.swing = (s.swingState b).demandsPark := (law b).1
  have demand : (s.swingState b).calm → (s.bell b).demands.swing = true := by
    intro calm
    rw [park]
    rcases calm with e | e <;> rw [e] <;> rfl
  have hears := deliverBell_hears r swing demand
  have same : (u.deliverScan s.bells).settle.swing = (u.deliverBell (s.bell b) b).swing := by
    rcases settled with down | ⟨state, held⟩
    · rw [scan_of_down h r swing signals down demand]
    · rw [scan_of_held h r swing signals held]
      · rcases state with e | e <;> rw [e] <;> rintro (x | x) <;> cases x
      · rw [park]
        rcases state with e | e <;> rw [e] <;> rfl
  have record (k : Bell) : (u.deliverScan s.bells).settle.swingRec k = (u.deliverBell (s.bell b) b).swingRec k :=
    congrArg (fun w : Swing => w.recs.get k) same
  refine ⟨(record b).trans hears.record, fun k other => ?_⟩
  have others := (deliverBell_actsAt u (s.bell b) b).swings k other
  rw [record, others, swingRec, swing]
  rfl

end

end State

end Sys2Proof.Machine
end

section
/-! PROOFS. A hammer that a scan moves, and the swing that waits for it or needs it PARKED (R61, R135, R136, R142). -/

namespace Sys2Proof.Machine

/-- The states that a lock-out brings down: a start that is prepared, and a bell that swings (R144). -/
theorem SwingState.bringsDown_iff {x : SwingState} :
    x.bringsDown = true ↔ x = .parking ∨ x = .waitLoad ∨ x = .starting ∨ x = .ringing := by
  cases x <;> simp [bringsDown]

theorem SwingRec.timed_of_state {r : SwingRec} {x : SwingState} (is : r.state = x) (now n : Nat) :
    r.timed x now n = { r with timer := some (now + n * 256) } := by
  rw [timed, ← is]

namespace State

section

variable {s t u v m : State} {b : Bell}

/-! ## The swing record after a scan, by its state -/

theorem sensed_of_other (starting : s.swingState b ≠ .starting) (ringing : s.swingState b ≠ .ringing)
    (calm : ¬(s.swingState b).calm) : s.sensed u b =
      if (u.bell b).sw.state = some true ∧ (s.bell b).sw.state = some false then
        { s.swingRec b with lastPulse := some s.now }
      else s.swingRec b := by
  have spoken (c : BellConfig) (rest : Option Bool) : (s.swingRec b).atEdge c rest s.now = (s.swingRec b).pulsed s.now := by
    unfold SwingRec.atEdge
    split
    · exact absurd ‹_› starting
    · exact absurd ‹_› ringing
    · exact absurd (.inr ‹_›) calm
    · rfl
  rw [sensed, SwingRec.atSensors_of_not_calm calm, spoken]
  simp only [becameTrue_iff]
  rfl

theorem sensed_starting (is : s.swingState b = .starting) : s.sensed u b =
    if (u.bell b).sw.state = some true ∧ (s.bell b).sw.state = some false then
      { s.swingRec b with lastPulse := some s.now, edges := min 255 ((s.swingRec b).edges + 1) }
    else s.swingRec b := by
  have state : (s.swingRec b).state = .starting := is
  have calm : ¬(s.swingRec b).state.calm := by rw [state]; rintro (x | x) <;> cases x
  have spoken (c : BellConfig) (rest : Option Bool) : (s.swingRec b).atEdge c rest s.now =
      { (s.swingRec b).pulsed s.now with edges := min 255 ((s.swingRec b).edges + 1) } := by
    unfold SwingRec.atEdge
    rw [state]
  rw [sensed, SwingRec.atSensors_of_not_calm calm, spoken]
  simp only [becameTrue_iff]
  rfl

theorem sensed_ringing (is : s.swingState b = .ringing) : s.sensed u b =
    if (u.bell b).sw.state = some true ∧ (s.bell b).sw.state = some false then
      { s.swingRec b with lastPulse := some s.now, timer := some (s.now + (s.config b).pulseTimeout * 256) }
    else s.swingRec b := by
  have state : (s.swingRec b).state = .ringing := is
  have calm : ¬(s.swingRec b).state.calm := by rw [state]; rintro (x | x) <;> cases x
  have spoken (rest : Option Bool) : (s.swingRec b).atEdge (s.config b) rest s.now =
      ((s.swingRec b).pulsed s.now).timed .ringing s.now (s.config b).pulseTimeout := by
    unfold SwingRec.atEdge
    rw [state]
  rw [sensed, SwingRec.atSensors_of_not_calm calm, spoken, SwingRec.timed_of_state (r := (s.swingRec b).pulsed s.now) state]
  simp only [becameTrue_iff]
  rfl

/-- What the swing makes of its sensors in a scan of one bell's changes (R137, R138, R140, R141). -/
theorem swingFollows_of_scan (h : s.onlySensorsOf u b) (r : s.Resampled u b) (swing : u.swing = s.swing)
    (signals : u.signals = s.signals) (law : s.demandLaw) : s.swingFollows u (u.deliverScan s.bells).settle b := by
  have scan := scan_swing h r swing signals law
  have down (x : (s.swingState b).bringsDown = false) := (scan (.inl x)).1
  unfold swingFollows
  intro w old new edge rest changed held pulsed
  have state : s.swingState b = w.state := rfl
  refine ⟨fun k other notParking notWaiting holds => (scan ?_).2 k other, fun is => ?_, fun is holds => ?_, fun is holds => ?_,
    fun is => ?_, fun is => ?_⟩
  · by_cases lowered : (s.swingState b).bringsDown = false
    · exact .inl lowered
    · have swings : w.state = .starting ∨ w.state = .ringing := by
        rcases SwingState.bringsDown_iff.mp (Bool.not_eq_false _ ▸ lowered) with e | e | e | e
        · exact absurd e notParking
        · exact absurd e notWaiting
        · exact .inl e
        · exact .inr e
      exact .inr ⟨swings, holds swings⟩
  · have lowered : (s.swingState b).bringsDown = false := by
      rw [state]
      rcases is with e | e <;> rw [e] <;> rfl
    refine (down lowered).trans (sensed_of_other ?_ ?_ ?_)
    all_goals
      rw [state]
      rcases is with e | e <;> rw [e]
    · decide
    · decide
    · decide
    · decide
    · rintro (x | x) <;> cases x
    · rintro (x | x) <;> cases x
  · rw [(scan (.inr ⟨.inl is, holds⟩)).1, sensed_starting is]
    by_cases e : edge
    · rw [if_pos e, if_pos e]
      simp only [pulsed, if_pos e, w]
    · rw [if_neg e, if_neg e]
  · rw [(scan (.inr ⟨.inr is, holds⟩)).1, sensed_ringing is]
    by_cases e : edge
    · rw [if_pos e, if_pos e]
      simp only [pulsed, if_pos e, w]
    · rw [if_neg e, if_neg e]
  · rw [down (by rw [state, is]; rfl), sensed, SwingRec.atSensors_stopping is]
    simp only [becameTrue_iff, r.rest_iff]
    rfl
  · rw [down (by rw [state, is]; rfl), sensed, SwingRec.atSensors_settling is]
    simp only [becameTrue_iff, r.rest_iff]
    have same : (if edge then w.pulsed s.now else w) = pulsed := rfl
    by_cases moves : changed ∧ ¬rest
    · rw [if_pos moves, if_pos moves, ← same]
      rfl
    rw [if_neg moves, if_neg moves]
    by_cases rings : edge ∧ rest
    · rw [if_pos rings, if_pos rings, ← same, if_pos rings.1, SwingRec.timed_of_state (r := w.pulsed s.now) is]
    · rw [if_neg rings, if_neg rings, ← same]


end

end State

end Sys2Proof.Machine
end

section
/-! PROOFS. What a scan in which one bell's sensors change shows of its hammer, and of the swing that waits for the hammer or needs it
PARKED (R61, R135, R136, R142). -/

namespace Sys2Proof.Machine.State

section

variable {s t u v m : State} {b : Bell}

/-! ## The delivery of the changes where no claim ends -/

theorem swingSensors_bells {edge changed : Bool} (calm : ¬(v.swingState b).calm) :
    (v.swingSensors b edge changed).bells = v.bells := by
  have spoke := swingEdge_spec v b
  have stays (w : State) (h : ¬(w.swingState b).calm) : w.swingRest b = w := by
    unfold swingRest
    split
    · exact absurd (.inl ‹_›) h
    · exact absurd (.inr ‹_›) h
    · rfl
  have spoken : (if edge then v.swingEdge b else v).bells = v.bells ∧
      ¬((if edge then v.swingEdge b else v).swingState b).calm := by
    split
    · refine ⟨spoke.1 .bells (by decide), ?_⟩
      rw [swingState, spoke.2, SwingRec.atEdge_state]
      exact calm
    · exact ⟨rfl, calm⟩
  unfold swingSensors
  dsimp only
  split
  · rw [stays _ spoken.2]
    exact spoken.1
  · exact spoken.1

/-- The claim of bell `b` does not end in the scan. -/
def claimStays (s u : State) (b : Bell) : Prop :=
  ∀ c, s.claim b = some c → c.releasing = true → ¬((u.bell b).rest.state = some true ∧ (s.bell b).rest.state = some false)

theorem hammerActs_claim (h : HammerActs b u m) : m.claim b = u.claim b := by
  rcases h with rfl | ⟨x, cause, takes⟩
  · rfl
  · exact (takes.acts.rope trivial).2

theorem beforeSwing_of_stays (claims : u.claims = s.claims) (stays : s.claimStays u b) :
    s.beforeSwing u b = hammerHears s u b := by
  unfold beforeSwing claimHears
  split
  · rename_i rises
    refine claimAtRest_stays fun c has => Bool.eq_false_iff.mpr fun releasing => ?_
    have old : s.claim b = some c := by
      have same : u.claim b = s.claim b := by rw [claim, claims]; rfl
      rw [← same, ← hammerActs_claim (hammerSensors_acts u b _ _ _)]
      exact has
    exact stays c old releasing (becameTrue_iff.mp rises)
  · rfl

/-- The changes of bell `b`'s sensors have been delivered in `f`, and no claim has ended. -/
structure Delivered (b : Bell) (s u f : State) : Prop where
  record : f.swingRec b = s.sensed u b
  bell : f.bell b = (hammerHears s u b).bell b
  signals : f.signals = (hammerHears s u b).signals
  load : f.load = u.load
  keeps : (hammerHears s u b).Keeps f

theorem deliverBell_delivered (r : s.Resampled u b) (swing : u.swing = s.swing) (claims : u.claims = s.claims)
    (stays : s.claimStays u b) (demand : (s.swingState b).calm → (s.bell b).demands.swing = true)
    (still : (s.swingState b).calm → (s.bell b).motor = false) : Delivered b s u (u.deliverBell (s.bell b) b) := by
  have hears := deliverBell_hears r swing demand
  have same := beforeSwing_of_stays claims stays
  have acts := hammerSensors_acts u b (debouncedChange (s.bell b).rest.state (u.bell b).rest.state)
    (debouncedChange (s.bell b).home.state (u.bell b).home.state) (debouncedChange (s.bell b).park.state (u.bell b).park.state)
  change HammerActs b u (hammerHears s u b) at acts
  have before := BeforeSwing.of_hammer acts
  rw [same] at hears
  refine ⟨hears.record, ?_, hears.signals, hears.load.trans (before.only .load (by decide)), hears.keeps⟩
  by_cases calm : (s.swingState b).calm
  · refine hears.bell ?_
    rcases acts with none | ⟨x, cause, takes⟩
    · rw [none, r.motor, still calm]
    · rw [takes.record, r.motor, still calm, Bool.false_and]
  · have state : ¬((hammerHears s u b).swingState b).calm := by
      rw [swingState, before.swingRec, swingRec, swing]
      exact calm
    rw [deliverBell_eq, show (hammerHears s u b).claimHears b _ = hammerHears s u b from same]
    exact congrArg (fun x : BellTable => x.bells.get b) (swingSensors_bells state)

/-! ## Reports that no swing takes up -/

/-- Reports of one hammer that its swing does not take up are delivered without any effect. -/
theorem settleFor_of_unheard (only : ∀ x ∈ s.signals, x = .hammer b)
    (unheard : ∀ l, hammerReported b { s with signals := l } = { s with signals := l }) (n : Nat) :
    s.settleFor n = { s with signals := s.signals.drop n } := by
  induction n generalizing s with
  | zero => rfl
  | succ n ih =>
    cases signals : s.signals with
    | nil =>
      rw [settleFor_of_quiet signals, List.drop_nil]
      exact congrArg (fun l => { s with signals := l }) signals
    | cons x rest =>
      have delivered : deliver x { s with signals := rest } = { s with signals := rest } := by
        rw [only x (signals ▸ List.mem_cons_self)]
        exact unheard rest
      rw [settleFor_cons signals, delivered]
      exact ih (s := { s with signals := rest }) (fun y mem => only y (signals ▸ List.mem_cons_of_mem _ mem)) unheard

/-- A hammer that moves on is of no account to a bell in PARKING, nor one that stays PARKED to a bell that is past it. -/
theorem hammerReported_unheard
    (h : (s.swingState b = .parking ∧ (s.bell b).hammer ≠ some .parked ∧ (s.bell b).hammer ≠ some .fault) ∨
      ((s.swingState b = .waitLoad ∨ s.swingState b = .starting ∨ s.swingState b = .ringing) ∧
        (s.bell b).hammer = some .parked)) : s.hammerReported b = s := by
  unfold hammerReported
  rcases h with ⟨state, parked, fault⟩ | ⟨state, parked⟩
  · rw [state]
    split <;> simp_all
  · rw [parked]
    rcases state with e | e | e <;> rw [e] <;> rfl

/-! ## A bell that waits for load with its hammer PARKED (R136, R164) -/

/-- Bell `b` waits for load or has been started on a hammer that is PARKED, with a cause that stands. -/
structure ParkedForStart (b : Bell) (c : Option HammerCause) (s : State) : Prop where
  hammer : (s.bell b).hammer = some .parked
  timer : (s.bell b).timer = none
  cause : (s.bell b).cause = c
  demand : (s.bell b).demands.swing = true
  state : s.swingState b = .waitLoad ∨ s.swingState b = .starting

namespace ParkedForStart

variable {c : Option HammerCause}

theorem of_same (p : ParkedForStart b c s) (bell : t.bell b = s.bell b) (swing : t.swingRec b = s.swingRec b) :
    ParkedForStart b c t := by
  obtain ⟨hammer, timer, cause, demand, state⟩ := p
  refine ⟨?_, ?_, ?_, ?_, ?_⟩
  · rw [bell, hammer]
  · rw [bell, timer]
  · rw [bell, cause]
  · rw [bell, demand]
  · rwa [swingState, swing]

/-- A bell whose hammer is PARKED goes over to WAIT-LOAD or STARTING. -/
theorem setSwing {f : SwingRec → SwingRec} (hammer : (s.bell b).hammer = some .parked) (timer : (s.bell b).timer = none)
    (cause : (s.bell b).cause = c) (demand : (s.bell b).demands.swing = true)
    (state : (f (s.swingRec b)).state = .waitLoad ∨ (f (s.swingRec b)).state = .starting) :
    ParkedForStart b c (s.setSwing b f false) := by
  have parks : (f (s.swingRec b)).state.demandsPark = true := by rcases state with e | e <;> rw [e] <;> rfl
  have ignores : s.HammerIgnores b (f (s.swingRec b)).state.demandsOf :=
    .inr (by simp [demanded, Demands.isEmpty, demand, SwingState.demandsOf, parks])
  have record := bell_setSwing (quiet := false) ignores
  refine ⟨?_, ?_, ?_, ?_, ?_⟩
  · rw [record, hammer]
  · rw [record, timer]
  · rw [record, cause]
  · rw [record]
    exact parks
  · rwa [swingState_setSwing]

theorem toStarting (p : ParkedForStart b c s) : ParkedForStart b c (s.toStarting b) :=
  setSwing p.hammer p.timer p.cause p.demand (.inr rfl)

theorem kept : KeptBySignals b (ParkedForStart b c) where
  away other acts p := p.of_same (acts.bells b other.symm) (acts.swings b other.symm)
  reported {s} p := by
    rw [hammerReported_unheard (.inr ⟨p.state.imp_right .inl, p.hammer⟩)]
    exact p
  starts := .inr fun _ p => p.toStarting
  parks := .inl fun s p => startRefusal_of_busy (by rcases p.state with e | e <;> rw [e] <;> decide) none

/-- A bell in PARKING whose hammer is PARKED waits for load, or is started (R135, R164). -/
theorem toWaitLoad (hammer : (s.bell b).hammer = some .parked) (timer : (s.bell b).timer = none) (cause : (s.bell b).cause = c)
    (demand : (s.bell b).demands.swing = true) (room : s.load.queue.length < 8) : ParkedForStart b c (s.toWaitLoad b) := by
  have waits : ParkedForStart b c (s.setSwing b (fun r => { r with state := .waitLoad }) false) :=
    setSwing hammer timer cause demand (.inl rfl)
  have free : (s.setSwing b (fun r => { r with state := .waitLoad }) false).load.queue.length < 8 := by rwa [setSwing_load]
  unfold State.toWaitLoad
  dsimp only
  generalize s.setSwing b (fun r => { r with state := .waitLoad }) false = w at waits free ⊢
  have joins : ParkedForStart b c (w.joinLoadQueue b) := by
    have full : ¬Config.loadQueue ≤ w.load.queue.length := Nat.not_le.mpr free
    unfold joinLoadQueue
    dsimp only
    rw [if_neg full]
    exact waits.of_same rfl rfl
  split
  · split
    · rename_i made
      have frame : w.changesOnly [.lights, .link] _ := makeRoom_within (changesOnly.refl _ _) (List.Subset.refl _) made
      exact (waits.of_same (congrArg (fun x : BellTable => x.bells.get b) (frame .bells (by decide)))
        (congrArg (fun x : Swing => x.recs.get b) (frame .swing (by decide)))).toStarting
    · exact joins
  · exact joins

end ParkedForStart

/-! ## The hammer as the scan leaves it -/

/-- A hammer that has gone over to a state has reported it. -/
theorem HammerTakes.moved {x : Hammer} {cause : Option HammerCause} (h : HammerTakes b x cause u m) : m ≠ u := by
  rintro rfl
  obtain ⟨n, -, signals⟩ := h.signals
  have length := congrArg List.length signals
  simp at length

/-- The swing has entered FAULT for its hammer, which stands as it was (R142). -/
theorem swingFaults_shown {x : Hammer} {cause : Option HammerCause} {c : SwingFault} (takes : HammerTakes b x cause u m)
    (bell : v.bell b = m.bell b) (keeps : m.Keeps v) (demand : (m.bell b).demands.swing = true) (n : Nat) :
    HammerShown b u m ((v.swingFaults b c).settleFor n) ∧ ((v.swingFaults b c).settleFor n).swingFaulted b (v.swingRec b) c := by
  have ignores : v.HammerIgnores b SwingState.fault.demandsOf :=
    .inr (by simp [demanded, Demands.isEmpty, bell, demand, SwingState.demandsOf, SwingState.demandsPark])
  have rests := swingFaults_rests v b c
  have record := (rests.settleFor n).bell.trans (bell_swingFaults ignores)
  rw [bell] at record
  refine ⟨⟨?_, ?_, ?_, fun _ _ => ?_, fun _ => ((keeps.swingFaults b c).settleFor n).noticedAll,
    fun same => absurd same takes.moved⟩, swingFaulted_settleFor (swingFaults_swingFaulted ignores) rests n⟩
  · rw [record]
  · rw [record]
  · rw [record]
  · rw [motorLine, record]

/-- The swing's fault of its bell's hammer: PARK-FAULT while it waits for it, HAMMER-LOST from WAIT-LOAD on (R142). -/
def hammerFault (x : SwingState) : SwingFault := if x = .parking then .parkFault else .hammerLost

/-- What the scan shows of a moved hammer and of a swing that takes up its report. -/
theorem scan_of_taken {x : Hammer} {cause : Option HammerCause} (takes : HammerTakes b x cause u (hammerHears s u b))
    (f : Delivered b s u v) (quiet : u.signals = []) (active : (s.swingState b).bringsDown = true)
    (demand : (u.bell b).demands.swing = true) (room : u.load.queue.length < 8) :
    HammerShown b u (hammerHears s u b) v.settle ∧
      (x = .fault → v.settle.swingFaulted b (s.sensed u b) (hammerFault (s.swingState b))) := by
  obtain ⟨n, -, reports⟩ := takes.signals
  have hammer : ((hammerHears s u b).bell b).hammer = some x := by rw [takes.record]
  have demanded : ((hammerHears s u b).bell b).demands.swing = true := by rw [takes.record]; exact demand
  have state : v.swingState b = s.swingState b := by
    rw [swingState, f.record]
    refine SwingRec.atSensors_state (?_ : ¬(s.swingState b).calm)
    rintro (e | e) <;> rw [e] at active <;> cases active
  have signals : v.signals = .hammer b :: List.replicate n (.hammer b) := by
    rw [f.signals, reports, quiet]
    rfl
  have first : v.settle = settleFor 99999 (hammerReported b { v with signals := List.replicate n (.hammer b) }) :=
    settle_cons signals
  have keeps : (hammerHears s u b).Keeps { v with signals := List.replicate n (.hammer b) } := f.keeps.takeSignal _
  have bell : bell { v with signals := List.replicate n (.hammer b) } b = (hammerHears s u b).bell b := f.bell
  have here : swingState { v with signals := List.replicate n (.hammer b) } b = s.swingState b := state
  obtain ⟨parks, lost⟩ := hammerReported_faults (s := { v with signals := List.replicate n (.hammer b) })
    (by rw [bell]; exact hammer)
  rw [here] at parks lost
  have unheard (none : (s.swingState b = .parking ∧ x ≠ .parked ∧ x ≠ .fault) ∨
      ((s.swingState b = .waitLoad ∨ s.swingState b = .starting ∨ s.swingState b = .ringing) ∧ x = .parked)) :
      HammerShown b u (hammerHears s u b) v.settle := by
    have settled : v.settle = { v with signals := v.signals.drop Config.signalLimit } := by
      refine settleFor_of_unheard (b := b) (fun y mem => ?_) (fun l => hammerReported_unheard ?_) _
      · rw [signals] at mem
        exact List.eq_of_mem_replicate (n := n + 1) mem
      · change (v.swingState b = _ ∧ (v.bell b).hammer ≠ _ ∧ (v.bell b).hammer ≠ _) ∨
          ((v.swingState b = _ ∨ v.swingState b = _ ∨ v.swingState b = _) ∧ (v.bell b).hammer = _)
        rw [state, f.bell, hammer]
        simpa using none
    rw [settled]
    exact .of_bell f.bell (f.keeps.takeSignal _)
  rcases SwingState.bringsDown_iff.mp active with parking | past
  · by_cases fault : x = .fault
    · rw [first, parks parking fault, hammerFault, if_pos parking, ← f.record]
      obtain ⟨shown, faulted⟩ := swingFaults_shown takes bell keeps demanded (c := .parkFault) 99999
      exact ⟨shown, fun _ => faulted⟩
    · refine ⟨?_, fun is => absurd is fault⟩
      by_cases parked : x = .parked
      · subst parked
        have reported : hammerReported b { v with signals := List.replicate n (.hammer b) } =
            toWaitLoad b { v with signals := List.replicate n (.hammer b) } := by
          unfold hammerReported
          rw [here, bell, hammer, parking]
        have starts : ParkedForStart b ((hammerHears s u b).bell b).cause v.settle := by
          rw [first, reported]
          refine ParkedForStart.kept.settleFor _ (.toWaitLoad ?_ ?_ ?_ ?_ ?_)
          · rw [bell, hammer]
          · rw [bell, takes.record]
            rfl
          · rw [bell]
          · rw [bell, demanded]
          · change v.load.queue.length < 8
            rwa [f.load]
        refine ⟨?_, ?_, starts.cause, fun is => ?_, fun _ => (f.keeps.settle).noticedAll, fun same => absurd same takes.moved⟩
        · rw [starts.hammer, hammer]
        · rw [starts.timer, takes.record]
          rfl
        · rw [hammer] at is
          cases is
      · exact unheard (.inl ⟨parking, parked, fault⟩)
  · by_cases parked : x = .parked
    · exact ⟨unheard (.inr ⟨past, parked⟩), fun is => by rw [parked] at is; cases is⟩
    · have cause : hammerFault (s.swingState b) = .hammerLost := if_neg (by rcases past with e | e | e <;> rw [e] <;> decide)
      rw [first, lost past parked, cause, ← f.record]
      obtain ⟨shown, faulted⟩ := swingFaults_shown takes bell keeps demanded (c := .hammerLost) 99999
      exact ⟨shown, fun _ => faulted⟩

section

variable (h : s.onlySensorsOf u b) (r : s.Resampled u b) (only : s.changesOnly [.bells] u) (stays : s.claimStays u b)
include h r only stays

/-- A swing that is down takes up no report of its hammer. -/
theorem scan_shown_of_down (down : (s.swingState b).bringsDown = false)
    (demand : (s.swingState b).calm → (s.bell b).demands.swing = true)
    (still : (s.swingState b).calm → (s.bell b).motor = false) :
    HammerShown b u (hammerHears s u b) (u.deliverScan s.bells).settle := by
  have f := deliverBell_delivered r (only .swing (by decide)) (only .claims (by decide)) stays demand still
  rw [scan_of_down h r (only .swing (by decide)) (only .signals (by decide)) down demand]
  exact .of_bell f.bell (f.keeps.takeSignal _)

variable (law : s.demandLaw) (motors : s.motorLaw) (room : s.load.queue.length < 8)
include law motors room

/-- What the scan shows of the hammer of a bell in any swing state, and that a hammer in FAULT has taken its swing with it. -/
theorem scan_shown :
    HammerShown b u (hammerHears s u b) (u.deliverScan s.bells).settle ∧
      ((s.swingState b).bringsDown = true → (s.bell b).hammer ≠ some .fault →
        ((hammerHears s u b).bell b).hammer = some .fault →
        (u.deliverScan s.bells).settle.swingFaulted b (s.sensed u b) (hammerFault (s.swingState b))) := by
  have park : (s.bell b).demands.swing = (s.swingState b).demandsPark := (law b).1
  have demand (calm : (s.swingState b).calm) : (s.bell b).demands.swing = true := by
    rw [park]
    rcases calm with e | e <;> rw [e] <;> rfl
  have still (calm : (s.swingState b).calm) : (s.bell b).motor = false := by
    refine Bool.eq_false_iff.mpr fun on => ?_
    rcases (motors b on).1 with e | e <;> rw [e] at calm <;> rcases calm with x | x <;> cases x
  by_cases active : (s.swingState b).bringsDown = true
  case neg =>
    exact ⟨scan_shown_of_down h r only stays (Bool.eq_false_iff.mpr active) demand still, fun is => absurd is active⟩
  have f := deliverBell_delivered r (only .swing (by decide)) (only .claims (by decide)) stays demand still
  have quiet : u.signals = [] := (only .signals (by decide)).trans h.1
  have demanded : (u.bell b).demands.swing = true := by
    rw [r.demands, park]
    rcases SwingState.bringsDown_iff.mp active with e | e | e | e <;> rw [e] <;> rfl
  have acts : HammerActs b u (hammerHears s u b) := hammerSensors_acts ..
  rw [scan_onlySensorsOf h]
  rcases acts with none | ⟨x, cause, takes⟩
  · rw [settle_of_quiet (f.signals.trans (by rw [none, quiet]))]
    refine ⟨.of_bell f.bell f.keeps, fun _ sound fault => absurd ?_ sound⟩
    rwa [none, r.hammer] at fault
  · obtain ⟨shown, faulted⟩ := scan_of_taken takes f quiet active demanded
      (by rw [show u.load = s.load from only .load (by decide)]; exact room)
    refine ⟨shown, fun _ _ fault => faulted ?_⟩
    rw [takes.record] at fault
    exact Option.some.inj fault

/-- A hammer that enters FAULT in a scan takes with it the swing that waits for it or needs it PARKED (R142). -/
theorem swingFollowsHammer_of_scan : s.swingFollowsHammer u (u.deliverScan s.bells).settle b := by
  obtain ⟨shown, faulted⟩ := scan_shown h r only stays law motors room
  unfold swingFollowsHammer
  intro w edge pulsed sound fault
  rw [shown.hammer] at fault
  have taken (x : SwingState) (is : w.state = x) (active : x.bringsDown = true) :
      (u.deliverScan s.bells).settle.swingFaulted b (s.sensed u b) (hammerFault x) := by
    have state : s.swingState b = x := is
    rw [← state] at active ⊢
    exact faulted active sound fault
  have other (x : SwingState) (is : w.state = x) (starting : x ≠ .starting) (ringing : x ≠ .ringing) (calm : ¬x.calm) :
      s.sensed u b = pulsed := by
    have state : s.swingState b = x := is
    refine sensed_of_other ?_ ?_ ?_ <;> rw [state] <;> assumption
  refine ⟨fun is => ?_, fun is => ?_, fun is => ?_⟩
  · have t := taken _ is rfl
    rwa [other _ is (by decide) (by decide) (by rintro (x | x) <;> cases x)] at t
  · rcases is with is | is
    · have t := taken _ is rfl
      rwa [other _ is (by decide) (by decide) (by rintro (x | x) <;> cases x)] at t
    · have t := taken _ is rfl
      rw [sensed_ringing is] at t
      by_cases e : edge
      · rw [if_pos e] at t
        simp only [pulsed, if_pos e]
        exact t
      · rw [if_neg e] at t
        simp only [pulsed, if_neg e]
        exact t
  · have t := taken _ is rfl
    rw [sensed_starting is] at t
    by_cases e : edge
    · rw [if_pos e] at t ⊢
      simp only [pulsed, if_pos e]
      exact t
    · rw [if_neg e] at t ⊢
      exact t

end

end

end Sys2Proof.Machine.State
end

section
/-! PROOFS. The scan's clauses on one bell's sensors and on the claims (R52, R76). -/

namespace Sys2Proof.Machine.State

section

variable {s t u : State} {b : Bell}

/-- A scan in which one bell's sensors change moves its hammer and its swing by R56 to R59 and R137 to R142. -/
theorem scan_of_sensors {m : BitVec 96} {lockout mains : Bool} (h : s.onlySensorsOf (s.debounced m lockout mains) b) :
    let u := s.debounced m lockout mains
    let t := (u.deliverScan s.bells).settle
    (s.swingState b = .idle → s.claim b = none → s.hammerFollows u t b) ∧ (s.demandLaw → s.swingFollows u t b) ∧
      (s.demandLaw → s.motorLaw → s.load.queue.length < 8 → s.claimStays u b →
        s.hammerFollows u t b ∧ s.swingFollowsHammer u t b) := by
  intro u t
  have r : s.Resampled u b := .debounced h.2.2.2.2
  have only : s.changesOnly [.bells] u := modBells_within (changesOnly.refl _ s) (List.Subset.refl _) _
  refine ⟨fun idle free => ?_, fun law => swingFollows_of_scan h r rfl rfl law, fun law motors room stays => ?_⟩
  · have restless (x : (s.swingState b).calm) : False := by
      rw [idle] at x
      rcases x with e | e <;> cases e
    refine hammerFollows_of_shown r (scan_shown_of_down h r only ?_ (by rw [idle]; rfl) (fun x => (restless x).elim)
      fun x => (restless x).elim)
    intro c has
    rw [free] at has
    cases has
  · exact ⟨hammerFollows_of_shown r (scan_shown h r only stays law motors room).1,
      swingFollowsHammer_of_scan h r only stays law motors room⟩

/-! ## Operations on each bell in turn -/

/-- Operations on all bells in turn: bell `b` sees its own only, and the notices stand. -/
theorem foldl_allBells_keeps {f : State → Bell → State} (acts : ∀ (u : State) k, ∃ held, u.ActsAt held k (f u k))
    (keeps : ∀ (u : State) k, u.Keeps (f u k)) (b : Bell) (s : State) :
    ∃ u, Apart b s u ∧ Apart b (f u b) (allBells.foldl f s) ∧ s.Keeps u ∧ (f u b).Keeps (allBells.foldl f s) := by
  have others (l : List Bell) (out : b ∉ l) (s : State) : Apart b s (l.foldl f s) := by
    refine List.foldlRecOn (motive := Apart b s) l f (Apart.refl b s) fun u h k mem => ?_
    obtain ⟨held, act⟩ := acts u k
    exact h.trans (Apart.of_actsAt (fun e => out (e ▸ mem)) act)
  have kept (l : List Bell) (s : State) : s.Keeps (l.foldl f s) := (Keeps.refl s).foldl (fun u k h => h.trans (keeps u k)) l
  have nodup : allBells.Nodup := List.nodup_finRange 24
  have mem : b ∈ allBells := List.mem_finRange b
  obtain ⟨l₁, l₂, split⟩ := List.append_of_mem mem
  rw [split] at nodup ⊢
  obtain ⟨-, nodup₂, distinct⟩ := List.nodup_append.mp nodup
  refine ⟨l₁.foldl f s, others l₁ (fun h => distinct b h b List.mem_cons_self rfl) s, ?_, kept l₁ s, ?_⟩
  all_goals rw [List.foldl_append, List.foldl_cons]
  · exact others l₂ (List.nodup_cons.mp nodup₂).1 _
  · exact kept l₂ _

/-- What comes to bell `b` of the changes of all bells. -/
theorem deliverBells_at (old : BellTable) (u : State) (b : Bell) :
    ∃ w, Apart b u w ∧ Apart b (w.deliverBell (old.bells.get b) b) (u.deliverBells old) ∧ u.Keeps w ∧
      (w.deliverBell (old.bells.get b) b).Keeps (u.deliverBells old) :=
  foldl_allBells_keeps (f := fun s b => s.deliverBell (old.bells.get b) b) (fun _ _ => ⟨_, deliverBell_actsAt ..⟩)
    (fun u _ => (Keeps.refl u).deliverBell _ _) b u

/-! ## The claims -/

theorem swingSensors_actsAt {edge changed : Bool} (v : State) (b : Bell) : v.ActsAt True b (v.swingSensors b edge changed) := by
  have spoke : v.ActsAt True b (if edge then v.swingEdge b else v) := .ite (ActsAt.refl True b v).swingEdge (.refl True b v)
  exact .ite spoke.swingRest spoke

theorem swingSensors_keeps {edge changed : Bool} (v : State) (b : Bell) : v.Keeps (v.swingSensors b edge changed) := by
  have spoke : v.Keeps (if edge then v.swingEdge b else v) := .ite ((Keeps.refl v).swingEdge b) (.refl v)
  exact .ite (spoke.swingRest b) spoke

/-- REST that becomes true ends a releasing claim of its bell, with CLAIM on its owner's port (R76). -/
theorem deliverBell_endsClaim {c : Claim} (has : u.claim b = some c) (releasing : c.releasing = true)
    (rises : becameTrue (s.bell b).rest.state (u.bell b).rest.state = true) :
    let t := u.deliverBell (s.bell b) b
    t.claim b = none ∧ t.noticed .claim c.owner ∧ (c.kind = .rope → (t.bell b).demands.rope = false) := by
  intro t
  have hammer : HammerActs b u (hammerHears s u b) := hammerSensors_acts ..
  have kept : (hammerHears s u b).claim b = some c := (hammerActs_claim hammer).trans has
  obtain ⟨free, -, -, rope⟩ := endClaim_spec kept
  have ended : (hammerHears s u b).claimHears b (becameTrue (s.bell b).rest.state (u.bell b).rest.state) =
      ((hammerHears s u b).endClaim b).raise .claim c.owner := (if_pos rises).trans (claimAtRest_ends kept releasing)
  have delivered := deliverBell_eq s u b
  rw [ended] at delivered
  have acts := swingSensors_actsAt (edge := becameTrue (s.bell b).sw.state (u.bell b).sw.state)
    (changed := debouncedChange (s.bell b).rest.state (u.bell b).rest.state)
    (((hammerHears s u b).endClaim b).raise .claim c.owner) b
  have keeps := swingSensors_keeps (edge := becameTrue (s.bell b).sw.state (u.bell b).sw.state)
    (changed := debouncedChange (s.bell b).rest.state (u.bell b).rest.state)
    (((hammerHears s u b).endClaim b).raise .claim c.owner) b
  rw [← delivered] at acts keeps
  refine ⟨((acts.rope trivial).2).trans free, keeps.link.notices _ _ (noticed_raise _ .claim c.owner), fun kind => ?_⟩
  exact ((acts.rope trivial).1).trans (rope kind)

/-- The claims as a scan leaves them (R76). -/
theorem scan_claims {c : Claim} (bells : ∀ k, u.claim k = s.claim k) (has : s.claim b = some c) :
    let t := (u.deliverScan s.bells).settle
    let rises := (u.bell b).rest.state = some true ∧ (s.bell b).rest.state = some false
    (c.releasing = true → rises → t.claim b = none ∧ t.noticed .claim c.owner ∧
      (c.kind = .rope → (t.bell b).demands.rope = false)) ∧
    (¬(c.releasing = true ∧ rises) → t.claim b = some c) := by
  intro t rises
  obtain ⟨w, before, after, -, kept⟩ := deliverBells_at s.bells u b
  have rest := scanRest_keepsInputs s.bells (u.deliverBells s.bells)
  have claimed : w.claim b = some c := before.claim.trans ((bells b).trans has)
  have rise : becameTrue (s.bell b).rest.state (w.bell b).rest.state = true ↔ rises := by rw [before.bell]; exact becameTrue_iff
  have claim : t.claim b = (w.deliverBell (s.bell b) b).claim b := (rest.rope trivial b).2.trans after.claim
  refine ⟨fun releasing up => ?_, fun none => ?_⟩
  · obtain ⟨free, notice, rope⟩ := deliverBell_endsClaim (s := s) claimed releasing (rise.mpr up)
    refine ⟨claim.trans free, ?_, fun kind => ?_⟩
    · exact (scanRest_keeps s.bells kept).link.notices _ _ notice
    · refine ((rest.rope trivial b).1).trans ?_
      rw [after.bell]
      exact rope kind
  · have held : ¬w.claimEnds (s.bell b) b := by
      rintro ⟨releasing, up⟩
      rw [claimed] at releasing
      exact none ⟨releasing, rise.mp up⟩
    exact claim.trans (((deliverBell_actsAt w (s.bell b) b).rope held).2.trans claimed)

end

end Sys2Proof.Machine.State
end

section
/-! PROOFS. The lock-out in a scan: it parks the hammers and brings the swings down, and gives the hammers back (R62, R144). -/

namespace Sys2Proof.Machine

/-- A swing record in STOPPING, sent there with a cause (R140). -/
def SwingRec.stopped (c : SwingCause) (now n : Nat) (r : SwingRec) : SwingRec :=
  { r.timed .stopping now n with lastCause := some c }

/-- A swing record in IDLE after a start was given up with a cause (R135, R136). -/
def SwingRec.givenUp (c : SwingCause) (r : SwingRec) : SwingRec :=
  { r with state := .idle, origin := none, minutes := none, durationEnd := none, timer := none, lastCause := some c }

namespace State

section

variable {s t u v w : State} {b : Bell} {c : SwingCause}

/-! ## A bell that is brought down while its hammer has a demand that stands -/

theorem ignores_of_lockout {x : SwingState} (locked : (s.bell b).demands.lockout = true) :
    s.HammerIgnores b x.demandsOf :=
  .inr (by simp [demanded, Demands.isEmpty, locked, SwingState.demandsOf])

theorem quiet_of_same (pulse : (t.swingRec b).lastPulse = (s.swingRec b).lastPulse) (now : t.now = s.now) :
    t.quiet b = s.quiet b := by
  unfold State.quiet
  rw [pulse, now]

/-- A bell whose hammer the lock-out holds has been brought down from `w` to `v`: it stops, or gives up its start (R144). -/
structure BroughtDown (b : Bell) (c : SwingCause) (w v : State) : Prop where
  hammer : (v.bell b).hammer = (w.bell b).hammer
  timer : (v.bell b).timer = (w.bell b).timer
  lockout : (v.bell b).demands.lockout = true
  stops : w.swingState b = .starting ∨ w.swingState b = .ringing →
    (v.swingRec b).lastCause = some c ∧ v.motorLine b = false ∧
      v.swingState b = if (w.bell b).rest.state = some true ∧ w.quiet b = true then .settling else .stopping
  givesUp : w.swingState b = .parking ∨ w.swingState b = .waitLoad →
    (v.swingRec b).lastCause = some c ∧ v.swingState b = .idle ∧ (v.swingRec b).origin = none ∧
      ∀ e ∈ v.load.queue, e.bell ≠ b
  stays : (w.swingState b).bringsDown = false → v.swingRec b = w.swingRec b
  queue : ∀ e ∈ v.load.queue, e ∈ w.load.queue

theorem toStopping_broughtDown (locked : (w.bell b).demands.lockout = true)
    (state : w.swingState b = .starting ∨ w.swingState b = .ringing) : BroughtDown b c w (w.toStopping b (some c) false) := by
  have acts := (ActsAt.refl True b w).setSwing (SwingRec.stopped c w.now (w.config b).stopTimeout) false
  have record := swingRec_setSwing w b (SwingRec.stopped c w.now (w.config b).stopTimeout) false
  have bell := bell_setSwing (quiet := false) (f := SwingRec.stopped c w.now (w.config b).stopTimeout)
    (ignores_of_lockout (s := w) (b := b) locked)
  have load := setSwing_load w b (SwingRec.stopped c w.now (w.config b).stopTimeout) false
  have eq : w.toStopping b (some c) false =
      testRest b (w.setSwing b (SwingRec.stopped c w.now (w.config b).stopTimeout) false) := rfl
  rw [eq]
  generalize w.setSwing b (SwingRec.stopped c w.now (w.config b).stopTimeout) false = x at *
  have stopping : (x.swingRec b).state = .stopping := by rw [record]; rfl
  have quiet : x.quiet b = w.quiet b := quiet_of_same (by rw [record]; rfl) (congrArg Timekeeper.runCount acts.tk)
  have motor : (x.bell b).motor = false := by rw [bell]; rfl
  have hears := testRest_hears (v := x) (b := b) stopping (by rw [bell]; rfl)
  rw [acts.rest, quiet] at hears
  have rests : x.swingRec b = (w.swingRec b).stopped c w.now (w.config b).stopTimeout := record
  have final : (testRest b x).swingRec b =
      if (w.bell b).rest.state = some true ∧ w.quiet b = true then
        (x.swingRec b).timed .settling x.now (x.config b).settleTime
      else x.swingRec b := by
    rw [hears.record]
    unfold SwingRec.atRest
    rw [stopping]
  have calm : (testRest b x).swingState b =
      if (w.bell b).rest.state = some true ∧ w.quiet b = true then .settling else .stopping := by
    rw [swingState, final]
    split
    · rfl
    · exact stopping
  refine ⟨?_, ?_, ?_, fun _ => ⟨?_, ?_, calm⟩, fun none => ?_, fun down => ?_, fun e mem => ?_⟩
  · rw [hears.bell motor, bell]
  · rw [hears.bell motor, bell]
  · rw [hears.bell motor, bell]
    exact locked
  · rw [final]
    split
    · rw [SwingRec.timed, rests]
      rfl
    · rw [rests]
      rfl
  · rw [motorLine, hears.bell motor, motor]
  · rcases state with x | x <;> rw [x] at none <;> rcases none with y | y <;> cases y
  · rcases state with x | x <;> rw [x] at down <;> cases down
  · rwa [hears.load, load] at mem

theorem giveUp_broughtDown (locked : (w.bell b).demands.lockout = true)
    (state : w.swingState b = .parking ∨ w.swingState b = .waitLoad) : BroughtDown b c w (w.giveUp b c) := by
  have left : (w.leaveLoadQueue b).bell b = w.bell b := congrArg (fun t : BellTable => t.bells.get b) (leaveLoadQueue_bells w b)
  have eq : w.giveUp b c = (w.leaveLoadQueue b).setSwing b (SwingRec.givenUp c) false := rfl
  have record := swingRec_setSwing (w.leaveLoadQueue b) b (SwingRec.givenUp c) false
  have bell := bell_setSwing (quiet := false) (f := SwingRec.givenUp c)
    (ignores_of_lockout (s := w.leaveLoadQueue b) (b := b) (by rw [left]; exact locked))
  have load := setSwing_load (w.leaveLoadQueue b) b (SwingRec.givenUp c) false
  have queue : ((w.leaveLoadQueue b).setSwing b (SwingRec.givenUp c) false).load.queue =
      w.load.queue.filter fun e => e.bell != b := by rw [load, leaveLoadQueue_queue]
  rw [left] at bell
  rw [eq]
  generalize (w.leaveLoadQueue b).setSwing b (SwingRec.givenUp c) false = x at *
  refine ⟨?_, ?_, ?_, fun none => ?_, fun _ => ⟨?_, ?_, ?_, fun e mem => ?_⟩, fun down => ?_, fun e mem => ?_⟩
  · rw [bell]
  · rw [bell]
  · rw [bell]
    exact locked
  · rcases state with x | x <;> rw [x] at none <;> rcases none with y | y <;> cases y
  · rw [record]
    rfl
  · rw [swingState, record]
    rfl
  · rw [record]
    rfl
  · rw [queue] at mem
    exact bne_iff_ne.mp (List.mem_filter.mp mem).2
  · rcases state with x | x <;> rw [x] at down <;> cases down
  · rw [queue] at mem
    exact List.mem_of_mem_filter mem

/-- The lock-out brings a bell down by its swing state (R144). -/
theorem bringDown_broughtDown (locked : (w.bell b).demands.lockout = true) : BroughtDown b c w (w.bringDown b c) := by
  unfold bringDown
  split
  · exact toStopping_broughtDown locked (.inl ‹_›)
  · exact toStopping_broughtDown locked (.inr ‹_›)
  · exact giveUp_broughtDown locked (.inl ‹_›)
  · exact giveUp_broughtDown locked (.inr ‹_›)
  · rename_i starting ringing parking waitLoad
    exact ⟨rfl, rfl, locked, fun x => (x.elim starting ringing).elim, fun x => (x.elim parking waitLoad).elim, fun _ => rfl,
      fun _ mem => mem⟩

/-- After that the bell neither swings nor waits to. -/
theorem BroughtDown.down (h : BroughtDown b c w v) : (v.swingState b).bringsDown = false := by
  by_cases active : (w.swingState b).bringsDown = true
  · rcases SwingState.bringsDown_iff.mp active with e | e | e | e
    · rw [(h.givesUp (.inl e)).2.1]
      rfl
    · rw [(h.givesUp (.inr e)).2.1]
      rfl
    · rw [(h.stops (.inl e)).2.2]
      split <;> rfl
    · rw [(h.stops (.inr e)).2.2]
      split <;> rfl
  · rw [swingState, h.stays (Bool.eq_false_iff.mpr active)]
    exact Bool.eq_false_iff.mpr active

/-- No bell can be started while the lock-out is on (R134). -/
theorem startRefusal_of_lockedOut (locked : s.lockedOut = true) (origin : Option Port) : s.startRefusal b origin ≠ none := by
  unfold startRefusal
  simp only [locked, if_true]
  split <;> (try split) <;> (try split) <;> simp

/-! ## The demands of the lock-out -/

/-- The demand set with or without the LOCKOUT demand (R54). -/
def lockedDemands (present : Bool) (d : Demands) : Demands := { d with lockout := present }

theorem lockoutDemands_at (present : Bool) (u : State) (b : Bell) :
    ∃ w, Apart b u w ∧ Apart b (w.changeDemands b (lockedDemands present)) (u.lockoutDemands present) :=
  Apart.foldl_allBells (f := fun s b => s.changeDemands b (lockedDemands present))
    (fun u k => ⟨True, (ActsAt.refl True k u).changeDemands fun _ _ => rfl⟩) b u

theorem swingLockOut_at (u : State) (b : Bell) :
    ∃ w, Apart b u w ∧ Apart b (w.bringDown b .lockOut) u.swingLockOut :=
  Apart.foldl_allBells (f := fun s b => s.bringDown b .lockOut) (fun u k => ⟨True, (ActsAt.refl True k u).bringDown _⟩) b u

/-- A demand sends a READY or UNPARKING hammer that has none to PARKING, unless PARK is true (R55, R58). -/
theorem demand_parks {g : Demands → Demands} (free : w.demanded b = false) (after : (g (w.bell b).demands).isEmpty = false)
    (park : (w.bell b).park.state ≠ some true)
    (hammer : (w.bell b).hammer = some .ready ∧ w.pulsing b = false ∨ (w.bell b).hammer = some .unparking) :
    ((w.changeDemands b g).bell b).hammer = some .parking ∧ ((w.changeDemands b g).bell b).timer = w.parkTimer b := by
  have record := bell_withDemands w b g
  have state : (w.withDemands b g).parkingState b = .parking := by
    have conflict : (w.withDemands b g).sensorConflict b = false :=
      Bool.eq_false_iff.mpr fun both => park (by
        have parked := (sensorConflict_iff.mp both).2
        rwa [record] at parked)
    simp [parkingState, conflict, record, park]
  have entered := enterParking_entered (w.withDemands b g) b
  rw [state] at entered
  have timer : (w.withDemands b g).parkTimer b = w.parkTimer b := by
    unfold parkTimer config
    rw [record]
    rfl
  rw [changeDemands_parks free after hammer, entered.record]
  exact ⟨rfl, timer⟩

theorem lockedDemands_nonempty (d : Demands) : (lockedDemands true d).isEmpty = false := by simp [lockedDemands, Demands.isEmpty]

/-- A hammer that a pulse drives waits for its end (R55). -/
theorem lockout_waits (free : w.demanded b = false) (hammer : (w.bell b).hammer = some .ready) (pulse : w.pulsing b = true) :
    ((w.changeDemands b (lockedDemands true)).bell b).hammer = some .ready := by
  rw [changeDemands_eq, if_neg, if_neg, bell_withDemands]
  · exact hammer
  · rintro ⟨before, -⟩
    rw [free] at before
    cases before
  · rintro ⟨-, -, ⟨-, quiet⟩ | unparking⟩
    · rw [pulse] at quiet
      cases quiet
    · rw [hammer] at unparking
      cases unparking

/-! ## The scan -/

variable {m : BitVec 96} {lockout mains : Bool}

/-- A scan in which no bell's sensors change delivers the lock-out alone. -/
theorem scan_sameSensors (same : ∀ b, s.sameSensors u b) (image : s.bells.imageValid = true) :
    (u.deliverScan s.bells).settle = (u.deliverLockout s.bells.lockout.state).settle := by
  rw [deliverScan_settle, deliverBells_same same]
  unfold scanRest
  dsimp only
  rw [image, Bool.not_true, Bool.and_false]
  rfl

theorem bell_debounced_eq (s : State) (m : BitVec 96) (lockout mains : Bool) (b : Bell) :
    let u := s.debounced m lockout mains
    u.bell b =
      { s.bell b with sw := (u.bell b).sw, rest := (u.bell b).rest, home := (u.bell b).home, park := (u.bell b).park } := by
  intro u
  rw [bell_debounced]
  rfl

theorem raiseAll_apart (s : State) (k : NoticeKind) (b : Bell) : Apart b s (s.raiseAll k) := by
  obtain ⟨other, h⟩ := exists_ne b
  exact .of_actsAt h ((ActsAt.refl True other s).raiseAll k)

/-- What the lock-out going on makes of bell `b`: its hammer takes the demand, and its swing is brought down, which the rest of the
event leaves. -/
theorem lockOut_at (u : State) (b : Bell) (on : u.lockedOut = true)
    (waiting : ∀ e ∈ u.load.queue, u.swingState e.bell = .waitLoad) :
    ∃ w d x, Apart b u w ∧ Apart b (w.changeDemands b (lockedDemands true)) d ∧ d.swingRec b = u.swingRec b ∧
      BroughtDown b .lockOut d x ∧ Apart b x ((u.lockoutDemands true).swingLockOut.raiseAll .bell).settle := by
  obtain ⟨w, first, second⟩ := lockoutDemands_at true u b
  obtain ⟨d, third, fourth⟩ := swingLockOut_at (u.lockoutDemands true) b
  have middle : Apart b (w.changeDemands b (lockedDemands true)) d := second.trans third
  have locked : (d.bell b).demands.lockout = true := by
    rw [middle.bell, demands_changeDemands]
    rfl
  have brought : BroughtDown b .lockOut d (d.bringDown b .lockOut) := bringDown_broughtDown locked
  have told : Apart b (d.bringDown b .lockOut) ((u.lockoutDemands true).swingLockOut.raiseAll .bell) :=
    fourth.trans (raiseAll_apart ..)
  have lockout : ((u.lockoutDemands true).swingLockOut.raiseAll .bell).lockedOut = true := by
    have kept := ((lockoutDemands_keepsInputs true u).trans (swingLockOut_keepsInputs _)).trans (raiseAll_keepsInputs _ .bell)
    unfold lockedOut
    rw [kept.lockout]
    exact on
  have only : w.changesOnly [.bells, .link, .signals] (w.changeDemands b (lockedDemands true)) :=
    changeDemands_within (changesOnly.refl _ w) (List.Subset.refl _) b _
  have record : d.swingRec b = u.swingRec b := by
    have kept : (w.changeDemands b (lockedDemands true)).swingRec b = w.swingRec b :=
      congrArg (fun x : Swing => x.recs.get b) (only .swing (by decide))
    rw [middle.swing, kept, first.swing]
  have state : d.swingState b = u.swingState b := congrArg SwingRec.state record
  have out : ∀ e ∈ ((u.lockoutDemands true).swingLockOut.raiseAll .bell).load.queue, e.bell ≠ b := by
    intro e mem here
    have old := told.queue e mem here
    have queued := middle.queue e (brought.queue e old) here
    rw [show (w.changeDemands b (lockedDemands true)).load = w.load from only .load (by decide)] at queued
    have waits := waiting e (first.queue e queued here)
    rw [here, ← state] at waits
    exact (brought.givesUp (.inr waits)).2.2.2 e old here
  have rests : ((u.lockoutDemands true).swingLockOut.raiseAll .bell).Rests b :=
    ⟨by rw [told.swingState]; exact brought.down, startRefusal_of_lockedOut lockout none, out⟩
  exact ⟨w, d, _, first, middle, record, brought, told.trans rests.settle⟩

/-- The lock-out going on (R62, R144). -/
theorem scan_lockOut (same : ∀ b, s.sameSensors (s.debounced m lockout mains) b) (image : s.bells.imageValid = true)
    (off : s.bells.lockout.state = some false) (on : (s.debounced m lockout mains).bells.lockout.state = some true)
    (waiting : ∀ e ∈ s.load.queue, s.swingState e.bell = .waitLoad) :
    s.lockOutFollows ((s.debounced m lockout mains).deliverScan s.bells).settle := by
  have runs : (s.debounced m lockout mains).deliverLockout s.bells.lockout.state =
      (((s.debounced m lockout mains).lockoutDemands true).swingLockOut).raiseAll .bell :=
    if_pos (becameTrue_iff.mpr ⟨on, off⟩)
  rw [scan_sameSensors same image, runs]
  have notice : ((((s.debounced m lockout mains).lockoutDemands true).swingLockOut).raiseAll .bell).settle.noticedAll .bell :=
    (Keeps.refl _).settle.noticedAll (noticed_raiseAll _ .bell)
  refine ⟨notice, fun b => ?_⟩
  have record := bell_debounced_eq s m lockout mains b
  have sensors := sameSensors_iff.mp (same b)
  obtain ⟨w, d, x, first, middle, swing, brought, last⟩ := lockOut_at (s.debounced m lockout mains) b (by simp [lockedOut, on]) waiting
  have same : (s.debounced m lockout mains).swingRec b = s.swingRec b := rfl
  have now : (s.debounced m lockout mains).now = s.now := rfl
  have pulses : (s.debounced m lockout mains).pulsing b = s.pulsing b := rfl
  generalize s.debounced m lockout mains = u at *
  generalize ((u.lockoutDemands true).swingLockOut.raiseAll .bell).settle = t at *
  have acts : w.ActsAt True b (w.changeDemands b (lockedDemands true)) := (ActsAt.refl True b w).changeDemands fun _ _ => rfl
  have state : d.swingState b = s.swingState b := congrArg SwingRec.state (swing.trans same)
  have quiet : d.quiet b = s.quiet b := by
    refine quiet_of_same (by rw [swing, same]) ?_
    rw [middle.now]
    exact (congrArg Timekeeper.runCount acts.tk).trans (first.now.trans now)
  have rest : (d.bell b).rest.state = (s.bell b).rest.state := by rw [middle.bell, acts.rest, first.bell, sensors.2.1]
  have free : w.demanded b = s.demanded b := by
    rw [demanded, first.bell, record]
    rfl
  have timer : w.parkTimer b = s.parkTimer b := by
    unfold parkTimer config
    rw [first.now, now, first.bell, record]
  have hammer : (w.bell b).hammer = (s.bell b).hammer := by rw [first.bell, record]
  have pulsing : w.pulsing b = s.pulsing b := first.pulsing.trans pulses
  have away (h : (s.bell b).park.state ≠ some true) : (w.bell b).park.state ≠ some true := by
    rwa [first.bell, sensors.2.2.2]
  have acts (is : (s.bell b).hammer = some .ready ∨ (s.bell b).hammer = some .unparking) (still : s.pulsing b = false) :
      (w.bell b).hammer = some .ready ∧ w.pulsing b = false ∨ (w.bell b).hammer = some .unparking := by
    rw [hammer, pulsing]
    exact is.imp_left fun ready => ⟨ready, still⟩
  refine ⟨?_, fun is none park => ⟨fun still => ⟨?_, notice, ?_⟩, fun pulse ready => ?_⟩, fun is => ?_, fun is => ?_,
    fun down => ?_⟩
  · rw [last.bell]
    exact brought.lockout
  · rw [last.bell, brought.hammer, middle.bell]
    exact (demand_parks (free.trans none) (lockedDemands_nonempty _) (away park) (acts is still)).1
  · rw [last.bell, brought.timer, middle.bell,
      (demand_parks (free.trans none) (lockedDemands_nonempty _) (away park) (acts is still)).2, timer]
    rfl
  · rw [last.bell, brought.hammer, middle.bell]
    exact lockout_waits (free.trans none) (hammer.trans ready) (pulsing.trans pulse)
  · rw [last.swing, motorLine, last.bell, last.swingState, ← rest, ← quiet]
    exact brought.stops (state ▸ is)
  · obtain ⟨cause, idle, origin, out⟩ := brought.givesUp (state ▸ is)
    rw [last.swing, last.swingState]
    exact ⟨cause, idle, origin, fun e mem here => out e (last.queue e mem here) here⟩
  · rw [last.swing, brought.stays (by rw [state]; exact down), swing, same]

/-! ## The lock-out going off -/

/-- The withdrawal of the LOCKOUT demand changes no swing, and the bells whose hammers it moves are IDLE or UNREPORTED (R54, R57). -/
theorem lockoutDemands_off (law : ∀ k, (u.bell k).demands.swing = (u.swingState k).demandsPark) (quiet : u.signals = []) :
    (u.lockoutDemands false).swing = u.swing ∧
      ∀ x ∈ (u.lockoutDemands false).signals, ∃ k, x = .hammer k ∧ (u.swingState k).demandsPark = false := by
  have step (v : State) (k : Bell) (swing : v.swing = u.swing) (demand : ∀ j, (v.bell j).demands.swing = (u.bell j).demands.swing)
      (told : ∀ x ∈ v.signals, ∃ j, x = .hammer j ∧ (u.swingState j).demandsPark = false) :
      let t := v.changeDemands k (lockedDemands false)
      t.swing = u.swing ∧ (∀ j, (t.bell j).demands.swing = (u.bell j).demands.swing) ∧
        ∀ x ∈ t.signals, ∃ j, x = .hammer j ∧ (u.swingState j).demandsPark = false := by
    intro t
    have only : v.changesOnly [.bells, .link, .signals] t := changeDemands_within (changesOnly.refl _ v) (List.Subset.refl _) k _
    refine ⟨(only .swing (by decide)).trans swing, fun j => ?_, fun x mem => ?_⟩
    · by_cases here : j = k
      · rw [here, demands_changeDemands, ← demand k]
        rfl
      · rw [((ActsAt.refl True k v).changeDemands (f := lockedDemands false) fun _ _ => rfl).bells j here, demand j]
    · by_cases swings : (v.bell k).demands.swing = true
      · have ignores : v.HammerIgnores k (lockedDemands false) :=
          .inr (by simp [demanded, Demands.isEmpty, lockedDemands, swings])
        exact told x (changeDemands_signals ignores ▸ mem)
      · refine (changeDemands_reports v k _ x mem).elim (told x) fun is => ⟨k, is, ?_⟩
        rw [← law k, ← demand k]
        exact Bool.eq_false_iff.mpr swings
  have all := List.foldlRecOn (motive := fun v : State => v.swing = u.swing ∧
      (∀ j, (v.bell j).demands.swing = (u.bell j).demands.swing) ∧
      ∀ x ∈ v.signals, ∃ j, x = .hammer j ∧ (u.swingState j).demandsPark = false)
    allBells (fun v k => v.changeDemands k (lockedDemands false))
    ⟨rfl, fun _ => rfl, fun x mem => by rw [quiet] at mem; cases mem⟩ fun v ⟨swing, demand, told⟩ k _ => step v k swing demand told
  exact ⟨all.1, all.2.2⟩

theorem demandsPark_down {x : SwingState} (h : x.demandsPark = false) : x.bringsDown = false := by
  cases x <;> simp_all [SwingState.demandsPark, SwingState.bringsDown]

/-- The last demand withdrawn, a PARKED hammer whose bell rests unparks (R57). -/
theorem lockout_unparks (demands : (w.bell b).demands = { Demands.empty with lockout := true })
    (rest : (w.bell b).rest.state = some true) (hammer : (w.bell b).hammer = some .parked)
    (park : (w.bell b).park.state = some true) (home : (w.bell b).home.state ≠ some true) :
    ((w.changeDemands b (lockedDemands false)).bell b).hammer = some .unparking ∧
      ((w.changeDemands b (lockedDemands false)).bell b).timer = w.parkTimer b := by
  have record := bell_withDemands w b (lockedDemands false)
  have state : (w.withDemands b (lockedDemands false)).unparkingState b = .unparking := by
    have conflict : (w.withDemands b (lockedDemands false)).sensorConflict b = false :=
      Bool.eq_false_iff.mpr fun both => home (by
        have homed := (sensorConflict_iff.mp both).1
        rwa [record] at homed)
    simp [unparkingState, conflict, record, park]
  have entered := enterUnparking_entered (w.withDemands b (lockedDemands false)) b
  rw [state] at entered
  have before : w.demanded b = true := by rw [demanded, demands]; rfl
  have after : (lockedDemands false (w.bell b).demands).isEmpty = true := by rw [demands]; rfl
  have timer : (w.withDemands b (lockedDemands false)).parkTimer b = w.parkTimer b := by
    unfold parkTimer config
    rw [record]
    rfl
  rw [changeDemands_unparks before after hammer rest, entered.record]
  exact ⟨rfl, timer⟩

/-- Another demand, or a bell that moves, keeps it PARKED. -/
theorem lockout_keepsParked (hammer : (w.bell b).hammer = some .parked)
    (h : (w.bell b).demands ≠ { Demands.empty with lockout := true } ∨ (w.bell b).rest.state ≠ some true) :
    ((w.changeDemands b (lockedDemands false)).bell b).hammer = some .parked := by
  rw [changeDemands_eq, if_neg, if_neg, bell_withDemands]
  · exact hammer
  · rintro ⟨before, after, -, rest⟩
    refine h.elim (fun other => other ?_) fun moves => moves rest
    generalize demands : (w.bell b).demands = d at *
    rw [demanded, demands] at before
    obtain ⟨lockout, swing, rope, start⟩ := d
    simp_all [lockedDemands, Demands.isEmpty, Demands.empty]
  · rintro ⟨-, -, ⟨ready, -⟩ | unparking⟩
    · rw [hammer] at ready
      cases ready
    · rw [hammer] at unparking
      cases unparking

/-- The lock-out going off (R57, R62). -/
theorem scan_lockOutEnds (same : ∀ b, s.sameSensors (s.debounced m lockout mains) b) (image : s.bells.imageValid = true)
    (quiet : s.signals = []) (on : s.bells.lockout.state = some true)
    (off : (s.debounced m lockout mains).bells.lockout.state = some false) (law : s.demandLaw) :
    s.lockOutEnds ((s.debounced m lockout mains).deliverScan s.bells).settle := by
  have runs : (s.debounced m lockout mains).deliverLockout s.bells.lockout.state =
      ((s.debounced m lockout mains).lockoutDemands false).raiseAll .bell := by
    unfold deliverLockout
    dsimp only
    rw [off, on]
    rfl
  rw [scan_sameSensors same image, runs]
  have notice : (((s.debounced m lockout mains).lockoutDemands false).raiseAll .bell).settle.noticedAll .bell :=
    (Keeps.refl _).settle.noticedAll (noticed_raiseAll _ .bell)
  have record := bell_debounced_eq s m lockout mains
  have swing : (s.debounced m lockout mains).swing = s.swing := rfl
  have now : (s.debounced m lockout mains).now = s.now := rfl
  have still : (s.debounced m lockout mains).signals = [] := quiet
  generalize s.debounced m lockout mains = u at *
  obtain ⟨stays, reports⟩ := lockoutDemands_off (u := u) (fun k => by
    rw [record k, swingState, swingRec, swing]
    exact (law k).1) still
  have places := lockoutDemands_at false u
  generalize u.lockoutDemands false = v at *
  have settled : (v.raiseAll .bell).settle =
      { v.raiseAll .bell with signals := (v.raiseAll .bell).signals.drop Config.signalLimit } := by
    refine settle_of_down fun x mem => ?_
    obtain ⟨k, is, down⟩ := reports x mem
    refine ⟨k, is, ?_⟩
    have state : (v.raiseAll .bell).swingState k = u.swingState k := congrArg (fun x : Swing => (x.recs.get k).state) stays
    rw [state]
    exact demandsPark_down down
  have bell (b : Bell) : (v.raiseAll .bell).settle.bell b = v.bell b := by
    rw [settled]
    rfl
  refine ⟨notice, ?_, fun b => ?_⟩
  · rw [settled]
    exact stays.trans swing
  obtain ⟨w, first, second⟩ := places b
  have sensors := sameSensors_iff.mp (same b)
  have timer : w.parkTimer b = s.parkTimer b := by
    unfold parkTimer config
    rw [first.now, now, first.bell, record]
  have demands : (w.bell b).demands = (s.bell b).demands := by rw [first.bell, record]
  have rest : (w.bell b).rest.state = (s.bell b).rest.state := by rw [first.bell, sensors.2.1]
  have homes : (w.bell b).home.state = (s.bell b).home.state := by rw [first.bell, sensors.2.2.1]
  have parks : (w.bell b).park.state = (s.bell b).park.state := by rw [first.bell, sensors.2.2.2]
  have hammers : (w.bell b).hammer = (s.bell b).hammer := by rw [first.bell, record]
  refine ⟨?_, fun hammer park home => ⟨fun alone rests => ?_, fun held => ?_⟩⟩
  · rw [bell, second.bell, demands_changeDemands, demands]
    rfl
  · obtain ⟨moved, timed⟩ := lockout_unparks (demands.trans alone) (rest.trans rests) (hammers.trans hammer) (parks.trans park)
      (homes ▸ home)
    rw [← second.bell, ← bell] at moved timed
    exact ⟨moved, notice, timed.trans timer⟩
  · rw [bell, second.bell]
    exact lockout_keepsParked (hammers.trans hammer) (by rw [demands, rest]; exact held)

end

end State

end Sys2Proof.Machine
end

section
/-! PROOFS. The scan that makes the sensor image valid: the first states of a bell (R64, R148). -/

namespace Sys2Proof.Machine

/-- A bell record whose hammer is to be parked once it has a demand: it is READY or UNPARKING, or in PARKING with the timer `n`. -/
def BellRec.movable (n : Option Nat) (r : BellRec) : Prop :=
  (r.hammer = some .ready ∨ r.hammer = some .unparking) ∨ (r.hammer = some .parking ∧ r.timer = n)

namespace State

section

variable {s t u v w x y z : State} {b : Bell}

/-! ## A bell before its first swing state -/

/-- Bell `b` awaits its first swing state in `w` with the sensors that `u` debounced, and stands in no queue. -/
structure Awaits (b : Bell) (u w : State) : Prop where
  tk : w.tk = u.tk
  slots : w.engine.slots = u.engine.slots
  sensors : (w.bell b).sensors = (u.bell b).sensors
  config : w.config b = u.config b
  state : w.swingState b = .unreported
  out : ∀ e ∈ w.load.queue, e.bell ≠ b

namespace Awaits

theorem apart (h : Awaits b u v) (g : Apart b v w) : Awaits b u w :=
  ⟨g.tk.trans h.tk, g.slots.trans h.slots, by rw [g.bell, h.sensors], g.config.trans h.config, g.swingState.trans h.state,
    fun e mem here => h.out e (g.queue e mem here) here⟩

theorem now (h : Awaits b u w) : w.now = u.now := congrArg Timekeeper.runCount h.tk

theorem pulsing (h : Awaits b u w) : w.pulsing b = u.pulsing b := by simp only [State.pulsing, h.slots]

theorem parkTimer (h : Awaits b u w) : w.parkTimer b = u.parkTimer b := by
  unfold State.parkTimer
  rw [h.now, h.config]

theorem rest (h : Awaits b u w) : (w.bell b).rest = (u.bell b).rest := by
  have same := h.sensors
  simp only [BellRec.sensors, List.cons.injEq] at same
  exact same.2.1

theorem home (h : Awaits b u w) : (w.bell b).home = (u.bell b).home := by
  have same := h.sensors
  simp only [BellRec.sensors, List.cons.injEq] at same
  exact same.2.2.1

theorem park (h : Awaits b u w) : (w.bell b).park = (u.bell b).park := by
  have same := h.sensors
  simp only [BellRec.sensors, List.cons.injEq] at same
  exact same.2.2.2.1

/-- What a hammer or a claim does is no concern of the swing. -/
theorem of_only (h : Awaits b u v) {held : Prop} (acts : v.ActsAt held b w)
    (only : v.changesOnly [.bells, .claims, .link, .signals] w) (keeps : v.Keeps w) : Awaits b u w :=
  ⟨acts.tk.trans h.tk, acts.slots.trans h.slots, acts.sensors.trans h.sensors, (keeps.bells.config b).trans h.config,
    (congrArg (fun x : Swing => (x.recs.get b).state) (only .swing (by decide))).trans h.state,
    fun e mem => h.out e ((congrArg Load.queue (only .load (by decide))) ▸ mem)⟩

theorem changeDemands (h : Awaits b u v) (present : Bool) : Awaits b u (v.changeDemands b (lockedDemands present)) :=
  h.of_only ((ActsAt.refl True b v).changeDemands fun _ _ => rfl)
    (changeDemands_within (changesOnly.refl _ v) (by decide) b _) ((Keeps.refl v).changeDemands b _)

theorem hammerFirstState (h : Awaits b u v) : Awaits b u (v.hammerFirstState b) :=
  h.of_only (ActsAt.refl True b v).hammerFirstState (hammerFirstState_within (changesOnly.refl _ v) (by decide) b)
    ((Keeps.refl v).hammerFirstState b)

theorem meetDemand (h : Awaits b u v) : Awaits b u (v.meetDemand b) :=
  h.of_only (ActsAt.refl True b v).meetDemand (meetDemand_within (changesOnly.refl _ v) (by decide) b)
    (.ite ((Keeps.refl v).enterParking b) (.refl v))

/-- A bell whose swing has no state yet gives up nothing. -/
theorem bringDown (h : Awaits b u v) (c : SwingCause) : v.bringDown b c = v := by
  unfold State.bringDown
  rw [h.state]

end Awaits

/-! ## The changes that the scan delivers before the first states -/

theorem claimAtRest_bare (bare : (v.bell b).hammer = none) : ((v.claimAtRest b).bell b).hammer = none := by
  have ended : ((v.endClaim b).bell b).hammer = none := by
    unfold endClaim
    split
    · split
      · have still : (v.setClaim b none).HammerIgnores b fun d => { d with rope := false } :=
          .inl (by
            change (v.bell b).hammer ≠ _ ∧ (v.bell b).hammer ≠ _ ∧ (v.bell b).hammer ≠ _
            simp [bare])
        rw [ropeDemand, changeDemands_ignored still, bell_withDemands]
        exact bare
      · exact bare
    · exact bare
  unfold claimAtRest
  split
  · split
    · exact ended
    · exact bare
  · exact bare

theorem hammerHears_bare (bare : (v.bell b).hammer = none) : hammerHears s v b = v := by
  unfold hammerHears hammerSensors
  rw [bare]

/-- Bell `b` awaits its first states in `w`: its hammer has none yet either, if it had none in `u`. -/
structure BeforeFirst (b : Bell) (u w : State) : Prop where
  awaits : Awaits b u w
  bare : (u.bell b).hammer = none → (w.bell b).hammer = none

namespace BeforeFirst

theorem apart (h : BeforeFirst b u v) (g : Apart b v w) : BeforeFirst b u w :=
  ⟨h.awaits.apart g, fun none => by rw [g.bell, h.bare none]⟩

theorem deliverBell (h : BeforeFirst b u v) (s : State) : BeforeFirst b u (v.deliverBell (s.bell b) b) := by
  have before := BeforeSwing.heard s v b (becameTrue (s.bell b).rest.state (v.bell b).rest.state)
  have awaits := h.awaits
  have state : (((hammerHears s v b).claimHears b (becameTrue (s.bell b).rest.state (v.bell b).rest.state)).swingRec b).state =
      .unreported := by
    rw [before.swingRec]
    exact awaits.state
  have calm : ¬(((hammerHears s v b).claimHears b (becameTrue (s.bell b).rest.state (v.bell b).rest.state)).swingRec b).state.calm := by
    rw [state]
    rintro (x | x) <;> cases x
  have hears := swingSensors_hears (edge := becameTrue (s.bell b).sw.state (v.bell b).sw.state)
    (changed := debouncedChange (s.bell b).rest.state (v.bell b).rest.state) (b := b) fun x => absurd x calm
  rw [← deliverBell_eq] at hears
  have acts := deliverBell_actsAt v (s.bell b) b
  refine ⟨⟨acts.tk.trans awaits.tk, acts.slots.trans awaits.slots, acts.sensors.trans awaits.sensors,
    (((Keeps.refl v).deliverBell (s.bell b) b).bells.config b).trans awaits.config, ?_, fun e mem => ?_⟩, fun none => ?_⟩
  · rw [swingState, hears.record, SwingRec.atSensors_state calm, state]
  · rw [hears.load, show State.load _ = v.load from before.only .load (by decide)] at mem
    exact awaits.out e mem
  · have bare := h.bare none
    have bells := swingSensors_bells (edge := becameTrue (s.bell b).sw.state (v.bell b).sw.state)
      (changed := debouncedChange (s.bell b).rest.state (v.bell b).rest.state) calm
    rw [← deliverBell_eq, hammerHears_bare bare] at bells
    rw [bell, bells]
    change ((v.claimHears b _).bell b).hammer = _
    unfold claimHears
    split
    · exact claimAtRest_bare bare
    · exact bare

theorem changeDemands (h : BeforeFirst b u v) (present : Bool) : BeforeFirst b u (v.changeDemands b (lockedDemands present)) := by
  refine ⟨h.awaits.changeDemands present, fun none => ?_⟩
  have bare := h.bare none
  rw [changeDemands_ignored (.inl (by simp [bare])), bell_withDemands]
  exact bare

theorem deliverLockout (h : BeforeFirst b u v) (before : Option Bool) : BeforeFirst b u (v.deliverLockout before) := by
  obtain ⟨w, first, second⟩ := lockoutDemands_at true v b
  obtain ⟨w', third, fourth⟩ := swingLockOut_at (v.lockoutDemands true) b
  obtain ⟨x, fifth, sixth⟩ := lockoutDemands_at false v b
  have swings : BeforeFirst b u (v.lockoutDemands true) := ((h.apart first).changeDemands true).apart second
  have lowered := swings.apart third
  have on : BeforeFirst b u (v.lockoutDemands true).swingLockOut := by
    refine lowered.apart ?_
    rwa [lowered.awaits.bringDown] at fourth
  have off : BeforeFirst b u (v.lockoutDemands false) := ((h.apart fifth).changeDemands false).apart sixth
  unfold State.deliverLockout
  dsimp only
  split
  · exact on.apart (raiseAll_apart ..)
  · split
    · exact off.apart (raiseAll_apart ..)
    · exact h

end BeforeFirst

/-- The bell awaits its first states once all the changes of the scan have been delivered. -/
theorem scan_beforeFirst (swing : u.swing = s.swing) (load : u.load = s.load)
    (state : s.swingState b = .unreported) (empty : s.load.queue = []) :
    BeforeFirst b u ((u.deliverBells s.bells).deliverLockout s.bells.lockout.state) := by
  obtain ⟨w, first, second, -⟩ := deliverBells_at s.bells u b
  have awaits : Awaits b u u := by
    refine ⟨rfl, rfl, rfl, rfl, ?_, fun e mem => ?_⟩
    · rw [swingState, swingRec, swing]
      exact state
    · rw [load, empty] at mem
      cases mem
  have start : BeforeFirst b u u := ⟨awaits, id⟩
  exact (((start.apart first).deliverBell s).apart second).deliverLockout _

/-! ## The first states of one bell -/

/-- What comes to bell `b` of the first states: in `w` its hammer takes one, in `x` the lock-out may give it a demand, in `y` it may
meet one, and in `z` its swing takes its first state. -/
theorem firstStates_at (s : State) (b : Bell) : ∃ w x y z, Apart b s w ∧ Apart b (w.hammerFirstState b) x ∧
    (Apart b x y ∨ Apart b (x.changeDemands b (lockedDemands true)) y) ∧ Apart b (y.meetDemand b) z ∧
      Apart b (z.swingFirstState b) s.firstStates ∧ (w.hammerFirstState b).Keeps s.firstStates := by
  obtain ⟨w, w₁, w₂, -, kept⟩ := foldl_allBells_keeps (f := fun s b => s.hammerFirstState b)
    (fun u k => ⟨True, (ActsAt.refl True k u).hammerFirstState⟩) (fun u k => (Keeps.refl u).hammerFirstState k) b s
  generalize hs : allBells.foldl (fun s b => s.hammerFirstState b) s = u at w₂ kept
  have locks : ∃ x, Apart b u x ∧ (Apart b x (if u.lockedOut then u.lockoutDemands true else u) ∨
      Apart b (x.changeDemands b (lockedDemands true)) (if u.lockedOut then u.lockoutDemands true else u)) := by
    split
    · obtain ⟨x, first, second⟩ := lockoutDemands_at true u b
      exact ⟨x, first, .inr second⟩
    · exact ⟨u, .refl b u, .inl (.refl b u)⟩
  obtain ⟨x, x₁, x₂⟩ := locks
  generalize hv : (if u.lockedOut then u.lockoutDemands true else u) = v at x₂
  obtain ⟨y, y₁, y₂⟩ := Apart.foldl_allBells (f := fun s b => s.meetDemand b)
    (fun u k => ⟨True, (ActsAt.refl True k u).meetDemand⟩) b v
  generalize hm : allBells.foldl (fun s b => s.meetDemand b) v = m at y₂
  obtain ⟨z, z₁, z₂⟩ := Apart.foldl_allBells (f := fun s b => s.swingFirstState b)
    (fun u k => ⟨True, (ActsAt.refl True k u).swingFirstState⟩) b m
  have first : s.firstStates = allBells.foldl (fun s b => s.swingFirstState b) m := by
    rw [← hm, ← hv, ← hs]
    rfl
  have keeps : u.Keeps s.firstStates := by
    have locked : u.Keeps v := by
      rw [← hv]
      exact .ite ((Keeps.refl u).lockoutDemands true) (.refl u)
    rw [first, ← hm]
    exact (locked.foldl (fun _ k g => g.meetDemand k) _).foldl (fun _ k g => g.swingFirstState k) _
  rw [first] at keeps ⊢
  exact ⟨w, x, y, z, w₁, w₂.trans x₁, x₂.imp (·.trans y₁) (·.trans y₁), y₂.trans z₁, z₂, kept.trans keeps⟩

/-! ## The swing's first state -/

/-- A bell without a motor cannot be started (R134). -/
theorem startRefusal_of_noMotor (none' : (s.config b).motor = false) (origin : Option Port) : s.startRefusal b origin ≠ none := by
  unfold startRefusal
  simp [none']

/-- A bell that neither hammer nor motor is fitted to goes out of account. -/
theorem swingFirstState_unfitted (state : z.swingState b = .unreported)
    (unfitted : (z.config b).hammer = false ∧ (z.config b).motor = false) : z.swingFirstState b = z.toIdle b none true := by
  unfold swingFirstState
  rw [if_pos state, if_pos (by simp [unfitted])]

theorem swingFirstState_settles (state : z.swingState b = .unreported)
    (fitted : (z.config b).hammer = true ∨ (z.config b).motor = true) (rest : (z.bell b).rest.state = some true) :
    z.swingFirstState b = z.setSwing b (SwingRec.timed .settling z.now (z.config b).settleTime) true := by
  have not : ¬(!(z.config b).hammer && !(z.config b).motor) = true := by rcases fitted with h | h <;> simp [h]
  unfold swingFirstState
  rw [if_pos state, if_neg not, if_pos rest]
  rfl

theorem swingFirstState_stops (state : z.swingState b = .unreported)
    (fitted : (z.config b).hammer = true ∨ (z.config b).motor = true) (rest : (z.bell b).rest.state ≠ some true) :
    z.swingFirstState b = z.setSwing b (SwingRec.timed .stopping z.now (z.config b).stopTimeout) true := by
  have not : ¬(!(z.config b).hammer && !(z.config b).motor) = true := by rcases fitted with h | h <;> simp [h]
  have stops : z.toStopping b none true =
      testRest b (z.setSwing b (SwingRec.timed .stopping z.now (z.config b).stopTimeout) true) := rfl
  have acts := (ActsAt.refl True b z).setSwing (SwingRec.timed .stopping z.now (z.config b).stopTimeout) true
  unfold swingFirstState
  rw [if_pos state, if_neg not, if_neg rest, stops]
  refine if_neg fun x => rest ?_
  rw [← acts.rest]
  exact x.2.1

/-- The first swing state of bell `b`, by its fittings and REST (R148). -/
structure FirstSwing (b : Bell) (z t : State) : Prop where
  idle : (z.config b).hammer = false ∧ (z.config b).motor = false → t.swingState b = .idle
  settles : (z.config b).hammer = true ∨ (z.config b).motor = true → (z.bell b).rest.state = some true →
    t.swingState b = .settling ∧ (t.swingRec b).timer = some (z.now + (z.config b).settleTime * 256)
  stops : (z.config b).hammer = true ∨ (z.config b).motor = true → (z.bell b).rest.state ≠ some true →
    t.swingState b = .stopping ∧ (t.swingRec b).timer = some (z.now + (z.config b).stopTimeout * 256)

theorem fitted_or (c : BellConfig) : (c.hammer = false ∧ c.motor = false) ∨ c.hammer = true ∨ c.motor = true := by
  cases c.hammer <;> cases c.motor <;> simp

/-- A swing without a state takes its first, and no signal can then reach the bell. -/
theorem swingFirstState_spec (state : z.swingState b = .unreported) (out : ∀ e ∈ z.load.queue, e.bell ≠ b) :
    FirstSwing b z (z.swingFirstState b) ∧ (z.swingFirstState b).Rests b := by
  have none (h : (z.config b).hammer = false ∧ (z.config b).motor = false)
      (g : (z.config b).hammer = true ∨ (z.config b).motor = true) : False := by
    rcases g with g | g
    · rw [h.1] at g
      cases g
    · rw [h.2] at g
      cases g
  rcases fitted_or (z.config b) with unfitted | fitted
  · rw [swingFirstState_unfitted state unfitted]
    have idle : (z.toIdle b Option.none true).swingState b = .idle := swingState_setSwing ..
    have config : (z.toIdle b Option.none true).config b = z.config b := ((Keeps.refl z).toIdle b Option.none true).bells.config b
    refine ⟨⟨fun _ => idle, fun g => (none unfitted g).elim, fun g => (none unfitted g).elim⟩,
      by rw [idle]; rfl, startRefusal_of_noMotor (by rw [config]; exact unfitted.2) _, fun e mem => out e ?_⟩
    rwa [toIdle, setSwing_load] at mem
  · by_cases rest : (z.bell b).rest.state = some true
    · rw [swingFirstState_settles state fitted rest]
      have record := swingRec_setSwing z b (SwingRec.timed .settling z.now (z.config b).settleTime) true
      have settling := congrArg SwingRec.state record
      refine ⟨⟨fun h => (none h fitted).elim, fun _ _ => ⟨settling, congrArg SwingRec.timer record⟩,
          fun _ other => absurd rest other⟩,
        congrArg SwingState.bringsDown settling, startRefusal_of_busy (fun idle => ?_) _, fun e mem => out e ?_⟩
      · rw [swingState, settling] at idle
        cases idle
      · rwa [setSwing_load] at mem
    · rw [swingFirstState_stops state fitted rest]
      have record := swingRec_setSwing z b (SwingRec.timed .stopping z.now (z.config b).stopTimeout) true
      have stopping := congrArg SwingRec.state record
      refine ⟨⟨fun h => (none h fitted).elim, fun _ is => absurd is rest, fun _ _ => ⟨stopping, congrArg SwingRec.timer record⟩⟩,
        congrArg SwingState.bringsDown stopping, startRefusal_of_busy (fun idle => ?_) _, fun e mem => out e ?_⟩
      · rw [swingState, stopping] at idle
        cases idle
      · rwa [setSwing_load] at mem

/-- A fitted swing takes its first state by one change of its record, which places the SWING demand. -/
theorem swingFirstState_of_hammer (state : z.swingState b = .unreported) (fitted : (z.config b).hammer = true) :
    ∃ f, z.swingFirstState b = z.setSwing b f true ∧ (f (z.swingRec b)).state.calm := by
  by_cases rest : (z.bell b).rest.state = some true
  · exact ⟨_, swingFirstState_settles state (.inl fitted) rest, .inr rfl⟩
  · exact ⟨_, swingFirstState_stops state (.inl fitted) rest, .inl rfl⟩

/-! ## The hammer's first state -/

/-- A change of the swing state moves the hammer by its demands alone (R54, R133). -/
theorem setSwing_hammer (s : State) (b : Bell) (f : SwingRec → SwingRec) (quiet : Bool) :
    ∃ v : State, v.bell b = s.bell b ∧ v.now = s.now ∧ v.pulsing b = s.pulsing b ∧ ∃ motor, (s.setSwing b f quiet).bell b =
      { (v.changeDemands b (f (s.swingRec b)).state.demandsOf).bell b with motor := motor } := by
  have table : (s.setSwing b f quiet).bell b = (s.swingTaken b f quiet).bell b :=
    congrArg (fun t : BellTable => t.bells.get b) (s.setSwing_hears b f quiet).1
  rw [table]
  unfold swingTaken
  dsimp only
  cases quiet
  · exact ⟨(s.modSwingRec b f).raiseAll .bell, rfl, rfl, rfl, _, (bell_modBell ..).trans (if_pos rfl)⟩
  · exact ⟨s.modSwingRec b f, rfl, rfl, rfl, _, (bell_modBell ..).trans (if_pos rfl)⟩

/-- A hammer in PARKING stays there whatever is demanded. -/
theorem changeDemands_of_parking {g : Demands → Demands} {n : Option Nat}
    (h : (v.bell b).hammer = some .parking ∧ (v.bell b).timer = n) :
    ((v.changeDemands b g).bell b).hammer = some .parking ∧ ((v.changeDemands b g).bell b).timer = n := by
  rw [changeDemands_ignored (.inl (by simp [h.1])), bell_withDemands]
  exact h

section

variable {g : Demands → Demands} (park : (v.bell b).park.state ≠ some true) (still : v.pulsing b = false)
include park still

theorem changeDemands_parksMovable (after : (g (v.bell b).demands).isEmpty = false)
    (h : (v.demanded b = false ∧ ((v.bell b).hammer = some .ready ∨ (v.bell b).hammer = some .unparking)) ∨
      ((v.bell b).hammer = some .parking ∧ (v.bell b).timer = v.parkTimer b)) :
    ((v.changeDemands b g).bell b).hammer = some .parking ∧ ((v.changeDemands b g).bell b).timer = v.parkTimer b := by
  rcases h with ⟨free, loose⟩ | sent
  · exact demand_parks free after park (loose.imp_left fun ready => ⟨ready, still⟩)
  · exact changeDemands_of_parking sent

theorem changeDemands_movable (after : (g (v.bell b).demands).isEmpty = false) (h : (v.bell b).movable (v.parkTimer b)) :
    ((v.changeDemands b g).bell b).movable (v.parkTimer b) := by
  rcases h with loose | sent
  · by_cases free : v.demanded b = false
    · exact .inr (demand_parks free after park (loose.imp_left fun ready => ⟨ready, still⟩))
    · have demand : v.demanded b = true := by simpa using free
      have ignores : v.HammerIgnores b g := .inr (by rw [demand, after]; rfl)
      rw [changeDemands_ignored ignores, bell_withDemands]
      exact .inl loose
  · exact .inr (changeDemands_of_parking sent)

/-- A movable hammer that meets a demand is sent to PARKING (R64). -/
theorem meetDemand_movable (h : (v.bell b).movable (v.parkTimer b)) :
    ((v.meetDemand b).demanded b = false ∧
        (((v.meetDemand b).bell b).hammer = some .ready ∨ ((v.meetDemand b).bell b).hammer = some .unparking)) ∨
      (((v.meetDemand b).bell b).hammer = some .parking ∧ ((v.meetDemand b).bell b).timer = v.parkTimer b) := by
  have state : v.parkingState b = .parking := by
    have conflict : v.sensorConflict b = false := Bool.eq_false_iff.mpr fun both => park (sensorConflict_iff.mp both).2
    simp [parkingState, conflict, park]
  have entered := enterParking_entered v b
  rw [state] at entered
  unfold meetDemand
  split
  · rw [entered.record]
    exact .inr ⟨rfl, rfl⟩
  · rename_i none
    rcases h with loose | sent
    · refine .inl ⟨Bool.eq_false_iff.mpr fun demand => none ?_, loose⟩
      rcases loose with e | e <;> simp [demand, still, e]
    · exact .inr sent

end

/-- A hammer that stands fast is not moved by a demand. -/
theorem meetDemand_fast (h : (v.bell b).hammer ≠ some .ready ∧ (v.bell b).hammer ≠ some .unparking) : v.meetDemand b = v := by
  refine if_neg fun x => ?_
  simp [h] at x

section

variable (bare : (w.bell b).hammer = none)
include bare

/-- HOME and PARK both true: SENSOR-CONFLICT (R64). -/
theorem hammerFirstState_conflict (park : (w.bell b).park.state = some true) (home : (w.bell b).home.state = some true) :
    ((w.hammerFirstState b).bell b).hammer = some .fault ∧ ((w.hammerFirstState b).bell b).cause = some .sensorConflict ∧
      (w.hammerFirstState b).noticedAll .fault := by
  have first : w.hammerFirstState b = w.faultHammer b .sensorConflict true := by
    unfold hammerFirstState
    simp [bare, park, home]
  rw [first, bell_faultHammer]
  exact ⟨rfl, rfl, noticed_raiseAll _ .fault⟩

/-- PARK alone: PARKED, with the demand of the start (R54, R64). -/
theorem hammerFirstState_parked (park : (w.bell b).park.state = some true) (home : (w.bell b).home.state = some false) :
    ((w.hammerFirstState b).bell b).hammer = some .parked ∧ ((w.hammerFirstState b).bell b).demands.start = true := by
  have first : w.hammerFirstState b =
      (w.modBell b fun r => { r with demands := { r.demands with start := true } }).setHammer b .parked none true := by
    unfold hammerFirstState
    simp [bare, park, home]
  rw [first, bell_setHammer, bell_modBell, if_pos rfl]
  exact ⟨rfl, rfl⟩

/-- PARK false: READY or UNPARKING (R64). -/
theorem hammerFirstState_movable (park : (w.bell b).park.state = some false) :
    ((w.hammerFirstState b).bell b).movable (w.parkTimer b) := by
  have first : ∃ x timer, (x = .ready ∨ x = .unparking) ∧ w.hammerFirstState b = w.setHammer b x timer true := by
    unfold hammerFirstState
    by_cases home : (w.bell b).home.state = some true
    · exact ⟨.ready, none, .inl rfl, by simp [bare, park, home]⟩
    · have away : ((w.bell b).home.state == some true) = false := beq_eq_false_iff_ne.mpr home
      exact ⟨.unparking, w.parkTimer b, .inr rfl, by simp [bare, park, away]⟩
  obtain ⟨x, timer, which, first⟩ := first
  rw [first, bell_setHammer]
  rcases which with rfl | rfl
  · exact .inl (.inl rfl)
  · exact .inl (.inr rfl)

end

/-- The demand set with the SWING demand (R54). -/
def swingDemands (d : Demands) : Demands := { d with swing := true }

/-- A swing that comes to rest demands its hammer PARKED, and keeps the demand of the start (R54). -/
theorem demandsOf_calm {x : SwingState} (h : x.calm) : x.demandsOf = swingDemands := by
  funext d
  rcases h with rfl | rfl <;> simp [SwingState.demandsOf, SwingState.demandsPark, swingDemands]

theorem swingDemands_nonempty (d : Demands) : (swingDemands d).isEmpty = false := by simp [swingDemands, Demands.isEmpty]

/-- The first states of a fitted hammer (R64). -/
theorem firstStates_hammer (h : BeforeFirst b u v) (bare : (u.bell b).hammer = none) (fitted : (u.config b).hammer = true)
    (still : u.pulsing b = false) :
    (v.firstStates.bell b).demands.swing = true ∧
      ((u.bell b).park.state = some true → (u.bell b).home.state = some true →
        (v.firstStates.bell b).hammer = some .fault ∧ (v.firstStates.bell b).cause = some .sensorConflict ∧
          v.firstStates.noticedAll .fault) ∧
      ((u.bell b).park.state = some true → (u.bell b).home.state = some false →
        (v.firstStates.bell b).hammer = some .parked ∧ (v.firstStates.bell b).demands.start = true) ∧
      ((u.bell b).park.state = some false →
        (v.firstStates.bell b).hammer = some .parking ∧ (v.firstStates.bell b).timer = u.parkTimer b) := by
  obtain ⟨w, x, y, z, vw, wx, xy, yz, zt, keeps⟩ := firstStates_at v b
  have hw := h.apart vw
  have hx := hw.awaits.hammerFirstState.apart wx
  have hy : Awaits b u y := xy.elim hx.apart (hx.changeDemands true).apart
  have hz := hy.meetDemand.apart yz
  have none := hw.bare bare
  obtain ⟨f, first, calm⟩ := swingFirstState_of_hammer hz.state (hz.config ▸ fitted)
  obtain ⟨base, same, now, pulsing, motor, last⟩ := setSwing_hammer z b f true
  rw [demandsOf_calm calm, ← first, ← zt.bell] at last
  rw [← hw.awaits.park, ← hw.awaits.home]
  refine ⟨?_, fun park home => ?_, fun park home => ?_, fun park => ?_⟩
  · rw [last]
    dsimp only
    rw [demands_changeDemands]
    rfl
  · obtain ⟨fault, cause, notice⟩ := hammerFirstState_conflict none park home
    have kx : (x.bell b).hammer = some .fault ∧ (x.bell b).cause = some .sensorConflict := by
      rw [wx.bell]
      exact ⟨fault, cause⟩
    have ky : (y.bell b).hammer = some .fault ∧ (y.bell b).cause = some .sensorConflict := by
      rcases xy with a | a
      · rwa [a.bell]
      · rwa [a.bell, changeDemands_ignored (.inl (by simp [kx.1])), bell_withDemands]
    have kz : (z.bell b).hammer = some .fault ∧ (z.bell b).cause = some .sensorConflict := by
      rwa [yz.bell, meetDemand_fast (by simp [ky.1])]
    rw [last, changeDemands_ignored (.inl (by simp [same, kz.1])), bell_withDemands, same]
    exact ⟨kz.1, kz.2, keeps.noticedAll notice⟩
  · have kx : (x.bell b).hammer = some .parked ∧ (x.bell b).demands.start = true := by
      rw [wx.bell]
      exact hammerFirstState_parked none park home
    have ky : (y.bell b).hammer = some .parked ∧ (y.bell b).demands.start = true := by
      rcases xy with a | a
      · rwa [a.bell]
      · rwa [a.bell, changeDemands_ignored (.inr (by simp [demanded, Demands.isEmpty, lockedDemands, kx.2])), bell_withDemands]
    have kz : (z.bell b).hammer = some .parked ∧ (z.bell b).demands.start = true := by
      rwa [yz.bell, meetDemand_fast (by simp [ky.1])]
    rw [last, changeDemands_ignored (.inr (by simp [demanded, Demands.isEmpty, swingDemands, same, kz.2])), bell_withDemands, same]
    exact kz
  · have away {p : State} (hp : Awaits b u p) : (p.bell b).park.state ≠ some true := by
      rw [hp.park, ← hw.awaits.park, park]
      decide
    have quiet {p : State} (hp : Awaits b u p) : p.pulsing b = false := hp.pulsing.trans still
    have kx : (x.bell b).movable (x.parkTimer b) := by
      rw [wx.bell, hx.parkTimer, ← hw.awaits.parkTimer]
      exact hammerFirstState_movable none park
    have ky : (y.bell b).movable (y.parkTimer b) := by
      rw [hy.parkTimer, ← hx.parkTimer]
      rcases xy with a | a
      · rwa [a.bell]
      · rw [a.bell]
        exact changeDemands_movable (away hx) (quiet hx) (lockedDemands_nonempty _) kx
    have kz : (z.demanded b = false ∧ ((z.bell b).hammer = some .ready ∨ (z.bell b).hammer = some .unparking)) ∨
        ((z.bell b).hammer = some .parking ∧ (z.bell b).timer = z.parkTimer b) := by
      rw [yz.demanded, yz.bell, hz.parkTimer, ← hy.parkTimer]
      exact meetDemand_movable (away hy) (quiet hy) ky
    have timer : base.parkTimer b = z.parkTimer b := by
      unfold parkTimer config
      rw [now, same]
    have parks := changeDemands_parksMovable (v := base) (b := b) (g := swingDemands) (by rw [same]; exact away hz)
      (pulsing.trans (quiet hz)) (swingDemands_nonempty _) (by rw [demanded, same, timer]; exact kz)
    rw [last]
    exact ⟨parks.1, parks.2.trans (timer.trans hz.parkTimer)⟩

/-! ## The scan -/

/-- The first states of bell `b` at the scan that makes the image valid (R64, R148). -/
theorem scan_firstStates {m : BitVec 96} {lockout mains : Bool} (before : s.bells.imageValid = false)
    (after : ((s.debounced m lockout mains).deliverScan s.bells).settle.bells.imageValid = true) (empty : s.load.queue = [])
    (state : s.swingState b = .unreported) :
    s.firstStatesOf (s.debounced m lockout mains) ((s.debounced m lockout mains).deliverScan s.bells).settle b := by
  have record := bell_debounced_eq s m lockout mains b
  have now : (s.debounced m lockout mains).now = s.now := rfl
  have pulses : (s.debounced m lockout mains).pulsing b = s.pulsing b := rfl
  have h := scan_beforeFirst (s := s) (u := s.debounced m lockout mains) rfl rfl state empty
  have config : (s.debounced m lockout mains).config b = s.config b := by
    rw [State.config, record]
    rfl
  have valid := (scan_keepsInputs s.bells (s.debounced m lockout mains)).image.symm.trans after
  generalize s.debounced m lockout mains = u at *
  have image : ((u.deliverBells s.bells).deliverLockout s.bells.lockout.state).bells.imageValid = true :=
    ((deliverLockout_keepsInputs s.bells.lockout.state (u.deliverBells s.bells)).image.trans
      (deliverBells_keepsInputs s.bells u).image).trans valid
  have runs : (u.deliverScan s.bells).settle =
      ((u.deliverBells s.bells).deliverLockout s.bells.lockout.state).firstStates.settle := by
    rw [deliverScan_settle]
    unfold scanRest
    dsimp only
    rw [image, before]
    rfl
  rw [runs]
  generalize (u.deliverBells s.bells).deliverLockout s.bells.lockout.state = v at *
  obtain ⟨w, x, y, z, vw, wx, xy, yz, zt, -⟩ := firstStates_at v b
  have hx := (h.apart vw).awaits.hammerFirstState.apart wx
  have hz : Awaits b u z := (xy.elim hx.apart (hx.changeDemands true).apart : Awaits b u y).meetDemand.apart yz
  obtain ⟨swing, rests⟩ := swingFirstState_spec hz.state hz.out
  have last : Apart b (z.swingFirstState b) v.firstStates.settle := zt.trans (rests.apart zt).settle
  have settled : Apart b v.firstStates v.firstStates.settle := (rests.apart zt).settle
  have same : z.config b = s.config b := hz.config.trans config
  have count : z.now = s.now := hz.now.trans now
  refine ⟨fun unfitted => ?_, fun fitted => ⟨fun rest => ?_, fun rest => ?_⟩, fun hammer bare still => ?_⟩
  · rw [last.swingState]
    exact swing.idle (by rw [same]; exact unfitted)
  · rw [last.swingState, last.swing, ← same, ← count]
    exact swing.settles (by rw [same]; exact fitted) (by rw [hz.rest]; exact rest)
  · rw [last.swingState, last.swing, ← same, ← count]
    exact swing.stops (by rw [same]; exact fitted) (by rw [hz.rest, rest]; decide)
  · obtain ⟨demand, conflict, parked, parking⟩ := firstStates_hammer h (by rw [record]; exact bare) (by rw [config]; exact hammer)
      (pulses.trans still)
    have timer : u.parkTimer b = some (s.now + (s.config b).parkTimeout * 256) := by
      rw [parkTimer, now, config]
      rfl
    rw [settled.bell, ← timer]
    refine ⟨demand, fun park home => ?_, parked, parking⟩
    obtain ⟨fault, cause, notice⟩ := conflict park home
    exact ⟨fault, cause, (Keeps.refl v.firstStates).settle.noticedAll notice⟩

end

end State

end Sys2Proof.Machine
end

section
/-! PROOFS. The scan of the bell sensors (O27), from its parts. -/

namespace Sys2Proof.Machine

/-- Settles O27: the power state decides what a scan reads, and each kind of change has its own part of the proof. -/
theorem sensorScanDebounces : Obligations.SensorScanDebounces := by
  refine ⟨fun x r => ⟨Sensor.sample_of_agreeing, Sensor.sample_of_differing⟩, fun m lockout mains s => ?_⟩
  intro x
  refine ⟨fun on absent was => ?fails, fun on present => ?works, fun dark still => ?dark, fun dark back => ?starts,
    State.exec_sensorScan_off⟩
  case fails =>
    have runs := State.exec_sensorScan_on (m := m) (lockout := lockout) (mains := mains) on
    rw [State.scanWorking_fails absent was] at runs
    exact ⟨_, runs, rfl, State.keepsRetained_of_debounced (State.unsupplied_keepsRetained _ .absent),
      State.unsupplied_clearsVolatile _ .absent⟩
  case works =>
    have runs := State.exec_sensorScan_on (m := m) (lockout := lockout) (mains := mains) on
    rw [State.scanWorking_delivers present] at runs
    obtain ⟨power, sensors, locks, supply, image⟩ := State.scan_image s m lockout mains
    refine ⟨_, runs, power.trans on, sensors, locks, supply, image, fun b only => State.scan_of_sensors only,
      fun b c has => State.scan_claims (fun _ => rfl) has, fun same valid quiet => ⟨fun off on waiting => ?_, fun on off law => ?_⟩,
      fun before after quiet empty b state => State.scan_firstStates before after empty state⟩
    · exact State.scan_lockOut same valid off on waiting
    · exact State.scan_lockOutEnds same valid quiet on off law
  case dark =>
    rw [State.exec_sensorScan_absent dark, State.scanMains_eq]
    exact congrArg Host.Outcome.next (if_neg still)
  case starts =>
    rw [State.exec_sensorScan_absent dark, State.scanMains_eq]
    exact congrArg Host.Outcome.next (if_pos back)

end Sys2Proof.Machine
end

section
/-! PROOFS. The operations of the claims table on the bells of a set, in turn (R70, R72, R74): what the turn of one bell makes of
its claim, its ROPE demand and its queued strikes. -/

namespace Sys2Proof.Machine

/-- A claim once it is given up: a ROPE claim on a bell that is not at rest becomes releasing, and one that is releasing stays so;
any other ends (R74, R75). -/
def Claim.givenUp (c : Claim) (rest : Option Bool) : Option Claim :=
  if c.kind = .rope ∧ (c.releasing = true ∨ rest ≠ some true) then some { c with expiry := none, releasing := true }
  else none

namespace State

/-! ## Operations on the bells of a list -/

section

variable {f : State → Bell → State} {l : List Bell} {b : Bell}

/-- Operations on other bells leave bell `b`. -/
theorem foldl_apart (acts : ∀ (u : State) k, ∃ held, u.ActsAt held k (f u k)) (out : b ∉ l) (s : State) :
    Apart b s (l.foldl f s) := by
  refine List.foldlRecOn (motive := Apart b s) l f (.refl b s) fun u h k mem => ?_
  obtain ⟨held, act⟩ := acts u k
  exact h.trans (.of_actsAt (fun same => out (same ▸ mem)) act)

/-- Operations on each bell of a list in turn: bell `b` sees its own only, and what every operation keeps holds of those before
it and of those after it. -/
theorem foldl_turn {R : State → State → Prop} (refl : ∀ s, R s s) (trans : ∀ {s t u}, R s t → R t u → R s u)
    (keeps : ∀ (u : State) k, R u (f u k)) (acts : ∀ (u : State) k, ∃ held, u.ActsAt held k (f u k)) (nodup : l.Nodup)
    (mem : b ∈ l) (s : State) :
    ∃ u, Apart b s u ∧ R s u ∧ Apart b (f u b) (l.foldl f s) ∧ R (f u b) (l.foldl f s) := by
  have kept (l : List Bell) (s : State) : R s (l.foldl f s) :=
    List.foldlRecOn (motive := R s) l f (refl s) fun u h k _ => trans h (keeps u k)
  obtain ⟨l₁, l₂, rfl⟩ := List.append_of_mem mem
  obtain ⟨-, nodup₂, distinct⟩ := List.nodup_append.mp nodup
  have before : b ∉ l₁ := fun h => distinct b h b List.mem_cons_self rfl
  rw [List.foldl_append, List.foldl_cons]
  exact ⟨_, foldl_apart acts before s, kept l₁ s, foldl_apart acts (List.nodup_cons.mp nodup₂).1 _, kept l₂ _⟩

end

theorem bellsOf_nodup (m : BellSet) : (bellsOf m).Nodup := (List.nodup_finRange 24).filter _

/-! ## Hold times and the strike queue -/

/-- No strike has entered the queue from `s` to `t`, and the hold times stand. -/
structure AddsNoStrike (s t : State) : Prop where
  hold : t.claims.hold = s.claims.hold
  queue : t.engine.queue ⊆ s.engine.queue

theorem AddsNoStrike.refl (s : State) : s.AddsNoStrike s := ⟨rfl, fun _ h => h⟩

theorem AddsNoStrike.trans {s t u : State} (h : s.AddsNoStrike t) (g : t.AddsNoStrike u) : s.AddsNoStrike u :=
  ⟨g.hold.trans h.hold, fun _ mem => h.queue (g.queue mem)⟩

/-- The signals of an event bring no strike, and leave the claims table. -/
theorem AddsNoStrike.settle (s : State) : s.AddsNoStrike s.settle :=
  ⟨(Keeps.refl s).settle.hold, (Settles.refl (guarded := False) s).settle.queue⟩

theorem claim_settle (s : State) (b : Bell) : s.settle.claim b = s.claim b := ((KeepsInputs.settle s).rope trivial b).2

/-! ## The ROPE demand -/

section

variable (s : State) (b : Bell) (present : Bool)

theorem ropeDemand_claim (k : Bell) : (s.ropeDemand b present).claim k = s.claim k :=
  congrArg (fun x : Claims => x.recs.get k)
    (changeDemands_within (changesOnly.refl _ s) (List.Subset.refl _) b _ .claims (by decide))

theorem ropeDemand_queue : (s.ropeDemand b present).engine.queue = s.engine.queue :=
  congrArg Engine.queue (changeDemands_within (changesOnly.refl _ s) (List.Subset.refl _) b _ .engine (by decide))

theorem ropeDemand_rope : ((s.ropeDemand b present).bell b).demands.rope = present := by
  rw [ropeDemand, demands_changeDemands]

end

/-! ## A purge leaves the claims and the bells -/

section

variable (s : State) (matching : QueueEntry → Bool) (r : DropReason)

theorem purge_claim (b : Bell) : (s.purge matching r).claim b = s.claim b :=
  congrArg (fun x : Claims => x.recs.get b)
    (purge_within (changesOnly.refl _ s) (List.Subset.refl _) matching r .claims (by decide))

theorem purge_bell (b : Bell) : (s.purge matching r).bell b = s.bell b :=
  congrArg (fun x : BellTable => x.bells.get b)
    (purge_within (changesOnly.refl _ s) (List.Subset.refl _) matching r .bells (by decide))

end

/-! ## The taking of one bell (R70) -/

/-- The claim that port `p` takes now with a kind (R70, R71). -/
def freshClaim (s : State) (p : Port) (k : ClaimKind) : Claim :=
  { owner := p, kind := k, expiry := some (s.claimExpiry p), releasing := false }

section

variable {s : State} {p : Port} {k : ClaimKind} {b : Bell}

/-- A claim taken again with the kind that it has is written afresh, and no more. -/
theorem takeClaim_again (h : (s.claim b).map Claim.kind = some k) :
    s.takeClaim p k b = s.setClaim b (some (s.freshClaim p k)) := by
  unfold takeClaim
  generalize (s.claim b).map Claim.kind = was at h
  subst h
  cases k <;> rfl

/-- A bell that is not held by a ROPE claim yet is parked, and its strikes leave the queue. -/
theorem takeClaim_rope (h : (s.claim b).map Claim.kind ≠ some .rope) :
    s.takeClaim p .rope b =
      ((s.setClaim b (some (s.freshClaim p .rope))).ropeDemand b true).purge (fun e => e.bell == b) .claimed := by
  unfold takeClaim
  generalize (s.claim b).map Claim.kind = was at h
  match was, h with
  | none, _ => rfl
  | some .chime, _ => rfl
  | some .rope, h => exact absurd rfl h

/-- Of the strikes of a free bell, those of the port that takes it stay in the queue. -/
theorem takeClaim_free (h : s.claim b = none) :
    s.takeClaim p .chime b = (s.setClaim b (some (s.freshClaim p .chime))).purge
      (fun e => e.bell == b && !claimAllows (some (s.freshClaim p .chime)) e.port) .claimed := by
  unfold takeClaim
  rw [h]
  rfl

/-- A ROPE claim that becomes a CHIME claim gives back the hammer. -/
theorem takeClaim_unropes (h : (s.claim b).map Claim.kind = some .rope) :
    s.takeClaim p .chime b = (s.setClaim b (some (s.freshClaim p .chime))).ropeDemand b false := by
  unfold takeClaim
  generalize (s.claim b).map Claim.kind = was at h
  subst h
  rfl

end

/-- A queued entry of a bell stays when port `p` takes the bell with kind `k`; `was` is the kind of the claim before (R70). -/
def claimSpares (was : Option ClaimKind) (p : Port) (k : ClaimKind) (e : QueueEntry) : Prop :=
  (was ≠ some .rope → k ≠ .rope) ∧ (was = none → k = .chime → e.port = some p)

/-- What the taking of bell `b` makes of `s`: the record is fresh, the ROPE demand follows it where it followed the record
before, and exactly the entries that the claim allows stay (R70). -/
structure TakesBell (p : Port) (k : ClaimKind) (b : Bell) (s t : State) : Prop where
  claim : t.claim b = some (s.freshClaim p k)
  demand : (s.bell b).demands.rope = (s.claim b).any (fun c => c.kind == .rope) → (t.bell b).demands.rope = (k == .rope)
  queue : ∀ e, e ∈ t.engine.queue ↔ e ∈ s.engine.queue ∧ (e.bell = b → claimSpares ((s.claim b).map Claim.kind) p k e)

theorem takeClaim_takes (s : State) (p : Port) (k : ClaimKind) (b : Bell) : TakesBell p k b s (s.takeClaim p k b) := by
  have written : (s.setClaim b (some (s.freshClaim p k))).claim b = some (s.freshClaim p k) := by
    rw [claim_setClaim, if_pos rfl]
  have queued : (s.setClaim b (some (s.freshClaim p k))).engine.queue = s.engine.queue := rfl
  by_cases again : (s.claim b).map Claim.kind = some k
  · rw [takeClaim_again again]
    refine ⟨written, fun follows => ?_, fun e => ?_⟩
    · change (s.bell b).demands.rope = _
      obtain ⟨c, has, rfl⟩ := Option.map_eq_some_iff.mp again
      rw [follows, has]
      rfl
    · simp [claimSpares, again, queued]
  cases k with
  | rope =>
    rw [takeClaim_rope again]
    refine ⟨?_, fun _ => ?_, fun e => ?_⟩
    · rw [purge_claim, ropeDemand_claim, written]
    · rw [purge_bell, ropeDemand_rope]
      rfl
    · rw [purge_queue, ropeDemand_queue, queued]
      simp [claimSpares, again]
  | chime =>
    by_cases was : s.claim b = none
    · rw [takeClaim_free was]
      refine ⟨?_, fun follows => ?_, fun e => ?_⟩
      · rw [purge_claim, written]
      · rw [purge_bell]
        change (s.bell b).demands.rope = _
        rw [follows, was]
        rfl
      · rw [purge_queue, queued]
        simp [claimSpares, claimAllows, freshClaim, was, imp_iff_not_or]
    · have rope : (s.claim b).map Claim.kind = some .rope := by
        obtain ⟨c, has⟩ := Option.ne_none_iff_exists'.mp was
        rw [has] at again ⊢
        cases kind : c.kind with
        | rope => exact congrArg some kind
        | chime => exact absurd (congrArg some kind) again
      rw [takeClaim_unropes rope]
      refine ⟨?_, fun _ => ?_, fun e => ?_⟩
      · rw [ropeDemand_claim, written]
      · rw [ropeDemand_rope]
        rfl
      · rw [ropeDemand_queue, queued]
        simp [claimSpares, rope]

theorem takeClaim_actsAt (s : State) (p : Port) (k : ClaimKind) (b : Bell) : s.ActsAt False b (s.takeClaim p k b) := by
  have written (c : Option Claim) : s.ActsAt False b (s.setClaim b c) := (ActsAt.refl False b s).setClaim id c
  have demanded (c : Option Claim) (present : Bool) : s.ActsAt False b ((s.setClaim b c).ropeDemand b present) :=
    (written c).changeDemands False.elim
  unfold takeClaim
  dsimp only
  split
  · exact written _
  · exact written _
  · exact (demanded _ _).purge ..
  · exact (written _).purge ..
  · exact demanded ..

theorem takeClaim_addsNoStrike (s : State) (p : Port) (k : ClaimKind) (b : Bell) : s.AddsNoStrike (s.takeClaim p k b) :=
  ⟨((Keeps.refl s).takeClaim p k b).hold, fun e mem => (((s.takeClaim_takes p k b).queue e).mp mem).1⟩

/-! ## The giving up of one bell (R74, R75) -/

section

variable {s : State} {b : Bell}

theorem giveUpClaim_claim {c : Claim} (has : s.claim b = some c) :
    (s.giveUpClaim b).claim b = c.givenUp (s.bell b).rest.state := by
  have gives : s.giveUpClaim b = if c.kind = .rope ∧ (c.releasing = true ∨ (s.bell b).rest.state ≠ some true) then
      s.setClaim b (some { c with expiry := none, releasing := true }) else s.endClaim b := by
    unfold giveUpClaim
    rw [has]
    simp [atRest]
  rw [gives]
  unfold Claim.givenUp
  split
  · rw [claim_setClaim, if_pos rfl]
  · exact (endClaim_spec has).1

theorem giveUpClaim_actsAt (s : State) (b : Bell) : s.ActsAt False b (s.giveUpClaim b) := by
  unfold giveUpClaim
  split
  · exact .ite ((ActsAt.refl False b s).setClaim id _) ((ActsAt.refl False b s).endClaim id)
  · exact .refl False b s

end

end State

end Sys2Proof.Machine
end

section
/-! PROOFS. CLAIM (R69, R70). -/

namespace Sys2Proof.Machine

namespace State

/-! ## The conditions of one bell -/

section

variable {s : State} {p : Port} {k : ClaimKind} {b : Bell}

/-- The port holds the bell by a ROPE claim. -/
def holdsRope (s : State) (p : Port) (b : Bell) : Bool := (s.claim b).any fun c => c.owner == p && c.kind == .rope

theorem claimRefusal_owned {c : Claim} (has : s.claim b = some c) (other : c.owner ≠ p) :
    s.claimRefusal p k b = some .owned := by
  simp [claimRefusal, has, other]

/-- On a bell that no other port holds, R69 goes on to its other conditions. -/
theorem claimRefusal_of_unowned (mine : ∀ c, s.claim b = some c → c.owner = p) :
    s.claimRefusal p k b =
      if k = .rope ∧ s.holdsRope p b = false ∧ s.swingState b ≠ .idle then some .moving
      else if k = .rope ∧ s.holdsRope p b = false ∧ s.lockedOut = true then some .lockedOut
      else if k = .chime ∧ s.holdsRope p b = true ∧ (s.bell b).rest.state ≠ some true then some .notAtRest
      else none := by
  have kept : (s.claim b).filter (fun c => c.owner == p) = s.claim b := by
    cases has : s.claim b with
    | none => rfl
    | some c => simp [mine c has]
  have rope : (s.claim b).any (fun c => c.kind == .rope) = s.holdsRope p b := by
    unfold holdsRope
    cases has : s.claim b with
    | none => rfl
    | some c => simp [mine c has]
  have owned : ¬((s.claim b).isSome && (s.claim b).isNone) = true := by cases s.claim b <;> simp
  unfold claimRefusal
  dsimp only
  rw [kept, rope, if_neg owned]
  simp only [atRest, Bool.and_eq_true, beq_iff_eq, bne_iff_ne, Bool.not_eq_true', beq_eq_false_iff_ne, ne_eq, and_assoc]

end

/-! ## A set that is refused, and a set that is taken -/

/-- The bells of a set that meet a condition of R69, each with its first. -/
def claimRefusals (s : State) (p : Port) (k : ClaimKind) (m : BellSet) : List (Bell × ClaimRefusal) :=
  (bellsOf m).filterMap fun b => (s.claimRefusal p k b).map fun c => (b, c)

theorem claimRefusals_isEmpty {s : State} {p : Port} {k : ClaimKind} {m : BellSet} :
    (s.claimRefusals p k m).isEmpty = true ↔ ∀ b ∈ bellsOf m, s.claimRefusal p k b = none := by
  simp [claimRefusals, List.filterMap_eq_nil_iff]

/-- The state once port `p` has taken every bell of a set, with what it starts in the same event (R70). -/
def claimsTaken (s : State) (p : Port) (k : ClaimKind) (m : BellSet) : State :=
  ((bellsOf m).foldl (fun s b => s.takeClaim p k b) s).settle

section

variable {s : State} {p : Port} {k : ClaimKind} {m : BellSet}

theorem ownClaim_refused (h : ∃ b ∈ bellsOf m, (s.claimRefusal p k b).isSome = true) : s.ownClaim p (m, k) =
    ⟨s, .unavailable, wList (fun y : Bell × ClaimRefusal => wBell y.1 ++ le 1 y.2.ctorIdx) (s.claimRefusals p k m)⟩ := by
  obtain ⟨b, mem, met⟩ := h
  refine if_neg fun none => ?_
  rw [claimRefusals_isEmpty.mp none b mem] at met
  cases met

theorem ownClaim_taken (h : ∀ b ∈ bellsOf m, s.claimRefusal p k b = none) : s.ownClaim p (m, k) =
    (s.claimsTaken p k m).ok (wList (fun b =>
      wBell b ++ le 1 ((((s.claimsTaken p k m).claim b).map fun c => c.kind.ctorIdx).getD 0)) ((s.claimsTaken p k m).heldBy p)) :=
  if_pos (claimRefusals_isEmpty.mpr h)

variable (s p k m)

/-- The turn of bell `b` in the taking of a set. -/
theorem claimsTaken_turn {b : Bell} (mem : b ∈ bellsOf m) :
    ∃ u, Apart b s u ∧ s.AddsNoStrike u ∧ (s.claimsTaken p k m).claim b = (u.takeClaim p k b).claim b ∧
      ((s.claimsTaken p k m).bell b).demands.rope = ((u.takeClaim p k b).bell b).demands.rope ∧
      (u.takeClaim p k b).AddsNoStrike (s.claimsTaken p k m) := by
  obtain ⟨u, before, kept, after, later⟩ := foldl_turn (f := fun s b => s.takeClaim p k b) AddsNoStrike.refl AddsNoStrike.trans
    (fun u b => u.takeClaim_addsNoStrike p k b) (fun u b => ⟨_, u.takeClaim_actsAt p k b⟩) (bellsOf_nodup m) mem s
  refine ⟨u, before, kept, (claim_settle _ b).trans after.claim, ?_, later.trans (.settle _)⟩
  rw [← after.bell]
  exact ((KeepsInputs.settle _).rope trivial b).1

theorem claimsTaken_addsNoStrike : s.AddsNoStrike (s.claimsTaken p k m) :=
  have taken := List.foldlRecOn (motive := s.AddsNoStrike) (bellsOf m) (fun s b => s.takeClaim p k b) (.refl s) fun u h b _ =>
    h.trans (u.takeClaim_addsNoStrike p k b)
  taken.trans (.settle _)

theorem claimsTaken_claim (b : Bell) :
    (s.claimsTaken p k m).claim b = if b ∈ bellsOf m then some (s.freshClaim p k) else s.claim b := by
  split
  · rename_i mem
    obtain ⟨u, before, kept, claim, -, -⟩ := s.claimsTaken_turn p k m mem
    have same : u.freshClaim p k = s.freshClaim p k := by
      unfold freshClaim claimExpiry
      rw [before.now, kept.hold]
    rw [claim, (u.takeClaim_takes p k b).claim, same]
  · rename_i out
    have apart := foldl_apart (f := fun s b => s.takeClaim p k b) (fun u b => ⟨_, u.takeClaim_actsAt p k b⟩) out s
    exact (claim_settle _ b).trans apart.claim

theorem claimsTaken_demand (law : s.demandLaw) {b : Bell} (mem : b ∈ bellsOf m) :
    ((s.claimsTaken p k m).bell b).demands.rope = (k == .rope) := by
  obtain ⟨u, before, -, -, demand, -⟩ := s.claimsTaken_turn p k m mem
  refine demand.trans ((u.takeClaim_takes p k b).demand ?_)
  rw [before.bell, before.claim]
  exact (law b).2

theorem claimsTaken_queue {e : QueueEntry} (queued : e ∈ (s.claimsTaken p k m).engine.queue) :
    e ∈ s.engine.queue ∧ (e.bell ∈ bellsOf m → claimSpares ((s.claim e.bell).map Claim.kind) p k e) := by
  refine ⟨(s.claimsTaken_addsNoStrike p k m).queue queued, fun mem => ?_⟩
  obtain ⟨u, before, -, -, -, later⟩ := s.claimsTaken_turn p k m mem
  rw [← before.claim]
  exact (((u.takeClaim_takes p k e.bell).queue e).mp (later.queue queued)).2 rfl

end

theorem exec_claim {s : State} {p : Port} {l : List Byte} {x : BellSet × ClaimKind} (accepted : s.accepts p 0x38 l)
    (reads : readAll rClaim l = some x) :
    exec (.claim p l) s = .next (respond p 0x38 (ownClaim p x (s.takeFrame p false false))) :=
  congrArg Host.Outcome.next (parsed_accepted accepted reads (ownClaim p))

end State

/-- Settles O33: the conditions are read off their definition; a set that no bell of it refuses is taken bell by bell, and what one
bell's turn makes of its claim, its demand and its strikes stands to the end of the event. -/
theorem claimsAreAllOrNothing : Obligations.ClaimsAreAllOrNothing := by
  refine ⟨fun p k b s => ?conditions, fun p l m k s accepted reads => ⟨fun refused => ?refused, fun free law => ?taken⟩⟩
  case conditions =>
    refine ⟨fun ⟨c, has, other⟩ => State.claimRefusal_owned has other, fun mine => ?_⟩
    rw [State.claimRefusal_of_unowned mine]
    change (_ → s.holdsRope p b = false → _) ∧ (_ → s.holdsRope p b = false → _) ∧ (_ → s.holdsRope p b = true → _) ∧
      (_ → (s.holdsRope p b = true ∨ _) → _) ∧ (_ → (s.holdsRope p b = false ∨ _) → _)
    refine ⟨?_, ?_, ?_, ?_, ?_⟩
    · rintro rfl free moving
      exact if_pos ⟨rfl, free, moving⟩
    · rintro rfl free idle locked
      simp [free, idle, locked]
    · rintro rfl held moving
      simp [held, moving]
    · rintro rfl (held | ⟨idle, unlocked⟩)
      · simp [held]
      · simp [idle, unlocked]
    · rintro rfl (free | rest)
      · simp [free]
      · simp [rest]
  case refused =>
    rw [State.exec_claim accepted reads, State.ownClaim_refused (s := s.takeFrame p false false) refused, State.respond_takeFrame]
    rfl
  case taken =>
    let u := s.takeFrame p false false
    have runs := State.exec_claim accepted reads
    rw [State.ownClaim_taken (s := u) free] at runs
    refine ⟨_, runs, u.claimsTaken_claim p k m, fun b => u.claimsTaken_demand p k m law, fun e queued => ?_,
      State.responds_respond ..⟩
    obtain ⟨was, spares⟩ := u.claimsTaken_queue p k m queued
    refine ⟨was, fun mem unroped rope => ?_, fun mem free chime => ?_⟩
    · refine (spares mem).1 (fun roped => ?_) rope
      obtain ⟨c, has, kind⟩ := Option.map_eq_some_iff.mp roped
      change (u.claim e.bell).any _ = false at unroped
      simp [has, kind] at unroped
    · exact (spares mem).2 (Option.map_eq_none_iff.mpr free) chime

end Sys2Proof.Machine
end

section
/-! PROOFS. RENEW, RELEASE and the lapse of a claim (R71, R72, R74, R75). -/

namespace Sys2Proof.Machine

namespace State

/-- RENEW and RELEASE answer OK where they found a bell to act on (R72, R74). -/
theorem statusOf_filter (f : Bell → Bool) (l : List Bell) :
    (if (l.filter f).isEmpty then Status.notSet else .ok) = if l.any f then .ok else .notSet := by
  have none : (l.filter f).isEmpty = !l.any f := by
    rw [Bool.eq_iff_iff]
    simp [List.isEmpty_iff, List.filter_eq_nil_iff]
  rw [none]
  cases l.any f <;> rfl

/-! ## RENEW -/

section

variable (s : State) (p : Port) (m : BellSet)

/-- The state once port `p` has renewed what it can of a set (R72). -/
def claimsRenewed : State :=
  ((bellsOf m).filter fun b => s.renewable p b).foldl
    (fun t b => t.setClaim b ((t.claim b).map fun c => { c with expiry := some (s.claimExpiry p) })) s

theorem ownRenew_eq : s.ownRenew p m =
    ⟨s.claimsRenewed p m, if (bellsOf m).any (fun b => s.renewable p b) then .ok else .notSet,
      wBells (bellSetOf ((bellsOf m).filter fun b => s.renewable p b)) ++
        wBells (bellSetOf ((bellsOf m).filter fun b => !s.renewable p b))⟩ := by
  rw [← statusOf_filter]
  rfl

theorem claimsRenewed_only : s.changesOnly [.claims] (s.claimsRenewed p m) :=
  .foldl (fun _ _ h => setClaim_within h (by decide) _ _) (.refl _ s) _

theorem claimsRenewed_hold : (s.claimsRenewed p m).claims.hold = s.claims.hold :=
  ((Keeps.refl s).foldl (fun _ b h => h.setClaim b _) _).hold

theorem claimsRenewed_claim (b : Bell) : (s.claimsRenewed p m).claim b =
    if b ∈ bellsOf m ∧ s.renewable p b = true then
      (s.claim b).map fun c => { c with expiry := some (s.claimExpiry p) } else s.claim b := by
  have acts (u : State) (k : Bell) : ∃ held,
      u.ActsAt held k (u.setClaim k ((u.claim k).map fun c => { c with expiry := some (s.claimExpiry p) })) :=
    ⟨False, (ActsAt.refl False k u).setClaim id _⟩
  by_cases mem : b ∈ (bellsOf m).filter fun b => s.renewable p b
  · rw [if_pos (List.mem_filter.mp mem)]
    obtain ⟨u, before, after⟩ := Apart.foldl_bells acts ((bellsOf_nodup m).filter _) mem s
    refine after.claim.trans ?_
    rw [claim_setClaim, if_pos rfl, before.claim]
  · rw [if_neg fun h => mem (List.mem_filter.mpr h)]
    exact (foldl_apart acts mem s).claim

end

theorem exec_renew {s : State} {p : Port} {l : List Byte} {m : BellSet} (accepted : s.accepts p 0x39 l)
    (reads : readAll rBells l = some m) :
    exec (.renew p l) s = .next (respond p 0x39 (ownRenew p m (s.takeFrame p false false))) :=
  congrArg Host.Outcome.next (parsed_accepted accepted reads (ownRenew p))

/-! ## RELEASE -/

section

variable (s : State) (p : Port) (m : BellSet)

/-- The port holds the bell. -/
def holdsBell (b : Bell) : Bool := (s.claim b).any fun c => c.owner == p

/-- A claim on the bell that is given up now stays, releasing. -/
def staysReleasing (b : Bell) : Bool :=
  (s.claim b).any fun c => c.kind == .rope && (c.releasing || (s.bell b).rest.state != some true)

/-- The claim of a bell once it is given up. -/
theorem givenUp_eq {c : Claim} {b : Bell} (has : s.claim b = some c) : c.givenUp (s.bell b).rest.state =
    if s.staysReleasing b then (s.claim b).map fun c => { c with expiry := none, releasing := true } else none := by
  simp [Claim.givenUp, staysReleasing, has]

/-- The state once port `p` has given up what it holds of a set, with what that starts in the same event (R74). -/
def claimsReleased : State := ((s.heldOf p m).foldl (fun s b => s.giveUpClaim b) s).settle

theorem claimsReleased_claim (b : Bell) : (s.claimsReleased p m).claim b =
    if b ∈ bellsOf m ∧ s.holdsBell p b = true then
      (if s.staysReleasing b then (s.claim b).map fun c => { c with expiry := none, releasing := true } else none)
    else s.claim b := by
  have acts (u : State) (k : Bell) : ∃ held, u.ActsAt held k (u.giveUpClaim k) := ⟨False, u.giveUpClaim_actsAt k⟩
  refine (claim_settle _ b).trans ?_
  by_cases mem : b ∈ s.heldOf p m
  · obtain ⟨inSet, held⟩ := List.mem_filter.mp mem
    rw [if_pos ⟨inSet, held⟩]
    obtain ⟨c, has, -⟩ := (Option.any_eq_true ..).mp held
    obtain ⟨u, before, after⟩ := Apart.foldl_bells acts ((bellsOf_nodup m).filter _) mem s
    refine after.claim.trans ?_
    rw [giveUpClaim_claim (before.claim.trans has), before.bell, s.givenUp_eq has]
  · rw [if_neg fun h : b ∈ bellsOf m ∧ s.holdsBell p b = true => mem (List.mem_filter.mpr h)]
    exact (foldl_apart acts mem s).claim

/-- Of the bells that the port holds, those that are releasing now are those whose claim is left. -/
theorem claimsReleased_isSome {b : Bell} (mem : b ∈ bellsOf m) (held : s.holdsBell p b = true) :
    ((s.claimsReleased p m).claim b).isSome = s.staysReleasing b := by
  obtain ⟨c, has, -⟩ := (Option.any_eq_true ..).mp held
  rw [claimsReleased_claim, if_pos ⟨mem, held⟩]
  cases s.staysReleasing b <;> simp [has]

/-- A part of the bells that the port holds, as a part of the whole set. -/
theorem heldOf_filter {f g : Bell → Bool} (same : ∀ b ∈ bellsOf m, s.holdsBell p b = true → f b = g b) :
    (s.heldOf p m).filter f = (bellsOf m).filter fun b => s.holdsBell p b && g b := by
  rw [heldOf, List.filter_filter]
  refine List.filter_congr fun b mem => ?_
  change (f b && s.holdsBell p b) = _
  cases held : s.holdsBell p b
  · exact Bool.and_false _
  · rw [same b mem held, Bool.and_true, Bool.true_and]

theorem ownRelease_eq : s.ownRelease p m =
    ⟨s.claimsReleased p m, if (bellsOf m).any (s.holdsBell p) then .ok else .notSet,
      wBells (bellSetOf ((bellsOf m).filter fun b => s.holdsBell p b && !s.staysReleasing b)) ++
        wBells (bellSetOf ((bellsOf m).filter fun b => s.holdsBell p b && s.staysReleasing b)) ++
        wBells (bellSetOf ((bellsOf m).filter fun b => !s.holdsBell p b))⟩ := by
  have releasing := s.heldOf_filter p m (f := fun b => ((s.claimsReleased p m).claim b).isSome)
    fun b mem held => s.claimsReleased_isSome p m mem held
  have ended := s.heldOf_filter p m (f := fun b => ((s.claimsReleased p m).claim b).isNone) (g := fun b => !s.staysReleasing b)
    fun b mem held => by rw [← s.claimsReleased_isSome p m mem held, Option.not_isSome]
  have others : (bellsOf m).filter (fun b => !(s.heldOf p m).contains b) = (bellsOf m).filter fun b => !s.holdsBell p b := by
    refine List.filter_congr fun b mem => ?_
    simp [heldOf, mem, holdsBell]
  rw [← statusOf_filter, ← releasing, ← ended, ← others]
  rfl

end

theorem exec_release {s : State} {p : Port} {l : List Byte} {m : BellSet} (accepted : s.accepts p 0x3A l)
    (reads : readAll rBells l = some m) :
    exec (.release p l) s = .next (respond p 0x3A (ownRelease p m (s.takeFrame p false false))) :=
  congrArg Host.Outcome.next (parsed_accepted accepted reads (ownRelease p))

/-! ## CLAIM_LAPSE -/

theorem exec_claimLapse (s : State) (b : Bell) : exec (.claimLapse (b.val + 1)) s = .next (s.claimLapses b).settle := by
  have named : bellOf? (b.val + 1) = some b := dif_pos ⟨Nat.le_add_left .., b.isLt⟩
  change execClaimLapse (b.val + 1) s = _
  unfold execClaimLapse
  rw [named]

section

variable {s : State} {b : Bell} {c : Claim} {n : Nat} (has : s.claim b = some c) (expiry : c.expiry = some n)
include has expiry

theorem claimLapses_reached (reached : n ≤ s.now) : s.claimLapses b = (s.giveUpClaim b).raise .claim c.owner := by
  simp [claimLapses, has, expiry, reached]

theorem claimLapses_early (early : s.now < n) : s.claimLapses b = s := by
  simp [claimLapses, has, expiry, Nat.not_le.mpr early]

end

end State

/-- Settles O34: each of the three acts on the bells one by one, and the signals of the event leave the claims as they are. -/
theorem claimsAreRenewedReleasedAndLapse : Obligations.ClaimsAreRenewedReleasedAndLapse := by
  refine ⟨fun p l m s accepted reads => ?renew, fun p l m s accepted reads => ?release, fun b c n s has expiry =>
    ⟨fun reached => ?lapses, fun early quiet => ?early⟩⟩
  case renew =>
    intro yes
    let u := s.takeFrame p false false
    have runs := State.exec_renew accepted reads
    rw [State.ownRenew_eq] at runs
    have only : s.changesOnly [.claims, .link] (u.claimsRenewed p m) :=
      (State.takeFrame_within (.refl _ s) (by decide) p false false).trans ((u.claimsRenewed_only p m).mono (by decide))
    exact ⟨_, runs, State.respond_within (a := ⟨u.claimsRenewed p m, _, _⟩) only (by decide) p 0x39, u.claimsRenewed_hold p m,
      u.claimsRenewed_claim p m, State.responds_respond ..⟩
  case release =>
    intro held stays
    have runs := State.exec_release accepted reads
    rw [State.ownRelease_eq] at runs
    exact ⟨_, runs, (s.takeFrame p false false).claimsReleased_claim p m, State.responds_respond ..⟩
  case lapses =>
    have runs := State.exec_claimLapse s b
    rw [State.claimLapses_reached has expiry reached] at runs
    refine ⟨_, runs, (State.Keeps.refl _).settle.link.notices _ _ (State.noticed_raise _ .claim c.owner), ?_, fun k other => ?_⟩
    · exact (State.claim_settle _ b).trans (State.giveUpClaim_claim has)
    · exact (State.claim_settle _ k).trans ((s.giveUpClaim_actsAt b).claims k other)
  case early =>
    rw [State.exec_claimLapse, State.claimLapses_early has expiry early, State.settle_of_quiet quiet]

end Sys2Proof.Machine
end

section
/-! PROOFS. SET-CLAIM-HOLD (R71). -/

namespace Sys2Proof.Machine

namespace State

/-- SET-CLAIM-HOLD has the right CLAIM to pass, and nothing else. -/
theorem check_setClaimHold (s : State) (p : Port) (a b : Byte) :
    s.check p 0x3B [a, b] = if s.holds p .claim then none else some .noRight := by
  have unlocked : check s p 0x3B [a, b] = if !s.holds p .claim then some .noRight else none := rfl
  rw [unlocked]
  cases s.holds p .claim <;> rfl

/-- The minutes that two bytes spell, clamped (R71, R182). -/
theorem readAll_rClamp (lo hi : Nat) (a b : Byte) :
    readAll (rClamp lo hi) [a, b] = some (max lo (min (a.toNat + 256 * b.toNat) hi)) := rfl

end State

/-- Settles O35: the right is the one check, and the hold time the one thing that is written. -/
theorem setClaimHoldIsClamped : Obligations.SetClaimHoldIsClamped := by
  intro p a b s takes n
  have checked := s.check_setClaimHold p a b
  refine ⟨fun without => ?_, fun right => ?_⟩
  · rw [without] at checked
    exact congrArg Host.Outcome.next (State.request_refused takes checked _)
  · rw [right] at checked
    refine ⟨_, congrArg Host.Outcome.next (State.parsed_accepted ⟨takes, checked⟩ (State.readAll_rClamp 1 60 a b)
      (State.ownSetClaimHold p)), ?_, ?_, ?_, fun k => rfl⟩
    · exact State.respond_takeFrame (s.modClaims fun t => { t with hold := t.hold.set p n }) p 0x3B .ok (le 2 n)
    · exact congrArg (s.now + · * 15360) (PerPort.get_set_same ..)
    · exact fun q other => congrArg (s.now + · * 15360) ((PerPort.get_set ..).trans (if_neg other))

end Sys2Proof.Machine
end

section
/-! PROOFS. The laws of the strike queue, of the hammers and of the load queue, save what they say of some bells, and the relation
`Heeds` from a state to a later one: what every operation keeps of those laws, of the losses, of the pulses and of the onsets. -/

namespace Sys2Proof.Machine

/-- A claim that is not a ROPE claim, or none. -/
def Claim.notRope (c : Option Claim) : Bool := c.all fun x => x.kind != .rope

/-- A bell's last struck onset and its planning horizon (R82). -/
def BellRec.onsets (r : BellRec) : Option Nat × Option Nat := (r.lastOnset, r.horizon)

/-- The bells that an operation in the middle of a change spares: of `entries` the law of the strike queue says nothing, and of
`hammers` the law of the hammers neither. -/
structure Spared where
  entries : Bell → Prop
  hammers : Bell → Prop
  le : ∀ b, hammers b → entries b

namespace Spared

/-- No bell is spared. -/
def none : Spared := ⟨fun _ => False, fun _ => False, fun _ => id⟩

/-- Bell `b` is spared by both laws, and no other. -/
def only (b : Bell) : Spared := ⟨(· = b), (· = b), fun _ => id⟩

/-- The law of the strike queue spares bell `b` too. -/
def and (out : Spared) (b : Bell) : Spared := ⟨fun k => k = b ∨ out.entries k, out.hammers, fun k o => .inr (out.le k o)⟩

end Spared

namespace State

/-- What the law of the strike queue asks of an entry (R85). -/
def mayQueue (s : State) (e : QueueEntry) : Prop :=
  (s.config e.bell).hammer = true ∧ s.swingState e.bell = .idle ∧ Claim.notRope (s.claim e.bell) = true

/-- The laws of the strike queue, of the hammers and of the load queue, save what the first two say of the bells that `out` spares. -/
structure LawsBut (out : Spared) (s : State) : Prop where
  few : s.engine.queue.length ≤ 48
  ordered : s.engine.queue.Pairwise fun x y => x.fire ≤ y.fire
  entries : ∀ e ∈ s.engine.queue, ¬out.entries e.bell → s.mayQueue e
  hammers : ∀ b, ¬out.hammers b → ((s.bell b).hammer = some .absent ↔ (s.config b).hammer = false)
  loads : s.loadQueueLaw

theorem lawsBut_none {s : State} : s.LawsBut .none ↔ s.strikeQueueLaw ∧ s.hammerLaw ∧ s.loadQueueLaw :=
  ⟨fun ⟨few, ordered, entries, hammers, loads⟩ => ⟨⟨few, ordered, fun e mem => entries e mem id⟩, fun b => hammers b id, loads⟩,
    fun ⟨⟨few, ordered, entries⟩, hammers, loads⟩ => ⟨few, ordered, fun e mem _ => entries e mem, fun b _ => hammers b, loads⟩⟩

/-- Bell `b` may take the swing state `x` without harm to the laws: it has it already, or no entry of the strike queue can name the
bell or the state is IDLE, and the bell stands in no load queue or waits for load (R85, R166). -/
def maySwing (out : Spared) (b : Bell) (x : SwingState) (s : State) : Prop :=
  x = s.swingState b ∨ (out.entries b ∨ x = .idle ∨ s.swingState b ≠ .idle) ∧ (x = .waitLoad ∨ ∀ e ∈ s.load.queue, e.bell ≠ b)

/-- Whatever one of the laws asks of `t` it asks of `s` too. -/
structure Eases (s t : State) : Prop where
  queue : t.engine.queue.Sublist s.engine.queue
  config : ∀ b, t.config b = s.config b
  absent : ∀ b, (t.bell b).hammer = some .absent ↔ (s.bell b).hammer = some .absent
  swing : ∀ b, t.swingState b = s.swingState b
  claim : ∀ b, Claim.notRope (s.claim b) = true → Claim.notRope (t.claim b) = true
  load : t.load.queue.Sublist s.load.queue

theorem Eases.refl (s : State) : s.Eases s :=
  ⟨List.Sublist.refl _, fun _ => rfl, fun _ => Iff.rfl, fun _ => rfl, fun _ => id, List.Sublist.refl _⟩

namespace LawsBut

variable {s t : State} {out : Spared}

theorem ease (h : s.LawsBut out) (g : s.Eases t) : t.LawsBut out where
  few := g.queue.length_le.trans h.few
  ordered := h.ordered.sublist g.queue
  entries e mem inside := by
    obtain ⟨fitted, idle, free⟩ := h.entries e (g.queue.subset mem) inside
    exact ⟨by rw [g.config, fitted], by rw [g.swing, idle], g.claim _ free⟩
  hammers b inside := by rw [g.absent, g.config, h.hammers b inside]
  loads := by
    obtain ⟨few, once, waits⟩ := h.loads
    refine ⟨g.load.length_le.trans few, once.sublist (g.load.map _), fun e mem => ?_⟩
    rw [g.swing, neededLoad, g.config]
    exact waits e (g.load.subset mem)

/-- A bell that does not wait for load stands in no load queue (R166). -/
theorem not_waiting (h : s.LawsBut out) {b : Bell} (state : s.swingState b ≠ .waitLoad) : ∀ e ∈ s.load.queue, e.bell ≠ b := by
  rintro e mem rfl
  exact state (h.loads.2.2 e mem).1

/-- A bell that is not IDLE and does not wait for load may take any swing state. -/
theorem maySwing (h : s.LawsBut out) {b : Bell} (busy : s.swingState b ≠ .idle) (awake : s.swingState b ≠ .waitLoad) (x : SwingState) :
    s.maySwing out b x := .inr ⟨.inr (.inr busy), .inr (h.not_waiting awake)⟩

/-- The laws spare fewer bells, where no entry names the others and their hammers stand as they should. -/
theorem narrow {less : Spared} (h : s.LawsBut out) (gone : ∀ e ∈ s.engine.queue, out.entries e.bell → less.entries e.bell)
    (hammers : ∀ b, out.hammers b → less.hammers b ∨ ((s.bell b).hammer = some .absent ↔ (s.config b).hammer = false)) :
    s.LawsBut less :=
  ⟨h.few, h.ordered, fun e mem inside => h.entries e mem (mt (gone e mem) inside), fun b inside => by
    by_cases spared : out.hammers b
    · exact (hammers b spared).resolve_left inside
    · exact h.hammers b spared, h.loads⟩

/-- The laws may spare more bells. -/
theorem weaken {more : Spared} (h : s.LawsBut out) (entries : ∀ b, out.entries b → more.entries b)
    (hammers : ∀ b, out.hammers b → more.hammers b) : s.LawsBut more :=
  ⟨h.few, h.ordered, fun e mem inside => h.entries e mem (mt (entries _) inside), fun b inside => h.hammers b (mt (hammers b) inside), h.loads⟩

theorem and (h : s.LawsBut out) (b : Bell) : s.LawsBut (out.and b) := h.weaken (fun _ => .inr) fun _ => id

end LawsBut

/-- `t` is a state that operations may make of `s`: LOSS stays pending and is raised where a loss counter changes; the laws of the
queues and of the hammers are kept, save for the bells that `out` spares; and where `quiet` says that nothing is planned or granted, every
pulse, onset and horizon stays. -/
structure Heeds (quiet : Prop) (out : Spared) (s t : State) : Prop where
  noticed : s.noticedAll .loss → t.noticedAll .loss
  losses : t.engine.losses = s.engine.losses ∨ t.noticedAll .loss
  slots : quiet → t.engine.slots = s.engine.slots
  onsets : quiet → ∀ b, (t.bell b).onsets = (s.bell b).onsets
  laws : s.LawsBut out → t.LawsBut out

namespace Heeds

variable {quiet : Prop} {out : Spared} {s t u : State}

theorem refl (quiet : Prop) (out : Spared) (s : State) : s.Heeds quiet out s :=
  ⟨id, .inl rfl, fun _ => rfl, fun _ _ => rfl, id⟩

theorem trans (h : s.Heeds quiet out t) (g : t.Heeds quiet out u) : s.Heeds quiet out u where
  noticed x := g.noticed (h.noticed x)
  losses := g.losses.elim (fun same => h.losses.imp same.trans g.noticed) .inr
  slots q := (g.slots q).trans (h.slots q)
  onsets q b := (g.onsets q b).trans (h.onsets q b)
  laws x := g.laws (h.laws x)

theorem ite {c : Prop} [Decidable c] (h : s.Heeds quiet out t) (g : s.Heeds quiet out u) :
    s.Heeds quiet out (if c then t else u) := by split <;> assumption

theorem foldl {f : State → α → State} (h : s.Heeds quiet out t) (hf : ∀ u a, s.Heeds quiet out u → s.Heeds quiet out (f u a))
    (as : List α) : s.Heeds quiet out (as.foldl f t) :=
  List.foldlRecOn (motive := s.Heeds quiet out) as f h fun u g a _ => hf u a g

/-- The laws may spare other bells, where they are kept for these too. -/
theorem withLaws {less : Spared} (h : s.Heeds quiet out t) (laws : s.LawsBut less → t.LawsBut less) :
    s.Heeds quiet less t := { h with laws := laws }

/-! ## Blocks that the laws and the pulses do not rest on -/

/-- The blocks that the laws, the pulses and the losses rest on. -/
abbrev offStrikes : List Block :=
  [.pending, .power, .timekeeper, .calendar, .dials, .players, .clavier, .lights, .link, .store, .signals]

theorem eases_of_frame (only : s.changesOnly offStrikes t) : s.Eases t := by
  have bells : t.bells = s.bells := only .bells (by decide)
  have engine : t.engine = s.engine := only .engine (by decide)
  have claims : t.claims = s.claims := only .claims (by decide)
  have swing : t.swing = s.swing := only .swing (by decide)
  have load : t.load = s.load := only .load (by decide)
  have record (b : Bell) : t.bell b = s.bell b := congrArg (fun x : BellTable => x.bells.get b) bells
  refine ⟨by rw [engine], fun b => by rw [config, record]; rfl, fun b => by rw [record],
    fun b => congrArg (fun w : Swing => (w.recs.get b).state) swing, fun b => ?_, by rw [load]⟩
  exact (congrArg (fun x : Claims => Claim.notRope (x.recs.get b) = true) claims).mpr

/-- Whatever does not touch these blocks, and takes no notice away, changes nothing of them. -/
theorem frame (h : s.Heeds quiet out t) (only : t.changesOnly offStrikes u) (noticed : t.noticedAll .loss → u.noticedAll .loss) :
    s.Heeds quiet out u := by
  have bells : u.bells = t.bells := only .bells (by decide)
  have engine : u.engine = t.engine := only .engine (by decide)
  refine h.trans ⟨noticed, .inl (by rw [engine]), fun _ => by rw [engine], fun _ b => ?_, fun law => law.ease (eases_of_frame only)⟩
  exact congrArg (fun x : BellTable => (x.bells.get b).onsets) bells

/-- An operation that touches none of these blocks, and keeps the tables. -/
theorem keeps (h : s.Heeds quiet out t) (only : t.changesOnly offStrikes u) (kept : t.Keeps u) : s.Heeds quiet out u :=
  h.frame only kept.noticedAll

/-- A change of the link's records that takes no notice away. -/
theorem modPort (h : s.Heeds quiet out t) (p : Port) {f : PortRec → PortRec}
    (notices : ∀ r, (f r).notices = r.notices) : s.Heeds quiet out (t.modPort p f) := by
  refine h.frame (modPort_within (.refl _ t) (by decide) p f) fun x q => ?_
  rw [State.noticed, port_modPort]
  split
  · rw [notices]
    exact x p
  · exact x q

theorem modTk (h : s.Heeds quiet out t) (f : Timekeeper → Timekeeper) : s.Heeds quiet out (t.modTk f) :=
  h.frame (modTk_within (.refl _ t) (by decide) f) id

theorem modCal (h : s.Heeds quiet out t) (f : Calendar → Calendar) : s.Heeds quiet out (t.modCal f) :=
  h.frame (modCal_within (.refl _ t) (by decide) f) id

theorem modPlayers (h : s.Heeds quiet out t) (f : Players → Players) : s.Heeds quiet out (t.modPlayers f) :=
  h.frame (modPlayers_within (.refl _ t) (by decide) f) id

theorem modClavier (h : s.Heeds quiet out t) (f : Clavier → Clavier) : s.Heeds quiet out (t.modClavier f) :=
  h.frame (modClavier_within (.refl _ t) (by decide) f) id

theorem modLights (h : s.Heeds quiet out t) (f : Lights → Lights) : s.Heeds quiet out (t.modLights f) :=
  h.frame (modLights_within (.refl _ t) (by decide) f) id

theorem modStore (h : s.Heeds quiet out t) (f : Store → Store) : s.Heeds quiet out (t.modStore f) :=
  h.frame (modStore_within (.refl _ t) (by decide) f) id

theorem signal (h : s.Heeds quiet out t) (x : Signal) : s.Heeds quiet out (t.signal x) :=
  h.frame (signal_within (.refl _ t) (by decide) x) id

theorem takeSignal (h : s.Heeds quiet out t) (l : List Signal) : s.Heeds quiet out { t with signals := l } :=
  h.frame (clearSignals_within (.refl _ t) (by decide) l) id

theorem raise (h : s.Heeds quiet out t) (k : NoticeKind) (p : Port) : s.Heeds quiet out (t.raise k p) :=
  h.keeps (raise_within (.refl _ t) (by decide) k p) ((Keeps.refl t).raise k p)

theorem raiseAll (h : s.Heeds quiet out t) (k : NoticeKind) : s.Heeds quiet out (t.raiseAll k) :=
  h.keeps (raiseAll_within (.refl _ t) (by decide) k) ((Keeps.refl t).raiseAll k)

theorem raiseFor (h : s.Heeds quiet out t) (k : NoticeKind) (p : Option Port) : s.Heeds quiet out (t.raiseFor k p) :=
  h.keeps (raiseFor_within (.refl _ t) (by decide) k p) ((Keeps.refl t).raiseFor k p)

/-! ## Blocks that they rest on -/

/-- One bell's record changes: not its configuration nor its onsets, and its hammer neither becomes ABSENT nor ceases to be. -/
theorem modBell (h : s.Heeds quiet out t) (b : Bell) {f : BellRec → BellRec}
    (config : ∀ r, (f r).config = r.config ) (onsets : quiet → ∀ r, (f r).onsets = r.onsets)
    (hammer : out.hammers b ∨ ((f (t.bell b)).hammer = some .absent ↔ (t.bell b).hammer = some .absent)) :
    s.Heeds quiet out (t.modBell b f) := by
  have settings (k : Bell) : (t.modBell b f).config k = t.config k := by
    rw [State.config, bell_modBell]
    split
    · rename_i here
      rw [here, config]
      rfl
    · rfl
  refine h.trans ⟨id, .inl rfl, fun _ => rfl, fun q k => ?_, fun law => ⟨law.few, law.ordered, fun e mem inside => ?_, fun k inside => ?_, ?_⟩⟩
  · rw [bell_modBell]
    split
    · rename_i here
      rw [here, onsets q]
    · rfl
  · obtain ⟨fitted, idle, free⟩ := law.entries e mem inside
    exact ⟨by rw [settings, fitted], idle, free⟩
  · rw [settings, bell_modBell, ← law.hammers k inside]
    split
    · rename_i here
      subst here
      exact hammer.resolve_left inside
    · exact Iff.rfl
  · obtain ⟨few, once, waits⟩ := law.loads
    refine ⟨few, once, fun e mem => ?_⟩
    rw [neededLoad, settings]
    exact waits e mem

/-- A change of one bell's record that keeps its configuration, its hammer and its onsets. -/
theorem keepBell (h : s.Heeds quiet out t) (b : Bell) {f : BellRec → BellRec}
    (same : ∀ r, (f r).config = r.config ∧ (f r).hammer = r.hammer ∧ (f r).onsets = r.onsets) : s.Heeds quiet out (t.modBell b f) :=
  h.modBell b (fun r => (same r).1) (fun _ r => (same r).2.2) (.inr (by rw [(same _).2.1]))

/-- The sensors' readings change, and with them nothing of a bell's configuration, hammer or onsets. -/
theorem modBells (h : s.Heeds quiet out t) {f : BellTable → BellTable}
    (same : ∀ b, ((f t.bells).bells.get b).config = (t.bell b).config ∧ ((f t.bells).bells.get b).hammer = (t.bell b).hammer ∧
      ((f t.bells).bells.get b).onsets = (t.bell b).onsets) : s.Heeds quiet out (t.modBells f) :=
  h.trans ⟨id, .inl rfl, fun _ => rfl, fun _ b => (same b).2.2, fun law => law.ease { Eases.refl t with
    config := fun b => (same b).1
    absent := fun b => (congrArg (· = some Hammer.absent) (same b).2.1).to_iff }⟩

/-- One loss is counted with LOSS on all ports, or not at all (R97, R98). -/
theorem lose (h : s.Heeds quiet out t) (r : DropReason) : s.Heeds quiet out (t.lose r) := by
  unfold State.lose
  split
  · refine h.trans ⟨fun _ => noticed_raiseAll _ .loss, .inr (noticed_raiseAll _ .loss), fun _ => rfl, fun _ _ => rfl, fun law => ?_⟩
    exact law.ease { Eases.refl t with queue := List.Sublist.refl _ }
  · exact h

/-- Entries leave the queue, and nothing else of the strike engine changes. -/
theorem leaveQueue (h : s.Heeds quiet out t) {f : Engine → Engine} (queue : (f t.engine).queue.Sublist t.engine.queue)
    (slots : quiet → (f t.engine).slots = t.engine.slots)
    (losses : (f t.engine).losses = t.engine.losses) : s.Heeds quiet out (t.modEngine f) :=
  h.trans ⟨id, .inl losses, slots, fun _ _ => rfl, fun law => law.ease { Eases.refl t with queue := queue }⟩

/-- One bell's claim changes, to a ROPE claim only where the bell had one. -/
theorem setClaim (h : s.Heeds quiet out t) (b : Bell) (c : Option Claim)
    (rope : out.entries b ∨ (Claim.notRope (t.claim b) = true → Claim.notRope c = true)) : s.Heeds quiet out (t.setClaim b c) := by
  refine h.trans ⟨id, .inl rfl, fun _ => rfl, fun _ _ => rfl, fun law => ⟨law.few, law.ordered, fun e mem inside => ?_, law.hammers, law.loads⟩⟩
  obtain ⟨fitted, idle, free⟩ := law.entries e mem inside
  refine ⟨fitted, idle, ?_⟩
  rw [claim_setClaim]
  split
  · rename_i here
    rw [here] at inside free
    exact rope.resolve_left inside free
  · exact free

/-- The swing controller changes, and no bell's record with it. -/
theorem modSwing (h : s.Heeds quiet out t) {f : Swing → Swing} (recs : (f t.swing).recs = t.swing.recs) :
    s.Heeds quiet out (t.modSwing f) :=
  h.trans ⟨id, .inl rfl, fun _ => rfl, fun _ _ => rfl,
    fun law => law.ease { Eases.refl t with swing := fun b => congrArg (fun x => (Table.get x b).state) recs }⟩

/-- One bell's swing record changes, its state to one that the bell may take. -/
theorem modSwingRec (h : s.Heeds quiet out t) (b : Bell) {f : SwingRec → SwingRec}
    (safe : s.LawsBut out → t.maySwing out b (f (t.swingRec b)).state) : s.Heeds quiet out (t.modSwingRec b f) := by
  have state (k : Bell) : (t.modSwingRec b f).swingState k = if k = b then (f (t.swingRec b)).state else t.swingState k := by
    rw [swingState, swingRec_modSwingRec]
    split <;> rfl
  refine ⟨h.noticed, h.losses, h.slots, h.onsets, fun start => ?_⟩
  have law := h.laws start
  refine ⟨law.few, law.ordered, fun e mem inside => ?_, law.hammers, ?_⟩
  · obtain ⟨fitted, idle, free⟩ := law.entries e mem inside
    refine ⟨fitted, ?_, free⟩
    rw [state]
    split
    · rename_i here
      rw [here] at inside idle
      rcases safe start with same | ⟨spared | enters | busy, -⟩
      · exact same.trans idle
      · exact absurd spared inside
      · exact enters
      · exact absurd idle busy
    · exact idle
  · obtain ⟨few, once, waits⟩ := law.loads
    refine ⟨few, once, fun e mem => ⟨?_, (waits e mem).2⟩⟩
    rw [state]
    split
    · rename_i here
      have waiting := (waits e mem).1
      rw [here] at waiting
      rcases safe start with same | ⟨-, enters | away⟩
      · exact same.trans waiting
      · exact enters
      · exact absurd here (away e mem)
    · exact (waits e mem).1

/-- Entries leave the load queue. -/
theorem leaveLoad (h : s.Heeds quiet out t) {f : Load → Load} (queue : (f t.load).queue.Sublist t.load.queue) :
    s.Heeds quiet out (t.modLoad f) :=
  h.trans ⟨id, .inl rfl, fun _ => rfl, fun _ _ => rfl, fun law => law.ease { Eases.refl t with load := queue }⟩

end Heeds
end State
end Sys2Proof.Machine
end

section
/-! PROOFS. The shared operations heed the laws of strikes: hammers, the strike engine, the load queue and the swings. -/

namespace Sys2Proof.Machine.State

/-- A bell that is available has a READY hammer, no lock-out is on, the bell is IDLE, and its claim allows the strike (R65). -/
theorem strikable_of_available {s : State} {p : Option Port} {b : Bell} (h : s.availability p b = none) :
    (s.bell b).hammer = some .ready ∧ s.lockedOut = false ∧ s.swingState b = .idle ∧ claimAllows (s.claim b) p = true := by
  unfold availability at h
  simp only [ite_eq_iff, reduceCtorEq, and_false, false_or, and_true, bne_iff_ne, ne_eq, not_not, Bool.not_eq_true, Bool.not_eq_false'] at h
  obtain ⟨-, -, unlocked, idle, allowed, -, ready⟩ := h
  exact ⟨ready, unlocked, idle, allowed⟩

namespace Heeds

variable {quiet : Prop} {out : Spared} {s t u : State} {b : Bell}

/-! ## Hammers -/

/-- A hammer that is fitted takes a state (R48). -/
theorem setHammer (h : s.Heeds quiet out t) (fit : out.hammers b ∨ (t.bell b).hammer ≠ some .absent) {x : Hammer} (fitted : out.hammers b ∨ x ≠ .absent)
    (timer : Option Nat) (still : Bool) : s.Heeds quiet out (t.setHammer b x timer still) := by
  have taken : s.Heeds quiet out
      (t.modBell b fun r => { r with hammer := some x, timer := timer, motor := r.motor && x == .parked }) := by
    refine h.modBell b (fun _ => rfl) (fun _ _ => rfl) ?_
    rcases fit with leaves | fit
    · exact .inl leaves
    · exact fitted.imp_right fun fitted => iff_of_false (fun e => fitted (Option.some.inj e)) fit
  unfold State.setHammer
  exact (ite taken (taken.raiseAll _)).signal _

theorem faultHammer (h : s.Heeds quiet out t) (fit : out.hammers b ∨ (t.bell b).hammer ≠ some .absent) (x : HammerCause) (still : Bool) :
    s.Heeds quiet out (t.faultHammer b x still) :=
  ((h.setHammer fit (.inr (by decide)) none still).keepBell b (by exact fun _ => ⟨rfl, rfl, rfl⟩)).raiseAll _

theorem enterUnparking (h : s.Heeds quiet out t) (fit : out.hammers b ∨ (t.bell b).hammer ≠ some .absent) (still : Bool) :
    s.Heeds quiet out (t.enterUnparking b still) :=
  ite (h.faultHammer fit ..) (ite (h.setHammer fit (.inr (by decide)) ..) (h.setHammer fit (.inr (by decide)) ..))

theorem enterParked (h : s.Heeds quiet out t) (fit : out.hammers b ∨ (t.bell b).hammer ≠ some .absent) (still : Bool) :
    s.Heeds quiet out (t.enterParked b still) :=
  have parked := h.setHammer fit (x := .parked) (.inr (by decide)) none still
  ite (h.faultHammer fit ..) (ite (parked.enterUnparking (.inr (by rw [bell_setHammer]; simp)) still) parked)

theorem enterParking (h : s.Heeds quiet out t) (fit : out.hammers b ∨ (t.bell b).hammer ≠ some .absent) :
    s.Heeds quiet out (t.enterParking b) :=
  ite (h.faultHammer fit ..) (ite (h.enterParked fit _) (h.setHammer fit (.inr (by decide)) ..))

theorem changeDemands (h : s.Heeds quiet out t) (b : Bell) (f : Demands → Demands) : s.Heeds quiet out (t.changeDemands b f) := by
  have placed := h.keepBell b (f := fun r => { r with demands := f r.demands }) fun _ => ⟨rfl, rfl, rfl⟩
  unfold State.changeDemands
  dsimp only
  split
  next hammer => exact ite placed (placed.enterParking (.inr (by simp [hammer])))
  next hammer => exact placed.enterParking (.inr (by simp [hammer]))
  next hammer => exact ite (placed.enterUnparking (.inr (by simp [hammer])) false) placed
  next => exact placed

theorem pulseEnded (h : s.Heeds quiet out t) (b : Bell) : s.Heeds quiet out (t.pulseEnded b) := by
  unfold State.pulseEnded
  split
  · rename_i ready
    simp only [Bool.and_eq_true, beq_iff_eq] at ready
    exact h.enterParking (.inr (by simp [ready.1.2]))
  · exact h

theorem hammerSensors (h : s.Heeds quiet out t) (b : Bell) (rest home park : Bool) :
    s.Heeds quiet out (t.hammerSensors b rest home park) := by
  unfold State.hammerSensors
  dsimp only
  split
  next => exact h
  next => exact h
  next => exact h
  next hammer => exact ite (h.faultHammer (.inr (by simp [hammer])) ..) h
  next hammer =>
    have fit : out.hammers b ∨ (t.bell b).hammer ≠ some .absent := .inr (by simp [hammer])
    exact ite (h.faultHammer fit ..) (ite (h.enterParked fit _) h)
  next hammer =>
    have fit : out.hammers b ∨ (t.bell b).hammer ≠ some .absent := .inr (by simp [hammer])
    exact ite (h.faultHammer fit ..) (ite (h.faultHammer fit ..) (ite (h.enterUnparking fit _) h))
  next hammer =>
    have fit : out.hammers b ∨ (t.bell b).hammer ≠ some .absent := .inr (by simp [hammer])
    exact ite (h.faultHammer fit ..) (ite (h.enterParking fit) (ite (h.setHammer fit (.inr (by decide)) ..) h))

theorem parkTimerExpires (h : s.Heeds quiet out t) (b : Bell) : s.Heeds quiet out (t.parkTimerExpires b) := by
  unfold State.parkTimerExpires
  refine ite ?_ h
  split
  next hammer => exact h.faultHammer (.inr (by simp [hammer])) ..
  next hammer => exact h.faultHammer (.inr (by simp [hammer])) ..
  next => exact h

theorem hammerFirstState (h : s.Heeds quiet out t) (b : Bell) : s.Heeds quiet out (t.hammerFirstState b) := by
  unfold State.hammerFirstState
  split
  · rename_i none
    have fit : out.hammers b ∨ (t.bell b).hammer ≠ some .absent := .inr fun e => by simp [e] at none
    split
    · exact h.faultHammer fit ..
    · refine (h.keepBell b (by exact fun _ => ⟨rfl, rfl, rfl⟩)).setHammer ?_ (.inr (by decide)) ..
      rwa [bell_modBell, if_pos rfl]
    · exact h.setHammer fit (.inr (by decide)) ..
    · exact h.setHammer fit (.inr (by decide)) ..
  · exact h

theorem meetDemand (h : s.Heeds quiet out t) (b : Bell) : s.Heeds quiet out (t.meetDemand b) := by
  unfold State.meetDemand
  split
  · rename_i ready
    simp only [Bool.and_eq_true, Bool.or_eq_true, beq_iff_eq] at ready
    exact h.enterParking (.inr fun e => by simp [e] at ready)
  · exact h

/-! ## The strike engine -/

theorem endOutcome (h : s.Heeds quiet out t) (e : QueueEntry) (o : EndOutcome) : s.Heeds quiet out (t.endOutcome e o) :=
  h.keeps (endOutcome_within (.refl _ t) (by decide) e o) ((Keeps.refl t).endOutcome e o)

theorem dropEntry (h : s.Heeds quiet out t) (e : QueueEntry) (r : DropReason) : s.Heeds quiet out (t.dropEntry e r) :=
  ((h.leaveQueue (f := fun g => { g with queue := g.queue.erase e }) List.erase_sublist (fun _ => rfl) rfl).lose r).endOutcome e _

theorem purge (h : s.Heeds quiet out t) (matching : QueueEntry → Bool) (r : DropReason) : s.Heeds quiet out (t.purge matching r) :=
  h.foldl (fun _ e c => c.dropEntry e r) _

theorem lateDrops (h : s.Heeds quiet out t) : s.Heeds quiet out t.lateDrops := by
  unfold State.lateDrops
  split
  · exact h.dropEntry ..
  · exact h

/-- The entries of a bell leave the queue, and the law of the strike queue need no longer spare it. -/
theorem purgeBell (h : t.Heeds quiet (out.and b) u) (r : DropReason) : t.Heeds quiet out (u.purge (fun e => e.bell == b) r) := by
  have purged := h.purge (fun e => e.bell == b) r
  refine purged.withLaws fun law => (purged.laws (law.and b)).narrow (fun e mem spared => spared.resolve_left ?_) fun _ => .inl
  rw [purge_queue] at mem
  simpa using (List.mem_filter.mp mem).2

/-- What R65 asks of a bell is what the law of the strike queue asks of an entry (R85). -/
theorem mayQueue_of_available {s : State} {p : Option Port} {e : QueueEntry} (law : s.LawsBut out) (inside : ¬out.entries e.bell)
    (available : s.availability p e.bell = none) : s.mayQueue e := by
  obtain ⟨ready, -, idle, allowed⟩ := strikable_of_available available
  refine ⟨?_, idle, ?_⟩
  · by_contra unfitted
    have absent := (law.hammers _ fun spared => inside (out.le _ spared)).mpr (Bool.not_eq_true _ ▸ unfitted)
    rw [ready] at absent
    cases absent
  · cases held : s.claim e.bell with
    | none => rfl
    | some c =>
      have chime := ((claimAllows_iff _ _).mp allowed c held).1
      simp [Claim.notRope, chime]

theorem renewByGrant (h : s.Heeds quiet out t) (b : Bell) (p : Option Port) : s.Heeds quiet out (t.renewByGrant b p) := by
  unfold State.renewByGrant
  split
  · rename_i c held
    exact ite (h.setClaim _ _ (.inr fun free => by rw [held] at free; exact free)) h
  · exact h

/-- An entry that may be queued enters the queue where it has room (R85). -/
theorem enter (h : s.Heeds quiet out t) {e : QueueEntry} (room : t.engine.queue.length < 48)
    (may : t.LawsBut out → ¬out.entries e.bell → t.mayQueue e) :
    s.Heeds quiet out (t.modEngine fun g => { g with queue := insertEntry e g.queue }) := by
  refine h.trans ⟨id, .inl rfl, fun _ => rfl, fun _ _ => rfl, fun law => ?_⟩
  refine ⟨?_, pairwise_insertEntry law.ordered, fun x mem inside => ?_, law.hammers, law.loads⟩
  · exact (length_insertEntry ..).le.trans room
  · rcases mem_insertEntry.mp mem with rfl | mem
    · exact may law inside
    · exact law.entries x mem inside

section

variable (busy : ¬quiet)
include busy

/-- A request enters the queue, or is lost (R81, R85, R97). -/
theorem plan (h : s.Heeds quiet out t) (r : StrikeRequest) : s.Heeds quiet out (t.plan r) := by
  unfold State.plan
  split
  · exact h.lose _
  rename_i onset fire _ _ planned
  have available : t.availability r.port r.bell = none := by
    cases answer : t.availability r.port r.bell with
    | none => rfl
    | some x =>
      rw [planned_unavailable answer] at planned
      cases planned
  have entered := h.enter (e := { source := r.source, port := r.port, bell := r.bell, cls := r.cls, run := r.run, index := r.index, onset, fire })
    (length_of_planned_queued planned) fun law inside => mayQueue_of_available law inside available
  exact entered.modBell _ (fun _ => rfl) (absurd · busy) (.inr Iff.rfl)

theorem grant (h : s.Heeds quiet out t) (k : HammerSlot) (e : QueueEntry) : s.Heeds quiet out (t.grant k e) := by
  have placed := h.leaveQueue (f := fun g => { g with
    queue := g.queue.erase e
    rotation := e.bell
    slots := g.slots.set k (some
      { bell := e.bell, source := e.source, port := e.port, cls := e.cls, onset := t.now + (t.config e.bell).lead
        ends := t.now + t.pulseWidth e.bell e.cls }) }) List.erase_sublist (absurd · busy) rfl
  have struck := placed.modBell e.bell (f := fun b => { b with lastOnset := some (t.now + (t.config e.bell).lead) })
    (fun _ => rfl) (absurd · busy) (.inr Iff.rfl)
  exact (struck.renewByGrant _ _).endOutcome e _

theorem attempt (h : s.Heeds quiet out t) (k : HammerSlot) (e : QueueEntry) : s.Heeds quiet out (t.attempt k e) := by
  unfold State.attempt
  split
  · exact h.dropEntry ..
  rename_i available
  refine ite ((h.dropEntry ..).faultHammer (.inr ?_) ..) (h.grant busy k e)
  have kept : (t.dropEntry e .hammerFault).bells = t.bells :=
    dropEntry_within (.refl _ t) (List.Subset.refl _) e _ .bells (by decide)
  have ready := (strikable_of_available available).1
  exact fun absent => absurd (ready.symm.trans ((congrArg (fun x : BellTable => (x.bells.get e.bell).hammer) kept).symm.trans absent))
    (by decide)

theorem arbitrateFor (h : s.Heeds quiet out t) (n : Nat) : s.Heeds quiet out (t.arbitrateFor n) := by
  induction n generalizing t with
  | zero => exact h
  | succ n ih =>
    unfold State.arbitrateFor
    split
    · exact ih (h.attempt busy ..)
    · exact h

theorem arbitrate (h : s.Heeds quiet out t) : s.Heeds quiet out t.arbitrate := h.arbitrateFor busy _

end

end Heeds
end Sys2Proof.Machine.State
end

section
/-! PROOFS. The shared operations heed the laws of strikes: the swing states, the load queue, the slot runs, the signals and the
claims. -/

namespace Sys2Proof.Machine.State

theorem leaveLoadQueue_away (s : State) (b : Bell) : ∀ e ∈ (s.leaveLoadQueue b).load.queue, e.bell ≠ b := by
  intro e mem
  rw [leaveLoadQueue_queue] at mem
  exact bne_iff_ne.mp (List.mem_filter.mp mem).2

namespace Heeds

variable {quiet : Prop} {out : Spared} {s t u : State} {b : Bell}

/-! ## The swing states -/

theorem makeRoom (h : s.Heeds quiet out t) {need : Nat} (e : t.makeRoom need = some u) : s.Heeds quiet out u :=
  h.keeps (makeRoom_within (.refl _ t) (by decide) e) ((Keeps.refl t).makeRoom e)

theorem ringCrossing (h : s.Heeds quiet out t) (before : Nat) : s.Heeds quiet out (t.ringCrossing before) :=
  h.keeps (ringCrossing_within (.refl _ t) (by decide) before) ((Keeps.refl t).ringCrossing before)

theorem slotRunHears (h : s.Heeds quiet out t) (b : Bell) (x : SwingState) : s.Heeds quiet out (t.slotRunHears b x) := by
  unfold State.slotRunHears
  split
  · dsimp only
    split
    · exact ite ((h.modSwing (by rfl)).signal _) (h.modSwing (by rfl))
    · exact (h.modSwing (by rfl)).signal _
    · exact (h.modSwing (by rfl)).signal _
    · exact h
  · exact h

/-- A bell takes a swing state that it may take. -/
theorem setSwing (h : s.Heeds quiet out t) (b : Bell) (f : SwingRec → SwingRec) (still : Bool)
    (safe : s.LawsBut out → t.maySwing out b (f (t.swingRec b)).state) : s.Heeds quiet out (t.setSwing b f still) := by
  have swung := h.modSwingRec b safe
  have told := ite (c := still = true) swung (swung.raiseAll .bell)
  have moved := told.changeDemands b fun d =>
    { d with
      swing := ((t.modSwingRec b f).swingState b).demandsPark
      start := d.start && (t.modSwingRec b f).swingState b != .idle }
  unfold State.setSwing
  exact ((ite ((moved.keepBell b (by exact fun _ => ⟨rfl, rfl, rfl⟩)).signal _) (moved.keepBell b (by exact fun _ => ⟨rfl, rfl, rfl⟩))).ringCrossing _).slotRunHears ..

/-- A bell that stands in no load queue may become IDLE. -/
theorem toIdle (h : s.Heeds quiet out t) (cause : Option SwingCause) (still : Bool)
    (away : s.LawsBut out → ∀ e ∈ t.load.queue, e.bell ≠ b) : s.Heeds quiet out (t.toIdle b cause still) :=
  h.setSwing b _ still fun law => .inr ⟨.inr (.inl rfl), .inr (away law)⟩

/-- A bell that is not IDLE starts where it stands in no load queue. -/
theorem toStarting (h : s.Heeds quiet out t) (busy : s.LawsBut out → t.swingState b ≠ .idle)
    (away : s.LawsBut out → ∀ e ∈ t.load.queue, e.bell ≠ b) : s.Heeds quiet out (t.toStarting b) :=
  h.setSwing b _ false fun law => .inr ⟨.inr (.inr (busy law)), .inr (away law)⟩

section

variable (busy : t.swingState b ≠ .idle) (awake : t.swingState b ≠ .waitLoad)
include busy awake

theorem toRinging (h : s.Heeds quiet out t) : s.Heeds quiet out (t.toRinging b) := by
  unfold State.toRinging
  refine h.setSwing b _ false fun law => ?_
  exact (h.laws law).maySwing busy awake _

theorem toSettling (h : s.Heeds quiet out t) (still : Bool) : s.Heeds quiet out (t.toSettling b still) :=
  h.setSwing b _ still fun law => (h.laws law).maySwing busy awake _

end

theorem testRest (h : s.Heeds quiet out t) (b : Bell) : s.Heeds quiet out (t.testRest b) := by
  unfold State.testRest
  split
  · rename_i stops
    exact h.toSettling (by rw [stops.1]; decide) (by rw [stops.1]; decide) _
  · exact h

theorem toStopping (h : s.Heeds quiet out t) (busy : t.swingState b ≠ .idle) (awake : t.swingState b ≠ .waitLoad)
    (cause : Option SwingCause) (still : Bool) : s.Heeds quiet out (t.toStopping b cause still) :=
  (h.setSwing b _ still fun law => (h.laws law).maySwing busy awake _).testRest b

theorem leaveLoadQueue (h : s.Heeds quiet out t) (b : Bell) : s.Heeds quiet out (t.leaveLoadQueue b) :=
  have left := h.leaveLoad (f := fun l => { l with queue := l.queue.filter fun e => e.bell != b }) List.filter_sublist
  ite (left.signal _) left

theorem giveUp (h : s.Heeds quiet out t) (b : Bell) (cause : SwingCause) : s.Heeds quiet out (t.giveUp b cause) :=
  (h.leaveLoadQueue b).toIdle _ _ fun _ => t.leaveLoadQueue_away b

theorem swingFaults (h : s.Heeds quiet out t) (busy : t.swingState b ≠ .idle) (cause : SwingFault) :
    s.Heeds quiet out (t.swingFaults b cause) := by
  refine ((h.leaveLoadQueue b).setSwing b _ false fun _ => .inr ⟨.inr (.inr ?_), .inr (t.leaveLoadQueue_away b)⟩).raiseAll _
  rwa [swingState, swingRec, leaveLoadQueue_swing]

theorem bringDown (h : s.Heeds quiet out t) (b : Bell) (cause : SwingCause) : s.Heeds quiet out (t.bringDown b cause) := by
  unfold State.bringDown
  split
  next state => exact h.toStopping (by rw [state]; decide) (by rw [state]; decide) ..
  next state => exact h.toStopping (by rw [state]; decide) (by rw [state]; decide) ..
  next => exact h.giveUp ..
  next => exact h.giveUp ..
  next => exact h

/-- An IDLE bell takes its entries out of the queue as it leaves IDLE (R135). -/
theorem toParking (h : s.Heeds quiet out t) (idle : t.swingState b = .idle) (origin : Origin) (minutes : Option Nat) :
    s.Heeds quiet out (t.toParking b origin minutes) := by
  have swung := (refl quiet (out.and b) t).setSwing b (fun r =>
    { r with state := .parking, origin := some origin, minutes := minutes, durationEnd := none, timer := none
             lastCause := none }) false fun law =>
    .inr ⟨.inl (.inl rfl), .inr (law.not_waiting (by rw [idle]; decide))⟩
  have purged := h.trans (swung.purgeBell .interlock)
  exact ite (purged.signal _) purged

/-! ## The load queue -/

/-- A bell that waits for load and stands in no load queue joins it, or gives its start up (R164, R166). -/
theorem joinLoadQueue (h : s.Heeds quiet out t) (state : t.swingState b = .waitLoad)
    (away : s.LawsBut out → ∀ e ∈ t.load.queue, e.bell ≠ b) : s.Heeds quiet out (t.joinLoadQueue b) := by
  unfold State.joinLoadQueue
  dsimp only
  split
  · exact (h.toIdle _ _ away).raiseFor ..
  rename_i room
  refine ⟨h.noticed, h.losses, h.slots, h.onsets, fun start => ?_⟩
  obtain ⟨few, ordered, entries, hammers, -, once, waits⟩ := h.laws start
  refine ⟨few, ordered, entries, hammers, ?_, ?_, fun e mem => ?_⟩
  · exact (List.length_append ..).le.trans (Nat.lt_of_not_le room)
  · change ((t.load.queue ++ [_]).map LoadEntry.bell).Nodup
    rw [List.map_append, List.nodup_append]
    refine ⟨once, List.nodup_singleton _, fun x mem y new => ?_⟩
    obtain ⟨e, queued, rfl⟩ := List.mem_map.mp mem
    rw [List.mem_singleton.mp new]
    exact away start e queued
  · rcases List.mem_append.mp mem with mem | new
    · exact waits e mem
    · rw [List.mem_singleton.mp new]
      exact ⟨state, rfl⟩

/-- A bell whose hammer is PARKED waits for load, or starts (R136, R164). -/
theorem toWaitLoad (h : s.Heeds quiet out t) (state : t.swingState b = .parking) : s.Heeds quiet out (t.toWaitLoad b) := by
  have swung := h.setSwing b (fun r => { r with state := .waitLoad }) false fun _ => .inr ⟨.inr (.inr (by rw [state]; decide)), .inl rfl⟩
  have waiting : (t.setSwing b (fun r => { r with state := .waitLoad }) false).swingState b = .waitLoad := swingState_setSwing ..
  have away (law : s.LawsBut out) : ∀ e ∈ (t.setSwing b (fun r => { r with state := .waitLoad }) false).load.queue, e.bell ≠ b := by
    rw [setSwing_load]
    exact (h.laws law).not_waiting (by rw [state]; decide)
  unfold State.toWaitLoad
  dsimp only
  split
  · split
    · rename_i v room
      have frame : changesOnly [.lights, .link] _ v := makeRoom_within (.refl _ _) (by decide) room
      refine (swung.makeRoom room).toStarting (fun _ => ?_) fun law => ?_
      · rw [swingState, swingRec, frame .swing (by decide)]
        exact waiting.trans_ne (by decide)
      · rw [frame .load (by decide)]
        exact away law
    · exact swung.joinLoadQueue waiting away
  · exact swung.joinLoadQueue waiting away

theorem admitHeads (h : s.Heeds quiet out t) (n : Nat) : s.Heeds quiet out (t.admitHeads n) := by
  induction n generalizing t with
  | zero => exact h
  | succ n ih =>
    unfold State.admitHeads
    split
    · exact h
    rename_i e rest queue
    split
    · rename_i v room
      have frame : t.changesOnly [.lights, .link] v := makeRoom_within (.refl _ _) (by decide) room
      have same : v.load.queue = e :: rest := (congrArg Load.queue (frame .load (by decide))).trans queue
      refine ih (((h.makeRoom room).leaveLoad (f := fun l => { l with queue := rest }) ?_).toStarting (fun law => ?_) fun law x mem here => ?_)
      · rw [same]
        exact List.sublist_cons_self e rest
      · have waits := (((h.makeRoom room).laws law).loads.2.2 e (same ▸ List.mem_cons_self)).1
        exact waits.trans_ne (by decide)
      · have once := (h.laws law).loads.2.1
        rw [queue, List.map_cons, List.nodup_cons] at once
        exact once.1 (here ▸ List.mem_map_of_mem mem)
    · exact h

theorem reevaluate (h : s.Heeds quiet out t) : s.Heeds quiet out t.reevaluate :=
  (h.admitHeads _).keeps (restoreLights_within (.refl _ _) (by decide)) (Keeps.refl _).restoreLights

/-! ## Slot runs -/

theorem modRun (h : s.Heeds quiet out t) (id : Nat) (f : SlotRun → SlotRun) : s.Heeds quiet out (t.modRun id f) := h.modSwing rfl

theorem takeBells (h : s.Heeds quiet out t) (id : Nat) (bs : List Bell) : s.Heeds quiet out (t.takeBells id bs) := by
  induction bs generalizing t with
  | nil => exact h.modRun ..
  | cons b bs ih =>
    unfold State.takeBells
    split
    · exact ih ((h.modRun ..).raiseAll _)
    · rename_i fit
      exact (h.modRun ..).toParking (by by_contra busy; exact startRefusal_of_busy busy none fit) ..

theorem slotNext (h : s.Heeds quiet out t) (id : Nat) : s.Heeds quiet out (t.slotNext id) := by
  unfold State.slotNext
  split
  · exact (h.modSwing (by rfl)).takeBells ..
  · exact h

theorem recordSlot (h : s.Heeds quiet out t) (x : SlotRecord) : s.Heeds quiet out (t.recordSlot x) := h.modSwing rfl

theorem endRun (h : s.Heeds quiet out t) (r : SlotRun) : s.Heeds quiet out (t.endRun r) := (h.modSwing (by rfl)).recordSlot _

theorem slotRunEnds (h : s.Heeds quiet out t) (r : SlotRun) : s.Heeds quiet out (t.slotRunEnds r) :=
  (h.endRun r).foldl (fun _ b c => ite (c.bringDown b .slotEnd) c) _

theorem startSlot (h : s.Heeds quiet out t) (d : Date) (number : Nat) (x : RingSlot) : s.Heeds quiet out (t.startSlot d number x) := by
  unfold State.startSlot
  dsimp only
  split
  · exact (h.recordSlot _).raiseAll _
  · exact (h.modSwing (by rfl)).slotNext _

theorem actOnMinute (h : s.Heeds quiet out t) (d : Date) (m : Nat) : s.Heeds quiet out (t.actOnMinute d m) := by
  have missed := h.foldl (f := fun s (x : Nat × RingSlot) =>
    (s.recordSlot { date := d, number := x.1, outcome := .missed, started := [], skipped := [] }).raiseAll .bell)
    (fun _ _ c => (c.recordSlot _).raiseAll _)
    ((t.slotsOf d).filter fun x => laterThanSlotGuard (d, x.2.start) false t.swing.guard && x.2.start < m)
  exact ite ((missed.foldl (fun _ _ c => c.startSlot ..) _).modSwing (by rfl)) missed

theorem swingMinute (h : s.Heeds quiet out t) (d : Date) (m : Nat) (valid : Bool) : s.Heeds quiet out (t.swingMinute d m valid) :=
  ite h (ite (h.actOnMinute d m) (h.modSwing (by rfl)))

theorem swingHandOver (h : s.Heeds quiet out t) (d : Date) (slots : List RingSlot) : s.Heeds quiet out (t.swingHandOver d slots) :=
  (h.modSwing (by rfl)).foldl (fun _ _ c => c.actOnMinute ..) _

/-! ## Sensors and signals at the swing controller -/

/-- A change of a swing record that keeps its state. -/
theorem keepSwing (h : s.Heeds quiet out t) (b : Bell) {f : SwingRec → SwingRec} (same : ∀ r, (f r).state = r.state) :
    s.Heeds quiet out (t.modSwingRec b f) := h.modSwingRec b fun _ => .inl (same _)

theorem swingEdge (h : s.Heeds quiet out t) (b : Bell) : s.Heeds quiet out (t.swingEdge b) := by
  have seen := h.keepSwing b (f := fun r => { r with lastPulse := some t.now }) fun _ => rfl
  unfold State.swingEdge
  dsimp only
  split
  · exact seen.keepSwing b (by exact fun _ => rfl)
  · exact seen.keepSwing b (by exact fun _ => rfl)
  · exact seen.testRest b
  · exact ite (seen.keepSwing b (by exact fun _ => rfl)) seen
  · exact seen

theorem swingRest (h : s.Heeds quiet out t) (b : Bell) : s.Heeds quiet out (t.swingRest b) := by
  unfold State.swingRest
  split
  next => exact h.testRest b
  next state => exact ite h (h.toStopping (by rw [state]; decide) (by rw [state]; decide) ..)
  next => exact h

theorem swingLockOut (h : s.Heeds quiet out t) : s.Heeds quiet out t.swingLockOut := h.foldl (fun _ b c => c.bringDown b _) _

theorem swingAllStop (h : s.Heeds quiet out t) : s.Heeds quiet out t.swingAllStop :=
  (h.foldl (fun _ r c => c.endRun r) _).foldl (fun _ b c => c.bringDown b _) _

theorem swingFirstState (h : s.Heeds quiet out t) (b : Bell) : s.Heeds quiet out (t.swingFirstState b) := by
  unfold State.swingFirstState
  split
  · rename_i state
    have busy : t.swingState b ≠ .idle := by rw [state]; decide
    have awake : t.swingState b ≠ .waitLoad := by rw [state]; decide
    exact ite (h.toIdle _ _ fun law => (h.laws law).not_waiting awake) (ite (h.toSettling busy awake _) (h.toStopping busy awake ..))
  · exact h

theorem hammerReported (h : s.Heeds quiet out t) (b : Bell) : s.Heeds quiet out (t.hammerReported b) := by
  unfold State.hammerReported
  split
  next state _ => exact h.toWaitLoad state
  next state _ => exact h.swingFaults (by rw [state]; decide) _
  next state => exact ite h (h.swingFaults (by rw [state]; decide) _)
  next state => exact ite h (h.swingFaults (by rw [state]; decide) _)
  next state => exact ite h (h.swingFaults (by rw [state]; decide) _)
  next => exact h

theorem deliver (h : s.Heeds quiet out t) (x : Signal) : s.Heeds quiet out (State.deliver x t) := by
  cases x with
  | hammer b => exact h.hammerReported b
  | loadFell => exact h.reevaluate
  | slotNext id => exact h.slotNext id

theorem settleFor (h : s.Heeds quiet out t) (n : Nat) : s.Heeds quiet out (t.settleFor n) := by
  induction n generalizing t with
  | zero => exact h
  | succ n ih =>
    unfold State.settleFor
    split
    · exact h
    · exact ih ((h.takeSignal _).deliver _)

theorem settle (h : s.Heeds quiet out t) : s.Heeds quiet out t.settle := h.settleFor _

/-! ## The claims -/

/-- A ROPE claim takes its bell's entries out of the queue as it is taken (R70). -/
theorem takeClaim (h : s.Heeds quiet out t) (p : Port) (k : ClaimKind) (b : Bell) : s.Heeds quiet out (t.takeClaim p k b) := by
  have other {c : Claim} (kind : c.kind = .chime) : s.Heeds quiet out (t.setClaim b (some c)) :=
    h.setClaim b _ (.inr fun _ => by simp [Claim.notRope, kind])
  have rope (c : Claim) : t.Heeds quiet out (((t.setClaim b (some c)).ropeDemand b true).purge (fun e => e.bell == b) .claimed) :=
    (((refl quiet (out.and b) t).setClaim b _ (.inl (.inl rfl))).changeDemands b _).purgeBell _
  unfold State.takeClaim
  dsimp only
  split
  next before =>
    obtain ⟨c, held, kind⟩ := Option.map_eq_some_iff.mp before
    exact h.setClaim b _ (.inr fun free => by simp [held, Claim.notRope, kind] at free)
  next => exact other rfl
  next => exact h.trans (rope _)
  next => exact (other rfl).purge ..
  next => exact (other rfl).changeDemands ..

theorem endClaim (h : s.Heeds quiet out t) (b : Bell) : s.Heeds quiet out (t.endClaim b) := by
  have free : s.Heeds quiet out (t.setClaim b none) := h.setClaim b _ (.inr fun _ => rfl)
  unfold State.endClaim
  split
  · exact ite (free.changeDemands ..) free
  · exact h

theorem giveUpClaim (h : s.Heeds quiet out t) (b : Bell) : s.Heeds quiet out (t.giveUpClaim b) := by
  unfold State.giveUpClaim
  split
  · rename_i c held
    exact ite (h.setClaim _ _ (.inr fun free => by rw [held] at free; exact free)) (h.endClaim b)
  · exact h

theorem claimLapses (h : s.Heeds quiet out t) (b : Bell) : s.Heeds quiet out (t.claimLapses b) := by
  unfold State.claimLapses
  split
  · exact ite ((h.giveUpClaim b).raise ..) h
  · exact h

theorem claimAtRest (h : s.Heeds quiet out t) (b : Bell) : s.Heeds quiet out (t.claimAtRest b) := by
  unfold State.claimAtRest
  split
  · exact ite ((h.endClaim b).raise ..) h
  · exact h

end Heeds
end Sys2Proof.Machine.State
end

section
/-! PROOFS. The shared operations heed the laws of strikes: the chime players, the clavier, the sensors, the timekeeper and the
instants of the timers. -/

namespace Sys2Proof.Machine.State.Heeds

variable {quiet : Prop} {out : Spared} {s t u : State} {b : Bell}

/-! ## The chime players -/

theorem endQuarterRun (h : s.Heeds quiet out t) : s.Heeds quiet out t.endQuarterRun :=
  h.keeps (endQuarterRun_within (.refl _ t) (by decide)) (Keeps.refl t).endQuarterRun

theorem stopRequest (h : s.Heeds quiet out t) (cause : EndCause) : s.Heeds quiet out (t.stopRequest cause) :=
  h.keeps (stopRequest_within (.refl _ t) (by decide) cause) ((Keeps.refl t).stopRequest cause)

theorem advanceQuarter (h : s.Heeds quiet out t) : s.Heeds quiet out t.advanceQuarter :=
  h.keeps (advanceQuarter_within (.refl _ t) (by decide)) (Keeps.refl t).advanceQuarter

theorem advanceRequest (h : s.Heeds quiet out t) : s.Heeds quiet out t.advanceRequest :=
  h.keeps (advanceRequest_within (.refl _ t) (by decide)) (Keeps.refl t).advanceRequest

theorem assignBufferWhenFree (h : s.Heeds quiet out t) (q : Quarter) (x : Option TuneSlot) :
    s.Heeds quiet out (t.assignBufferWhenFree q x) :=
  h.keeps (assignBufferWhenFree_within (.refl _ t) (by decide) q x) ((Keeps.refl t).assignBufferWhenFree q x)

theorem requestFetch (h : s.Heeds quiet out t) : s.Heeds quiet out t.requestFetch :=
  h.keeps (requestFetch_within (.refl _ t) (by decide)) (Keeps.refl t).requestFetch

theorem hourOutcome (h : s.Heeds quiet out t) (id index : Nat) (o : EndOutcome) : s.Heeds quiet out (t.hourOutcome id index o) :=
  h.keeps (hourOutcome_within (.refl _ t) (by decide) id index o) ((Keeps.refl t).hourOutcome id index o)

theorem completeToll (h : s.Heeds quiet out t) (p : Port) : s.Heeds quiet out (t.completeToll p) :=
  h.keeps (completeToll_within (.refl _ t) (by decide) p) ((Keeps.refl t).completeToll p)

theorem beginQuarterRun (h : s.Heeds quiet out t) (r : QuarterRun) : s.Heeds quiet out (t.beginQuarterRun r) :=
  h.keeps (beginQuarterRun_within (.refl _ t) (by decide) r) ((Keeps.refl t).beginQuarterRun r)

theorem chimeNotHeld (h : s.Heeds quiet out t) (q : Quarter) : s.Heeds quiet out (t.chimeNotHeld q) := ite h (h.lose _)

theorem testFourthQuarter (h : s.Heeds quiet out t) : s.Heeds quiet out t.testFourthQuarter := by
  unfold State.testFourthQuarter
  split
  · exact ite h (ite (h.modPlayers _).advanceQuarter ((h.modPlayers _).chimeNotHeld _))
  · exact h

theorem quarterChime (h : s.Heeds quiet out t) (p : Program) (q : Quarter) (minute count : Nat) :
    s.Heeds quiet out (t.quarterChime p q minute count) := by
  unfold State.quarterChime
  split
  · exact h
  · exact ite (h.lose _) (ite (h.lose _) (h.beginQuarterRun _).advanceQuarter)

theorem prepareFourthQuarter (h : s.Heeds quiet out t) (p : Program) (x : HourAhead) :
    s.Heeds quiet out (t.prepareFourthQuarter p x) := by
  unfold State.prepareFourthQuarter
  split
  · exact h
  · split
    · exact h.lose _
    · exact (h.beginQuarterRun _).testFourthQuarter

theorem planHourStrike (h : s.Heeds quiet out t) (p : Program) (x : HourAhead) : s.Heeds quiet out (t.planHourStrike p x) :=
  ite (h.modPlayers _) h

theorem silentHour (h : s.Heeds quiet out t) (p : Program) : s.Heeds quiet out (t.silentHour p) :=
  have quarter := ite (h.lose .silent) h
  ite (quarter.lose .silent) quarter

theorem takeHourAhead (h : s.Heeds quiet out t) (p : Program) (x : HourAhead) : s.Heeds quiet out (t.takeHourAhead p x) :=
  ite (h.silentHour p) ((h.prepareFourthQuarter p x).planHourStrike p x)

theorem takeQuarter (h : s.Heeds quiet out t) (p : Program) (q : QuarterInstant) (count : Nat) :
    s.Heeds quiet out (t.takeQuarter p q count) := by
  unfold State.takeQuarter
  split
  · exact h.quarterChime ..
  · exact h.quarterChime ..
  · exact h.quarterChime ..
  · exact h

theorem chimeAnnounced (h : s.Heeds quiet out t) (x : HeldAnnouncement) : s.Heeds quiet out (t.chimeAnnounced x) := by
  unfold State.chimeAnnounced
  split
  · cases x with
    | quarter q count => exact h.takeQuarter ..
    | hourAhead x => exact h.takeHourAhead ..
  · exact h.modPlayers _

theorem chimeHandOver (h : s.Heeds quiet out t) (p : Program) (date : Bool) : s.Heeds quiet out (t.chimeHandOver p date) := by
  unfold State.chimeHandOver
  exact ((((h.modPlayers _).foldl (fun _ _ c => ite (c.assignBufferWhenFree ..) c) _).requestFetch).modPlayers _).foldl
    (fun _ _ c => c.chimeAnnounced _) _

theorem handOver (h : s.Heeds quiet out t) (valid : Option Bool) (still : Bool) : s.Heeds quiet out (t.handOver valid still) := by
  unfold State.handOver
  split
  · exact ((h.chimeHandOver ..).swingHandOver ..).keeps (lightHandOver_within (.refl _ _) (by decide) _ _ _ _)
      ((Keeps.refl _).lightHandOver _ _ _ _)
  · exact h

theorem dateChange (h : s.Heeds quiet out t) (still : Bool) : s.Heeds quiet out (t.dateChange still) := by
  unfold State.dateChange
  exact (h.modCal _).handOver ..

theorem rerunChoice (h : s.Heeds quiet out t) : s.Heeds quiet out t.rerunChoice := by
  unfold State.rerunChoice
  split
  · exact ite ((h.modCal _).handOver ..) h
  · exact h

theorem playersAllStop (h : s.Heeds quiet out t) : s.Heeds quiet out t.playersAllStop :=
  h.keeps (playersAllStop_within (.refl _ t) (by decide)) (Keeps.refl t).playersAllStop

theorem deferExpires (h : s.Heeds quiet out t) : s.Heeds quiet out t.deferExpires :=
  h.keeps (deferExpires_within (.refl _ t) (by decide)) (Keeps.refl t).deferExpires

theorem setCondition (h : s.Heeds quiet out t) (k : Fin 32) (x : KeyCondition) : s.Heeds quiet out (t.setCondition k x) := by
  unfold State.setCondition modKey
  exact h.modClavier _

section

variable (busy : ¬quiet)
include busy

theorem handQuarter (h : s.Heeds quiet out t) : s.Heeds quiet out t.handQuarter := by
  unfold State.handQuarter
  split
  · dsimp only
    split
    · exact ite (((h.plan busy _).modPlayers _).advanceQuarter.arbitrate busy) h
    · exact h
  · exact h

theorem handBlow (h : s.Heeds quiet out t) (r : HourRun) : s.Heeds quiet out (t.handBlow r) := by
  unfold State.handBlow
  dsimp only
  split
  · exact (((h.plan busy _).modPlayers _).hourOutcome ..).arbitrate busy
  · exact ((h.plan busy _).modPlayers _).arbitrate busy

theorem handHour (h : s.Heeds quiet out t) : s.Heeds quiet out t.handHour := by
  unfold State.handHour
  split
  · exact ite (h.handBlow busy _) h
  · exact h

theorem deferTests (h : s.Heeds quiet out t) : s.Heeds quiet out t.deferTests := by
  unfold State.deferTests
  split
  · refine ite ?_ h
    split
    · exact h.handBlow busy _
    · exact h.modPlayers _
  · exact h

theorem handTune (h : s.Heeds quiet out t) : s.Heeds quiet out t.handTune := by
  unfold State.handTune
  split
  · split
    · exact ite (((h.plan busy _).modPlayers _).advanceRequest.arbitrate busy) h
    · exact h
  · exact h

theorem handOverNext (h : s.Heeds quiet out t) (k : RunKind) : s.Heeds quiet out (t.handOverNext k) := by
  cases k with
  | quarter => exact h.testFourthQuarter.handQuarter busy
  | hour => exact h.handHour busy
  | request => exact h.handTune busy

theorem tollStrikes (h : s.Heeds quiet out t) (p : Port) : s.Heeds quiet out (t.tollStrikes p) := by
  unfold State.tollStrikes
  split
  · exact ite (((h.plan busy _).modPlayers _).completeToll p |>.arbitrate busy) h
  · exact h

/-! ## The clavier -/

theorem bellKey (h : s.Heeds quiet out t) (b : Bell) : s.Heeds quiet out (t.bellKey b) := by
  unfold State.bellKey
  exact (h.plan busy _).modClavier _

theorem register (h : s.Heeds quiet out t) (k : Fin 32) : s.Heeds quiet out (t.register k) := by
  have set := h.setCondition k .registered
  unfold State.register
  dsimp only
  split
  · exact set.bellKey busy _
  · exact set.keeps (functionKey_within (.refl _ _) (by decide) _) ((Keeps.refl _).functionKey _)

theorem lockoutArbiter (h : s.Heeds quiet out t) (closed opened : List (Fin 32)) : s.Heeds quiet out (t.lockoutArbiter closed opened) := by
  have all {v : State} (g : s.Heeds quiet out v) (x : KeyCondition) (l : List (Fin 32)) :
      s.Heeds quiet out (l.foldl (fun s k => State.setCondition k x s) v) := g.foldl (fun _ _ c => c.setCondition _ _) _
  have put {v : State} (g : s.Heeds quiet out v) (x : Arbiter) : s.Heeds quiet out (v.modClavier fun c => { c with arbiter := x }) :=
    g.modClavier _
  unfold State.lockoutArbiter
  dsimp only
  split
  · split
    · exact h
    · exact (put h _).register busy _
    · exact put (all h _ _) _
  · split
    · exact put (all h _ _) _
    · exact all h _ _
  · split
    · exact put (all h _ _) _
    · exact (put (all h _ _) _).register busy _
    · exact put (all h _ _) _

end

theorem allStop (h : s.Heeds quiet out t) : s.Heeds quiet out t.allStop :=
  ((h.modClavier _).swingAllStop.playersAllStop).purge ..

theorem scanClavier (h : s.Heeds quiet out t) (busy : ¬quiet) (keys : BitVec 32) (pedal : Bool) :
    s.Heeds quiet out (t.scanClavier keys pedal) := by
  unfold State.scanClavier
  extract_lets before sampled was is closed opened registered arbitrated
  have a : s.Heeds quiet out sampled := h.modClavier _
  have b : s.Heeds quiet out registered := by
    unfold registered
    split
    · exact a.foldl (fun _ k c => c.register busy k) _
    · exact a.lockoutArbiter busy ..
  have c : s.Heeds quiet out arbitrated := ite b (b.arbitrate busy)
  exact ite c.allStop c

/-! ## The sensors -/

theorem deliverBell (h : s.Heeds quiet out t) (old : BellRec) (b : Bell) : s.Heeds quiet out (t.deliverBell old b) := by
  unfold State.deliverBell
  have hammer (x y z : Bool) := h.hammerSensors b x y z
  have claim (p : Bool) (x y z : Bool) := ite (c := p = true) ((hammer x y z).claimAtRest b) (hammer x y z)
  have edge (p q : Bool) (x y z : Bool) := ite (c := q = true) ((claim p x y z).swingEdge b) (claim p x y z)
  exact ite ((edge _ _ _ _ _).swingRest b) (edge _ _ _ _ _)

theorem lockoutDemands (h : s.Heeds quiet out t) (present : Bool) : s.Heeds quiet out (t.lockoutDemands present) :=
  h.foldl (fun _ b c => c.changeDemands b _) _

theorem deliverLockout (h : s.Heeds quiet out t) (before : Option Bool) : s.Heeds quiet out (t.deliverLockout before) :=
  ite ((h.lockoutDemands true).swingLockOut.raiseAll _) (ite ((h.lockoutDemands false).raiseAll _) h)

theorem firstStates (h : s.Heeds quiet out t) : s.Heeds quiet out t.firstStates := by
  have hammers := h.foldl (fun _ b c => c.hammerFirstState b) allBells
  exact ((ite (hammers.lockoutDemands true) hammers).foldl (fun _ b c => c.meetDemand b) _).foldl (fun _ b c => c.swingFirstState b) _

theorem deliverScan (h : s.Heeds quiet out t) (old : BellTable) : s.Heeds quiet out (t.deliverScan old) := by
  have delivered := (h.foldl (fun _ b c => c.deliverBell (old.bells.get b) b) allBells).deliverLockout old.lockout.state
  exact ite delivered.firstStates delivered

/-! ## The timekeeper -/

theorem evaluateDials (h : s.Heeds quiet out t) : s.Heeds quiet out t.evaluateDials :=
  h.keeps (evaluateDials_within (.refl _ t) (by decide)) (Keeps.refl t).evaluateDials

theorem giveHourAhead (h : s.Heeds quiet out t) : s.Heeds quiet out t.giveHourAhead := ite ((h.modTk _).chimeAnnounced _) h

theorem withdrawHourAhead (h : s.Heeds quiet out t) : s.Heeds quiet out t.withdrawHourAhead :=
  h.keeps (withdrawHourAhead_within (.refl _ t) (by decide)) (Keeps.refl t).withdrawHourAhead

theorem recordMissed (h : s.Heeds quiet out t) (after : Nat) : s.Heeds quiet out (t.recordMissed after) := by
  unfold State.recordMissed
  dsimp only
  split
  · exact (h.modTk _).raiseAll _
  · exact h

theorem correct (h : s.Heeds quiet out t) (before : LocalTime) (record setValid : Bool) :
    s.Heeds quiet out (t.correct before record setValid) := by
  have withdrawn := h.withdrawHourAhead
  have recorded := ite (c := (record && t.withdrawHourAhead.localTime.later before) = true)
    (withdrawn.recordMissed (max t.withdrawHourAhead.guardNumber before.quarter.number)) withdrawn
  have evaluated := recorded.giveHourAhead.evaluateDials
  have lit (x : LocalTime) := evaluated.keeps (lightTimeChange_within (.refl _ _) (by decide) before x)
    ((Keeps.refl _).lightTimeChange before x)
  exact (ite ((lit _).dateChange false) (lit _)).raiseAll _

theorem evaluateDst (h : s.Heeds quiet out t) : s.Heeds quiet out t.evaluateDst := ite h ((h.modTk _).correct ..)

theorem stepTime (h : s.Heeds quiet out t) (c : Counters) : s.Heeds quiet out (t.stepTime c) := ((h.modTk _).modTk _).correct ..

theorem quarterReached (h : s.Heeds quiet out t) (x : LocalTime) : s.Heeds quiet out (t.quarterReached x) := by
  unfold State.quarterReached
  dsimp only
  split
  · exact ((h.modTk _).modTk _).chimeAnnounced _
  · exact h.modTk _

theorem minuteReached (h : s.Heeds quiet out t) (x : LocalTime) : s.Heeds quiet out (t.minuteReached x) :=
  (h.swingMinute ..).keeps (lightMinute_within (.refl _ _) (by decide) _) ((Keeps.refl _).lightMinute _)

theorem boundaries (h : s.Heeds quiet out t) : s.Heeds quiet out t.boundaries := by
  unfold State.boundaries
  extract_lets now quarter ahead date minute half taps
  have a : s.Heeds quiet out quarter := ite (h.quarterReached _) h
  have b : s.Heeds quiet out ahead := ite a.giveHourAhead a
  have c : s.Heeds quiet out date := ite (b.dateChange _) b
  have d : s.Heeds quiet out minute := ite (c.minuteReached _) c
  have e : s.Heeds quiet out half := ite d.evaluateDials d
  have f : s.Heeds quiet out taps := e.foldl (fun _ p g => ite (g.raise _ p) g) _
  exact ite f.evaluateDst f

theorem tick (h : s.Heeds quiet out t) : s.Heeds quiet out t.tick := ite (h.modTk _).boundaries (h.modTk _)

theorem startStages (h : s.Heeds quiet out t) : s.Heeds quiet out t.startStages := by
  unfold State.startStages
  extract_lets flag told recorded given
  have a : s.Heeds quiet out told := ite (h.modTk _) ((h.modTk _).raiseAll _)
  have b : s.Heeds quiet out recorded := ite (a.recordMissed _) a
  exact (b.giveHourAhead.dateChange true).evaluateDials

/-! ## The instants of the timers -/

/-- A slot that is freed lets the arbiter act (R94). -/
theorem pulseEnds (h : s.Heeds quiet out t) (busy : ¬quiet) (k : HammerSlot) : s.Heeds quiet out (t.pulseEnds k) := by
  unfold State.pulseEnds
  split
  · exact ite (((h.leaveQueue (List.Sublist.refl _) (absurd · busy) rfl).pulseEnded _).arbitrate busy) h
  · exact h

theorem startEnds (h : s.Heeds quiet out t) (b : Bell) : s.Heeds quiet out (t.startEnds b) := by
  unfold State.startEnds
  split
  · rename_i starts
    have busy : t.swingState b ≠ .idle := by rw [starts.1]; decide
    exact ite (h.toRinging busy (by rw [starts.1]; decide)) (h.swingFaults busy _)
  · exact h

theorem pulseMissed (h : s.Heeds quiet out t) (b : Bell) : s.Heeds quiet out (t.pulseMissed b) := by
  unfold State.pulseMissed
  split
  · rename_i rings
    exact h.swingFaults (by rw [rings.1]; decide) _
  · exact h

theorem durationEnds (h : s.Heeds quiet out t) (b : Bell) : s.Heeds quiet out (t.durationEnds b) := by
  unfold State.durationEnds
  split
  · rename_i rings
    exact h.toStopping (by rw [rings.1]; decide) (by rw [rings.1]; decide) ..
  · exact h

theorem stopTimesOut (h : s.Heeds quiet out t) (b : Bell) : s.Heeds quiet out (t.stopTimesOut b) := by
  unfold State.stopTimesOut
  split
  · rename_i stops
    exact h.swingFaults (by rw [stops.1]; decide) _
  · exact h

theorem settleEnds (h : s.Heeds quiet out t) (b : Bell) : s.Heeds quiet out (t.settleEnds b) := by
  unfold State.settleEnds
  split
  · rename_i settles
    exact h.toIdle _ _ fun law => (h.laws law).not_waiting (by rw [settles.1]; decide)
  · exact h

theorem staggerEnds (h : s.Heeds quiet out t) : s.Heeds quiet out t.staggerEnds := by
  unfold State.staggerEnds
  split
  · exact h.slotNext _
  · exact h

theorem slotEnds (h : s.Heeds quiet out t) : s.Heeds quiet out t.slotEnds := by
  unfold State.slotEnds
  split
  · exact h.slotRunEnds _
  · exact h

theorem rampMoves (h : s.Heeds quiet out t) (c : Circuit) : s.Heeds quiet out (t.rampMoves c) :=
  h.keeps (rampMoves_within (.refl _ t) (by decide) c) ((Keeps.refl t).rampMoves c)

theorem loadWaitExpires (h : s.Heeds quiet out t) (b : Bell) : s.Heeds quiet out (t.loadWaitExpires b) := by
  unfold State.loadWaitExpires
  split
  · exact ite ((h.giveUp b _).raiseFor _ _) h
  · exact h

end Sys2Proof.Machine.State.Heeds
end

section
/-! PROOFS. The owners of the requests, and the requests themselves, heed the laws of strikes. -/

namespace Sys2Proof.Machine.State

namespace Heeds

variable {quiet : Prop} {out : Spared} {s t u : State} {b : Bell}

/-! ## Requests and answers -/

theorem takeFrame (h : s.Heeds quiet out t) (p : Port) (parts snapshot : Bool) : s.Heeds quiet out (t.takeFrame p parts snapshot) :=
  h.modPort p fun _ => rfl

theorem respond (p : Port) (code : Byte) {a : Answer} (h : s.Heeds quiet out a.state) : s.Heeds quiet out (State.respond p code a) :=
  h.modPort p fun _ => rfl

/-- A request heeds the laws where its owner does. -/
theorem request (s : State) (p : Port) (code : Byte) (params : List Byte) {owner : State → Answer}
    (ho : ∀ u : State, u.Heeds quiet out (owner u).state) : s.Heeds quiet out (s.request p code params owner) := by
  have taken := (refl quiet out s).takeFrame p false false
  unfold State.request
  dsimp only
  split
  · split
    · exact respond p code taken
    · exact respond p code (taken.trans (ho _))
  · exact refl quiet out s

theorem parsed {r : Rd α} {params : List Byte} {owner : α → State → Answer}
    (ho : ∀ a (u : State), u.Heeds quiet out (owner a u).state) (u : State) :
    u.Heeds quiet out (State.parsed r params owner u).state := by
  unfold State.parsed
  split
  · exact ho _ u
  · exact refl quiet out u

/-- A request whose parameters are read heeds the laws where its owner does for every value. -/
theorem requestParsed (s : State) (p : Port) (code : Byte) (params : List Byte) (r : Rd α) {owner : α → State → Answer}
    (ho : ∀ a (u : State), u.Heeds quiet out (owner a u).state) :
    s.Heeds quiet out (s.request p code params (State.parsed r params owner)) :=
  request s p code params (parsed ho)

/-- A part heeds the laws where the owner of the whole request does. -/
theorem part (s : State) (p : Port) (code : Byte) (params : List Byte) {owner : List Byte → State → Answer}
    (ho : ∀ l (u : State), u.Heeds quiet out (owner l u).state) : s.Heeds quiet out (s.part p code params owner) := by
  have taken := (refl quiet out s).takeFrame p true false
  have dropped := taken.modPort p (f := fun r => { r with parts := none }) fun _ => rfl
  unfold State.part
  dsimp only
  split
  · split
    · exact respond p code (ite taken dropped)
    · split
      · exact respond p code dropped
      · split
        · exact respond p code (dropped.trans (ho _ _))
        · exact respond p code (taken.modPort p (f := fun r => { r with parts := some _ }) fun _ => rfl)
  · exact refl quiet out s

end Heeds

variable {quiet : Prop} {out : Spared} (u : State)

/-! ## The timekeeper and the calendar -/

theorem ownSetTime_heeds (c : Counters) : u.Heeds quiet out (u.ownSetTime c).state := by
  unfold ownSetTime
  dsimp only
  split
  · rw [ok_state]
    exact (Heeds.refl quiet out u).modTk _
  · exact ((Heeds.refl quiet out u).stepTime c).settle

theorem ownSetDst_heeds (r : DstRule) : u.Heeds quiet out (u.ownSetDst r).state :=
  (((Heeds.refl quiet out u).modTk _).evaluateDst).settle

theorem modCal_edited_heeds (f : Calendar → Calendar) : u.Heeds quiet out (u.modCal f).edited.state :=
  (((Heeds.refl quiet out u).modCal f).rerunChoice).settle

theorem ownClearYearRef_heeds (y : Nat) : u.Heeds quiet out (u.ownClearYearRef y).state := by
  unfold ownClearYearRef
  split
  · exact u.modCal_edited_heeds _
  · exact .refl quiet out u

theorem ownSetProgram_heeds (x : ProgramNo × Program) : u.Heeds quiet out (u.ownSetProgram x).state :=
  have set := (Heeds.refl quiet out u).modCal fun c => { c with programs := c.programs.set x.1 x.2 }
  .ite (set.handOver _ _).settle set

/-! ## Bells and claims -/

theorem takeLatches_heeds : u.Heeds quiet out u.takeLatches := by
  unfold takeLatches
  refine (Heeds.refl quiet out u).modBells fun b => ?_
  simp only [Table.get_map]
  exact ⟨rfl, rfl, rfl⟩

theorem fittedState_ne_absent (b : Bell) : u.fittedState b ≠ .absent := by
  rw [fittedState_eq]
  split_ifs <;> decide

/-- A bell's configuration is replaced where the bell is IDLE, and a hammer is fitted or unfitted only where the laws spare the
bell. -/
theorem withConfig_heeds {b : Bell} {c : BellConfig} (idle : u.swingState b = .idle)
    (same : out.hammers b ∨ c.hammer = (u.config b).hammer) : u.Heeds quiet out (u.withConfig b c) := by
  have others (k : Bell) (other : k ≠ b) : (u.withConfig b c).config k = u.config k :=
    congrArg BellRec.config (u.bell_withConfig_of_ne other c)
  have hammer (k : Bell) (inside : ¬out.hammers k) : ((u.withConfig b c).config k).hammer = (u.config k).hammer := by
    by_cases here : k = b
    · subst here
      exact (congrArg (fun r : BellRec => r.config.hammer) (u.bell_withConfig k c)).trans (same.resolve_left inside)
    · rw [others k here]
  have record (k : Bell) : ((u.withConfig b c).bell k).hammer = (u.bell k).hammer ∧
      ((u.withConfig b c).bell k).onsets = (u.bell k).onsets := by
    by_cases here : k = b
    · rw [here, bell_withConfig]
      exact ⟨rfl, rfl⟩
    · rw [u.bell_withConfig_of_ne here]
      exact ⟨rfl, rfl⟩
  refine ⟨id, .inl rfl, fun _ => rfl, fun _ k => (record k).2, fun law => ⟨law.few, law.ordered, fun e mem inside => ?_, fun k inside => ?_,
    law.loads.1, law.loads.2.1, fun e mem => ?_⟩⟩
  · obtain ⟨fitted, idle, free⟩ := law.entries e mem inside
    exact ⟨(hammer _ fun spared => inside (out.le _ spared)).trans fitted, idle, free⟩
  · rw [(record k).1, hammer k inside]
    exact law.hammers k inside
  · have other : e.bell ≠ b := law.not_waiting (by rw [idle]; decide) e mem
    rw [neededLoad, others _ other]
    exact law.loads.2.2 e mem

theorem bell_unfitHammer (b : Bell) : (u.unfitHammer b).bell b =
    { u.bell b with hammer := some .absent, timer := none, motor := false, cause := none } := by
  have kept : (u.unfitHammer b).bells = ((u.setHammer b .absent none false).modBell b fun r => { r with cause := none }).bells :=
    purge_within (.refl _ _) (List.Subset.refl _) _ _ .bells (by decide)
  refine (congrArg (fun t : BellTable => t.bells.get b) kept).trans ((bell_modBell ..).trans ((if_pos rfl).trans ?_))
  rw [bell_setHammer]
  simp

/-- A hammer that is unfitted takes the bell's entries with it (R48). -/
theorem unfitHammer_heeds {b : Bell} {c : BellConfig} (idle : u.swingState b = .idle) (now : c.hammer = false) :
    u.Heeds quiet .none ((u.withConfig b c).unfitHammer b) := by
  have replaced := u.withConfig_heeds (quiet := quiet) (out := .only b) (c := c) idle (.inl rfl)
  have removed : u.Heeds quiet (.only b) ((u.withConfig b c).unfitHammer b) :=
    ((replaced.setHammer (.inl rfl) (.inl rfl) none false).keepBell b (by exact fun _ => ⟨rfl, rfl, rfl⟩)).purge ..
  refine removed.withLaws fun law => (removed.laws (law.weaken (fun _ => False.elim) fun _ => False.elim)).narrow ?_ ?_
  · intro e mem here
    rw [unfitHammer, purge_queue] at mem
    simp [show e.bell = b from here] at mem
  · rintro k rfl
    refine .inr (iff_of_true ?_ ?_)
    · rw [bell_unfitHammer]
    · rw [config, bell_unfitHammer, bell_withConfig]
      exact now

/-- A hammer that is fitted is ABSENT no more, and its bell has no entries (R48). -/
theorem fitHammer_heeds {b : Bell} {c : BellConfig} (idle : u.swingState b = .idle) (now : c.hammer = true)
    (was : (u.config b).hammer = false) : u.Heeds quiet .none ((u.withConfig b c).fitHammer b) := by
  have replaced := u.withConfig_heeds (quiet := quiet) (out := .only b) (c := c) idle (.inl rfl)
  have fitted : u.Heeds quiet (.only b) ((u.withConfig b c).fitHammer b) :=
    .ite (replaced.enterParking (.inl rfl)) (replaced.enterUnparking (.inl rfl) false)
  refine fitted.withLaws fun law => (fitted.laws (law.weaken (fun _ => False.elim) fun _ => False.elim)).narrow ?_ ?_
  · intro e mem here
    have queue : ((u.withConfig b c).fitHammer b).engine = u.engine :=
      fitHammer_within (.refl _ (u.withConfig b c)) (List.Subset.refl _) b .engine (by decide)
    rw [queue] at mem
    have one := (law.entries e mem id).1
    rw [show e.bell = b from here, was] at one
    cases one
  · rintro k rfl
    have record := ((u.withConfig k c).fitHammer_entered k).record
    refine .inr (iff_of_false ?_ ?_)
    · rw [record]
      exact fun absent => fittedState_ne_absent _ k (Option.some.inj absent)
    · rw [config, record, bell_withConfig]
      simp [now]

theorem ownSetBell_state {b : Bell} {c : BellConfig} (busy : u.bellBusy b c = false) (same : c.hammer = (u.config b).hammer) :
    (ownSetBell (b, c) u).state = (u.withConfig b c).settle := by
  unfold ownSetBell
  simp only [busy, same, Bool.false_eq_true, if_false, Bool.and_not_self, Bool.not_and_self]
  rfl

theorem ownSetBell_heeds (x : Bell × BellConfig) : u.Heeds quiet .none (u.ownSetBell x).state := by
  obtain ⟨b, c⟩ := x
  cases busy : u.bellBusy b c with
  | true =>
    rw [ownSetBell_busy busy]
    exact .refl quiet .none u
  | false =>
    have idle : u.swingState b = .idle := by
      by_contra swings
      rw [bellBusy_iff.mpr (.inl swings)] at busy
      cases busy
    by_cases same : c.hammer = (u.config b).hammer
    · rw [ownSetBell_state u busy same]
      exact (u.withConfig_heeds idle (.inr same)).settle
    cases now : c.hammer with
    | true =>
      have was : (u.config b).hammer = false := by simpa [now] using same
      rw [ownSetBell_fits busy now was]
      exact (u.fitHammer_heeds idle now was).settle
    | false =>
      have was : (u.config b).hammer = true := by simpa [now] using same
      rw [ownSetBell_unfits busy now was]
      exact (u.unfitHammer_heeds idle now).settle

theorem clearHammer_heeds (b : Bell) : u.Heeds quiet out (u.clearHammer b).state := by
  unfold clearHammer
  extract_lets r park home answer cleared
  have answered {t : State} (h : u.Heeds quiet out t) : u.Heeds quiet out (answer t).state := h.settle
  split
  · exact .refl quiet out u
  rename_i fault
  have fit : out.hammers b ∨ (cleared.bell b).hammer ≠ some .absent := by
    refine .inr ?_
    rw [bell_modBell, if_pos rfl]
    exact (not_not.mp fault).trans_ne (by decide)
  have start : u.Heeds quiet out cleared := (Heeds.refl quiet out u).keepBell b fun _ => ⟨rfl, rfl, rfl⟩
  split
  · exact .refl quiet out u
  split
  · exact answered (start.enterParked fit _)
  split
  · exact answered (start.enterParking fit)
  split
  · exact answered (start.setHammer fit (.inr (by decide)) _ _)
  · exact .refl quiet out u

theorem clearSwing_heeds (b : Bell) : u.Heeds quiet out (u.clearSwing b).state := by
  unfold clearSwing
  split
  · exact .refl quiet out u
  rename_i fault
  have state : (u.modSwingRec b fun r => { r with fault := none }).swingState b = .fault := by
    rw [swingState, swingRec_modSwingRec, if_pos rfl]
    exact not_not.mp fault
  split
  · exact .refl quiet out u
  · exact ((Heeds.keepSwing (.refl quiet out u) b (by exact fun _ => rfl)).toSettling (by rw [state]; decide) (by rw [state]; decide) _).settle

theorem ownClearFault_heeds (p : Port) (n : Nat) (right : Right) (params : List Byte) {clear : Bell → State → Answer}
    (h : ∀ b (v : State), v.Heeds quiet out (clear b v).state) : u.Heeds quiet out (u.ownClearFault p n right params clear).state := by
  unfold ownClearFault
  split
  · exact .refl quiet out u
  split
  · exact .refl quiet out u
  split
  · exact h _ u
  · exact .refl quiet out u

theorem ownClaim_heeds (p : Port) (x : BellSet × ClaimKind) : u.Heeds quiet out (u.ownClaim p x).state := by
  unfold ownClaim
  dsimp only
  split
  · exact ((Heeds.refl quiet out u).foldl (fun _ b c => c.takeClaim p x.2 b) _).settle
  · exact .refl quiet out u

theorem ownRenew_heeds (p : Port) (m : BellSet) : u.Heeds quiet out (u.ownRenew p m).state :=
  (Heeds.refl quiet out u).foldl (fun v b c => c.setClaim b _ (.inr fun free => by cases held : v.claim b <;> simp_all [Claim.notRope])) _

theorem ownRelease_heeds (p : Port) (m : BellSet) : u.Heeds quiet out (u.ownRelease p m).state :=
  ((Heeds.refl quiet out u).foldl (fun _ b c => c.giveUpClaim b) _).settle

/-- The hold time of a port is no part of a claim. -/
theorem ownSetClaimHold_heeds (p : Port) (n : Nat) : u.Heeds quiet out (u.ownSetClaimHold p n).state :=
  (Heeds.refl quiet out u).trans ⟨id, .inl rfl, fun _ => rfl, fun _ _ => rfl, fun law => law.ease { Eases.refl u with queue := .refl _ }⟩

/-! ## Strikes and players -/

theorem ownSetPriority_heeds (x : Priorities) : u.Heeds quiet out (u.ownSetPriority x).state :=
  (Heeds.refl quiet out u).leaveQueue (f := fun e => { e with priorities := x }) (.refl _) (fun _ => rfl) rfl

theorem ownTuneStop_heeds : u.Heeds quiet out u.ownTuneStop.state := by
  have stopped := (Heeds.refl quiet out u).stopRequest .stopped
  unfold ownTuneStop
  split
  · exact .refl quiet out u
  · exact stopped
  · exact stopped.purge _ _
  · exact stopped.purge _ _

theorem ownTollStop_heeds (p : Port) : u.Heeds quiet out (u.ownTollStop p).state := by
  unfold ownTollStop
  split
  · exact Heeds.purge ((Heeds.refl quiet out u).modPlayers _) _ _
  · exact .refl quiet out u

theorem ownStrike_heeds (busy : ¬quiet) (p : Port) (x : Bell × Nat) : u.Heeds quiet out (u.ownStrike p x).state :=
  (((Heeds.refl quiet out u).plan busy _).arbitrate busy).settle

/-! ## The swing controller -/

theorem startBells_heeds (p : Port) (minutes : Option Nat) (bs : List Bell) {s t : State} (h : s.Heeds quiet out t) (yes : List Bell)
    (no : List (Bell × StartRefusal)) : s.Heeds quiet out (startBells p minutes bs (t, yes, no)).1 := by
  induction bs generalizing t yes no with
  | nil => exact h
  | cons b bs ih =>
    unfold startBells
    split
    · exact ih h _ _
    · rename_i fit
      exact ih (h.toParking (by by_contra busy; exact startRefusal_of_busy busy _ fit) _ _) _ _

theorem ownSwingStart_heeds (p : Port) (x : BellSet × Option Nat) : u.Heeds quiet out (u.ownSwingStart p x).state :=
  (startBells_heeds p x.2 (bellsOf x.1) (.refl quiet out u) [] []).settle

theorem ownSwingStop_heeds (m : BellSet) : u.Heeds quiet out (u.ownSwingStop m).state :=
  ((Heeds.refl quiet out u).foldl (fun _ b c => c.bringDown b _) _).settle

/-! ## Lights and load -/

theorem ownSetCircuit_heeds (x : Circuit × CircuitConfig) : u.Heeds quiet out (u.ownSetCircuit x).state := by
  obtain ⟨c, k⟩ := x
  have set := (Heeds.refl quiet out u).modLights fun l => { l with circuits := l.circuits.set c { l.circuits.get c with config := k } }
  have watched : u.Heeds quiet out (u.watchReservation c fun v => v.modCircuit c fun r => { r with config := k }) :=
    .ite (set.signal _) set
  unfold ownSetCircuit
  dsimp only
  split
  · exact .refl quiet out u
  · exact (watched.keeps (rewant_within (.refl _ _) (by decide) c 0 false) ((Keeps.refl _).rewant c 0 false)).settle

theorem ownSetPlan_heeds (x : PlanNo × List PlanStep) : u.Heeds quiet out (u.ownSetPlan x).state :=
  have set := (Heeds.refl quiet out u).modLights fun l => { l with plans := l.plans.set x.1 x.2 }
  .ite (set.keeps (buildTimeline_within (.refl _ _) (by decide) _) ((Keeps.refl _).buildTimeline _)).settle set

theorem ownSetLevel_heeds (p : Port) (x : LevelRequest) : u.Heeds quiet out (u.ownSetLevel p x).state :=
  ((Heeds.refl quiet out u).foldl (fun _ c k => (k.modLights _).keeps (rewant_within (.refl _ _) (by decide) c _ _)
    ((Keeps.refl _).rewant c _ _)) _).settle

theorem ownSetSolar_heeds (x : Table 24 SolarPoint) : u.Heeds quiet out (u.ownSetSolar x).state :=
  (((Heeds.refl quiet out u).modLights fun l => { l with solar := x }).keeps (buildTimeline_within (.refl _ _) (by decide) _)
    ((Keeps.refl _).buildTimeline _)).settle

theorem ownSetLoad_heeds (x : Nat × Nat × Nat) : u.Heeds quiet out (u.ownSetLoad x).state := by
  have set := (Heeds.refl quiet out u).leaveLoad (f := fun l => { l with capacity := x.1, reserve := x.2.1, wait := x.2.2 }) (.refl _)
  unfold ownSetLoad
  dsimp only
  split
  · exact .refl quiet out u
  · exact (Heeds.ite (set.signal _) set).settle

end Sys2Proof.Machine.State
end

section
/-! PROOFS. What every command leaves of the laws of strikes, of the losses and of the pulses, starts and losses of the supply
included. -/

namespace Sys2Proof.Machine

/-- The commands that may let the arbiter act. -/
def arbitrates : Instr → Bool
  | .entryDue | .waitRecoveryMet | .pulseEnd _ | .noteHandOver _ | .deferTest | .tollInstant _ | .clavierScan .. | .strike .. => true
  | _ => false

namespace State

/-- What a command makes of `s`: LOSS is raised where a loss counter changes, save where all that is on the main supply is lost; a
command with which no arbiter acts begins no pulse; and the laws of strikes are kept. -/
structure Ends (quiet : Prop) (s t : State) : Prop where
  losses : t.engine.losses = s.engine.losses ∨ t.noticedAll .loss ∨ t.clearsVolatile
  slots : quiet → t.engine.slots = s.engine.slots ∨ ∀ k, t.engine.slots.get k = none
  laws : s.LawsBut .none → t.LawsBut .none

namespace Ends

variable {quiet : Prop} {s t : State}

theorem of_heeds (h : s.Heeds quiet .none t) : s.Ends quiet t :=
  ⟨h.losses.imp_right .inl, fun q => .inl (h.slots q), h.laws⟩

theorem refl (quiet : Prop) (s : State) : s.Ends quiet s := of_heeds (.refl quiet .none s)

/-- A command that touches none of the blocks that the laws and the losses rest on. -/
theorem frame (h : s.changesOnly Heeds.offStrikes t) : s.Ends quiet t := by
  have engine : t.engine = s.engine := h .engine (by decide)
  exact ⟨.inl (by rw [engine]), fun _ => .inl (by rw [engine]), fun law => law.ease (Heeds.eases_of_frame h)⟩

/-- What is on the main supply is lost. -/
theorem of_cleared (cleared : t.clearsVolatile) (laws : t.LawsBut .none) : s.Ends quiet t := by
  obtain ⟨-, -, slots, -⟩ := id cleared
  exact ⟨.inr (.inr cleared), fun _ => .inr slots, fun _ => laws⟩

theorem ite {c : Prop} [Decidable c] {u : State} (h : s.Ends quiet t) (g : s.Ends quiet u) : s.Ends quiet (if c then t else u) := by
  split <;> assumption

/-- A request that touches none of the blocks that the laws and the losses rest on. -/
theorem request (p : Port) (code : Byte) (params : List Byte) {owner : State → Answer}
    (ho : ∀ u : State, u.changesOnly Heeds.offStrikes (owner u).state) : s.Ends quiet (s.request p code params owner) :=
  frame (request_within (.refl Heeds.offStrikes s) (by decide) p code params fun u h => h.trans (ho u))

theorem parsed (p : Port) (code : Byte) (params : List Byte) (r : Rd α) {owner : α → State → Answer}
    (ho : ∀ a (u : State), u.changesOnly Heeds.offStrikes (owner a u).state) :
    s.Ends quiet (s.request p code params (State.parsed r params owner)) :=
  request p code params fun u => parsed_within (fun a _ h => h.trans (ho a _)) u (.refl _ u)

theorem read (p : Port) (code : Byte) (params : List Byte) (data : State → Option (List Byte)) :
    s.Ends quiet (s.read p code params data id) :=
  frame (read_within (.refl Heeds.offStrikes s) (by decide) p code params data fun _ h => h)

end Ends

/-! ## The owners of the requests that touch none of these blocks -/

section

open Heeds (offStrikes)

variable (u : State)

theorem evaluateDial_frame {u v : State} (h : u.changesOnly offStrikes v) (n : Train) : u.changesOnly offStrikes (v.evaluateDial n) :=
  evaluateDial_within h (by decide) n

theorem ownSetDialConfig_frame (x : Train × DialConfig) : u.changesOnly offStrikes (u.ownSetDialConfig x).state := by
  unfold ownSetDialConfig
  dsimp only
  split
  · split
    · exact .refl _ u
    · exact changeDial_within (.refl _ u) (by decide) _ _
  · exact evaluateDial_frame (modDial_within (.refl _ u) (by decide) _ _) _

theorem ownSetDial_frame (x : Train × Nat × Option Polarity) : u.changesOnly offStrikes (u.ownSetDial x).state := by
  have set := modDial_within (.refl offStrikes u) (by decide) x.1 fun d =>
    { d with position := x.2.1, lastPolarity := x.2.2.getD d.lastPolarity, uncertain := false }
  unfold ownSetDial
  dsimp only
  split
  · exact .refl _ u
  split
  · exact .refl _ u
  rw [ok_state]
  exact ite_within (raiseAll_within (evaluateDial_frame (modDial_within set (by decide) _ _) _) (by decide) _) set

theorem ownDialStop_frame (n : Train) : u.changesOnly offStrikes (u.ownDialStop n).state := by
  unfold ownDialStop
  split
  · exact .refl _ u
  · exact ite_within (changeDial_within (.refl _ u) (by decide) _ _) (.refl _ u)

theorem ownDialRelease_frame (n : Train) : u.changesOnly offStrikes (u.ownDialRelease n).state := by
  unfold ownDialRelease
  split
  · exact .refl _ u
  split
  · exact .refl _ u
  rw [ok_state]
  exact ite_within (raiseAll_within (evaluateDial_frame (modDial_within (.refl _ u) (by decide) _ _) _) (by decide) _)
    (evaluateDial_frame (.refl _ u) _)

theorem ownTunePlay_frame (p : Port) (x : PlayRequest) : u.changesOnly offStrikes (u.ownTunePlay p x).state := by
  unfold ownTunePlay
  split
  · exact .refl _ u
  split
  · exact .refl _ u
  · exact taken_within (enqueueStoreOp_within (modPlayers_within (.refl _ u) (by decide) _) (by decide) _) (by decide) _ _ _

theorem ownTollStart_frame (p : Port) (x : TollRequest) : u.changesOnly offStrikes (u.ownTollStart p x).state :=
  modPlayers_within (modToll_within (.refl _ u) (by decide) _ _) (by decide) _

theorem ownSetClavier_frame (p : Port) (params : List Byte) : u.changesOnly offStrikes (u.ownSetClavier p params).state := by
  unfold ownSetClavier
  dsimp only
  split
  · exact .refl _ u
  split
  · exact .refl _ u
  · refine parsed_within (fun x v h => ?_) u (.refl _ u)
    have bound := modClavier_within (changeMode_within h (by decide) x.1) (by decide) fun c => { c with cls := x.2.1, binding := x.2.2 }
    unfold bindClavier
    dsimp only
    split
    · exact ite_within (raise_within bound (by decide) _ _) bound
    · exact bound

theorem ownTuneBegin_frame (p : Port) (x : Nat × Nat × Policy) : u.changesOnly offStrikes (u.ownTuneBegin p x).state := by
  unfold ownTuneBegin
  split
  · exact .refl _ u
  · exact modStore_within (.refl _ u) (by decide) _

theorem ownTuneWrite_frame (p : Port) (params : List Byte) : u.changesOnly offStrikes (u.ownTuneWrite p params).state := by
  unfold ownTuneWrite
  split
  · exact .refl _ u
  split
  · exact .refl _ u
  split
  · exact .refl _ u
  · exact modStore_within (.refl _ u) (by decide) _

theorem ownTuneCommit_frame (p : Port) (x : TuneSlot) : u.changesOnly offStrikes (u.ownTuneCommit p x).state := by
  unfold ownTuneCommit
  split
  · exact .refl _ u
  split
  · exact taken_within (enqueueStoreOp_within (modStore_within (.refl _ u) (by decide) _) (by decide) _) (by decide) _ _ _
  · exact .refl _ u

theorem ownTuneInfo_frame (p : Port) (x : TuneSlot) : u.changesOnly offStrikes (u.ownTuneInfo p x).state :=
  taken_within (enqueueStoreOp_within (.refl _ u) (by decide) _) (by decide) _ _ _

end

/-- A read that leaves the latches of the sensors, or takes them. -/
theorem readLatches_heeds {quiet : Prop} {out : Spared} (s : State) (p : Port) (code : Byte) (params : List Byte) (data : State → Option (List Byte))
    {c : Prop} [Decidable c] : s.Heeds quiet out (s.read p code params data (if c then takeLatches else id)) := by
  have held (u : State) : u.Heeds quiet out (u.laterPage p code params).state := by
    unfold laterPage
    split
    · split
      · split <;> exact .refl quiet out u
      · exact .refl quiet out u
    · exact .refl quiet out u
  have latches (u : State) : u.Heeds quiet out ((if c then takeLatches else id) u) := by
    split
    · exact u.takeLatches_heeds
    · exact .refl quiet out u
  unfold read
  extract_lets later u
  split
  · have taken : s.Heeds quiet out u := (Heeds.refl quiet out s).takeFrame ..
    split
    · exact Heeds.respond p code taken
    split
    · exact Heeds.respond p code (taken.trans (held u))
    split
    · exact Heeds.respond p code ((taken.trans (latches u)).modPort p (f := fun r => { r with snapshot := some _ }) fun _ => rfl)
    · exact Heeds.respond p code taken
  · exact .refl quiet out s

/-! ## The losses and the starts -/

/-- The laws hold where what is on the main supply is lost: the queues are empty, and a hammer is ABSENT where none is fitted. -/
theorem unsupplied_laws (s : State) (x : Power) : (s.unsupplied x).LawsBut .none := by
  obtain ⟨-, queue, -, -, -, -, load, -⟩ := s.unsupplied_clearsVolatile x
  refine lawsBut_none.mpr ⟨?_, fun b => ?_, ?_⟩
  · unfold strikeQueueLaw
    rw [queue]
    exact ⟨Nat.zero_le _, .nil, nofun⟩
  · simp only [bell, config, unsupplied, dropVolatile_bells, Table.get_map]
    cases fitted : (s.bells.bells.get b).config.hammer <;> simp [BellRec.atStart, fitted]
  · unfold loadQueueLaw
    rw [load]
    exact ⟨Nat.zero_le _, .nil, nofun⟩

theorem Heeds.markUncertain {quiet : Prop} {out : Spared} {s t : State} (h : s.Heeds quiet out t) : s.Heeds quiet out t.markUncertain := by
  have marks := h.frame (modDials_within (.refl _ t) (by decide) fun x => x.map fun d =>
    { d with uncertain := d.uncertain || d.inFlight, inFlight := false }) id
  exact ite (marks.raiseAll _) marks

theorem start_laws (s : State) (mains : Bool) : (s.start mains).LawsBut .none := by
  have claim := (Heeds.refl True .none (s.unsupplied .on)).raiseAll .claim
  have noticed : Heeds True .none (s.unsupplied .on) _ := .ite (c := mains = true) (claim.raiseAll .mains) claim
  exact noticed.markUncertain.startStages.settle.laws (s.unsupplied_laws .on)

section

variable {quiet : Prop} {s : State}

theorem clearsVolatile_of_link {t u : State} (link : t.changesOnly [.link] u) (cleared : t.clearsVolatile) : u.clearsVolatile := by
  have tk : u.tk = t.tk := link .timekeeper (by decide)
  have engine : u.engine = t.engine := link .engine (by decide)
  have claims : u.claims = t.claims := link .claims (by decide)
  have swing : u.swing = t.swing := link .swing (by decide)
  have bells : u.bells = t.bells := link .bells (by decide)
  have load : u.load = t.load := link .load (by decide)
  have store : u.store = t.store := link .store (by decide)
  simpa only [clearsVolatile, claim, swingState, swingRec, motorLine, bell, tk, engine, claims, swing, bells, load, store] using cleared

theorem unsupplied_ends (u : State) (x : Power) : s.Ends quiet (u.unsupplied x) :=
  .of_cleared (u.unsupplied_clearsVolatile x) (u.unsupplied_laws x)

theorem start_ends (u : State) (mains : Bool) : s.Ends quiet (u.start mains) :=
  .of_cleared (u.start_clearsVolatile mains) (u.start_laws mains)

/-- The responses that go on over RESTART's start are no part of what is lost (R177). -/
theorem keepSending_start_ends (u : State) : s.Ends quiet (keepSending u (u.start false)) := by
  have link : (u.start false).changesOnly [.link] (keepSending u (u.start false)) :=
    keepSending_within (.refl _ _) (by decide) u
  exact .of_cleared (clearsVolatile_of_link link (u.start_clearsVolatile false)) ((u.start_laws false).ease (Heeds.eases_of_frame (link.mono (by decide))))

theorem responseGone_ends (p : Port) : s.Ends quiet (s.responseGone p) := by
  have sent := (Heeds.refl quiet .none s).modPort p (f := fun r =>
    { r with response := none, restart := false, counters := { r.counters with sent := bump r.counters.sent } }) fun _ => rfl
  unfold responseGone
  dsimp only
  split
  · exact .ite (keepSending_start_ends _) (.of_heeds sent)
  · exact .refl quiet s

theorem sample_onsets (t : BellTable) (matrix : BitVec 96) (lockout mains : Bool) (b : Bell) :
    ((t.sample matrix lockout mains).bells.get b).config = (t.bells.get b).config ∧
      ((t.sample matrix lockout mains).bells.get b).hammer = (t.bells.get b).hammer ∧
      ((t.sample matrix lockout mains).bells.get b).onsets = (t.bells.get b).onsets := by
  simp [BellTable.sample, BellRec.sample, Table.get, BellRec.onsets]

theorem sensorScan_ends (matrix : BitVec 96) (lockout mains : Bool) :
    s.Ends quiet (match s.power with
      | .on => s.scanWorking matrix lockout mains
      | .absent => s.scanMains mains
      | .off => s) := by
  split
  · have sampled := (Heeds.refl quiet .none s).modBells (f := fun t => t.sample matrix lockout mains) (sample_onsets _ _ _ _)
    exact .ite (unsupplied_ends _ _) (.of_heeds (sampled.deliverScan _).settle)
  · have sampled := (Heeds.refl quiet .none s).modBells (f := fun t => { t with mains := t.mains.sample mains }) fun _ => ⟨rfl, rfl, rfl⟩
    exact .ite (.ite (.of_heeds sampled) (start_ends _ _)) (.of_heeds sampled)
  · exact .refl quiet s

/-- A request whose owner heeds the laws. -/
theorem requestHeeds (p : Port) (code : Byte) (params : List Byte) (r : Rd α) {owner : α → State → Answer}
    (ho : ∀ a (u : State), u.Heeds quiet .none (owner a u).state) : s.Ends quiet (s.request p code params (parsed r params owner)) :=
  .of_heeds (Heeds.requestParsed s p code params r ho)

/-- What any command leaves of the laws of strikes, of the losses and of the pulses. -/
theorem exec_ends (c : Instr) (s : State) : ∃ t, exec c s = .next t ∧ s.Ends (arbitrates c = false) t :=
  have self : s.Heeds (arbitrates c = false) .none s := .refl _ .none s
  have same : s.Ends (arbitrates c = false) s := .refl _ s
  have still : s.changesOnly Heeds.offStrikes s := .refl _ s
  match c with
  | .coldStart => ⟨_, rfl, start_ends s.clearRetained true⟩
  | .warmStart => ⟨_, rfl, .ite same (start_ends s true)⟩
  | .resetInput => ⟨_, rfl, .ite (start_ends _ false) same⟩
  | .mainsFail => ⟨_, rfl, .ite (unsupplied_ends s .absent) same⟩
  | .lossOfMainSupply => ⟨_, rfl, unsupplied_ends s .off⟩
  | .tickEnd => ⟨_, rfl, .of_heeds self.tick.settle⟩
  | .sensorScan .. => ⟨_, rfl, sensorScan_ends ..⟩
  | .clavierScan .. => ⟨_, rfl, .ite (.of_heeds (self.scanClavier nofun _ _).settle) same⟩
  | .parkTimerExpiry _ => ⟨_, rfl, by split; exacts [.of_heeds (self.parkTimerExpires _).settle, same]⟩
  | .dialCatchUp _ => ⟨_, rfl, by split; exacts [.frame (dialCatchesUp_within still (by decide) _), same]⟩
  | .impulseEnd _ => ⟨_, rfl, by split; exacts [.frame (dialImpulseEnds_within still (by decide) _), same]⟩
  | .entryDue => ⟨_, rfl, .of_heeds (self.arbitrate nofun).settle⟩
  | .waitRecoveryMet => ⟨_, rfl, .of_heeds (self.arbitrate nofun).settle⟩
  | .pulseEnd _ => ⟨_, rfl, by split; exacts [.of_heeds (self.pulseEnds nofun _).settle, same]⟩
  | .lateDrop => ⟨_, rfl, .of_heeds self.lateDrops⟩
  | .claimLapse _ => ⟨_, rfl, by split; exacts [.of_heeds (self.claimLapses _).settle, same]⟩
  | .noteHandOver _ => ⟨_, rfl, .of_heeds (self.handOverNext nofun _).settle⟩
  | .deferTest => ⟨_, rfl, .of_heeds (self.deferTests nofun).settle⟩
  | .deferExpired => ⟨_, rfl, .of_heeds self.deferExpires⟩
  | .tollInstant _ => ⟨_, rfl, .of_heeds (self.tollStrikes nofun _).settle⟩
  | .startEnd _ => ⟨_, rfl, by split; exacts [.of_heeds (self.startEnds _).settle, same]⟩
  | .pulseDeadline _ => ⟨_, rfl, by split; exacts [.of_heeds (self.pulseMissed _).settle, same]⟩
  | .durationEnd _ => ⟨_, rfl, by split; exacts [.of_heeds (self.durationEnds _).settle, same]⟩
  | .quietReached _ => ⟨_, rfl, by split; exacts [.of_heeds (self.testRest _).settle, same]⟩
  | .stopDeadline _ => ⟨_, rfl, by split; exacts [.of_heeds (self.stopTimesOut _).settle, same]⟩
  | .settleEnd _ => ⟨_, rfl, by split; exacts [.of_heeds (self.settleEnds _).settle, same]⟩
  | .staggerEnd => ⟨_, rfl, .of_heeds self.staggerEnds.settle⟩
  | .slotEnd => ⟨_, rfl, .of_heeds self.slotEnds.settle⟩
  | .rampMove _ => ⟨_, rfl, by split; exacts [.of_heeds (self.rampMoves _).settle, same]⟩
  | .loadWaitExpiry _ => ⟨_, rfl, by split; exacts [.of_heeds (self.loadWaitExpires _).settle, same]⟩
  | .storeOpEnd _ => ⟨_, rfl, .frame (storeOpEnds_within still (by decide) _)⟩
  | .commitEnd _ => ⟨_, rfl, .frame (commitEnds_within still (by decide) _)⟩
  | .stagingAbandon => ⟨_, rfl, .frame (abandons_within still (by decide))⟩
  | .byteReceived .. => ⟨_, rfl, .ite (.frame (byteArrives_within still (by decide) _ _ _)) same⟩
  | .gapDiscard _ => ⟨_, rfl, .frame (gap_within still (by decide) _)⟩
  | .responseSent _ => ⟨_, rfl, responseGone_ends _⟩
  | .unknownRequest .. => ⟨_, rfl, .ite (.request _ _ _ (.refl _)) same⟩
  | .requestPart .. => ⟨_, rfl, .ite (.of_heeds (Heeds.part s _ _ _ fun _ => .refl _ .none)) same⟩
  | .readPage .. => ⟨_, rfl, .ite (.read _ _ _ _) same⟩
  | .readNotices .. => ⟨_, rfl, .request _ _ _ fun u => modPort_within (.refl _ u) (by decide) _ _⟩
  | .setMask .. => ⟨_, rfl, .parsed _ _ _ _ fun _ u => modPort_within (.refl _ u) (by decide) _ _⟩
  | .setRights .. => ⟨_, rfl, .parsed _ _ _ _ fun _ u => modPort_within (modPort_within (modPort_within (.refl _ u) (by decide) _ _)
      (by decide) _ _) (by decide) _ _⟩
  | .lock .. => ⟨_, rfl, .parsed _ _ _ _ fun _ u => modLink_within (.refl _ u) (by decide) _⟩
  | .restart .. => ⟨_, rfl, .request _ _ _ fun u => modPort_within (.refl _ u) (by decide) _ _⟩
  | .setTime .. => ⟨_, rfl, requestHeeds _ _ _ _ fun c u => u.ownSetTime_heeds c⟩
  | .setDst .. => ⟨_, rfl, requestHeeds _ _ _ _ fun r u => u.ownSetDst_heeds r⟩
  | .setTick .. => ⟨_, rfl, .parsed _ _ _ _ fun _ u => modTk_within (.refl _ u) (by decide) _⟩
  | .setYearRef .. => ⟨_, rfl, requestHeeds _ _ _ _ fun _ u => u.modCal_edited_heeds _⟩
  | .clearYearRef .. => ⟨_, rfl, requestHeeds _ _ _ _ fun y u => u.ownClearYearRef_heeds y⟩
  | .setEntry .. => ⟨_, rfl, requestHeeds _ _ _ _ fun _ u => u.modCal_edited_heeds _⟩
  | .setProgram .. => ⟨_, rfl, requestHeeds _ _ _ _ fun x u => u.ownSetProgram_heeds x⟩
  | .setDialConfig .. => ⟨_, rfl, .parsed _ _ _ _ fun x u => u.ownSetDialConfig_frame x⟩
  | .setDial .. => ⟨_, rfl, .parsed _ _ _ _ fun x u => u.ownSetDial_frame x⟩
  | .dialStop .. => ⟨_, rfl, .parsed _ _ _ _ fun n u => u.ownDialStop_frame n⟩
  | .dialRelease .. => ⟨_, rfl, .parsed _ _ _ _ fun n u => u.ownDialRelease_frame n⟩
  | .setBell .. => ⟨_, rfl, requestHeeds _ _ _ _ fun x u => u.ownSetBell_heeds x⟩
  | .clearFaultHammer .. => ⟨_, rfl, .ite same (.of_heeds (Heeds.request s _ _ _ fun u =>
      u.ownClearFault_heeds _ _ _ _ fun b v => v.clearHammer_heeds b))⟩
  | .clearFaultSwing .. => ⟨_, rfl, .ite (.of_heeds (Heeds.request s _ _ _ fun u =>
      u.ownClearFault_heeds _ _ _ _ fun b v => v.clearSwing_heeds b)) same⟩
  | .claim .. => ⟨_, rfl, requestHeeds _ _ _ _ fun x u => u.ownClaim_heeds _ x⟩
  | .renew .. => ⟨_, rfl, requestHeeds _ _ _ _ fun m u => u.ownRenew_heeds _ m⟩
  | .release .. => ⟨_, rfl, requestHeeds _ _ _ _ fun m u => u.ownRelease_heeds _ m⟩
  | .setClaimHold .. => ⟨_, rfl, requestHeeds _ _ _ _ fun n u => u.ownSetClaimHold_heeds _ n⟩
  | .setStrikePriority .. => ⟨_, rfl, requestHeeds _ _ _ _ fun x u => u.ownSetPriority_heeds x⟩
  | .tunePlay .. => ⟨_, rfl, .parsed _ _ _ _ fun x u => u.ownTunePlay_frame _ x⟩
  | .tuneStop .. => ⟨_, rfl, .of_heeds (Heeds.request s _ _ _ fun u => u.ownTuneStop_heeds)⟩
  | .tollStart .. => ⟨_, rfl, .parsed _ _ _ _ fun x u => u.ownTollStart_frame _ x⟩
  | .tollStop .. => ⟨_, rfl, .of_heeds (Heeds.request s _ _ _ fun u => u.ownTollStop_heeds _)⟩
  | .strike .. => ⟨_, rfl, requestHeeds _ _ _ _ fun x u => u.ownStrike_heeds nofun _ x⟩
  | .setClavier .. => ⟨_, rfl, .request _ _ _ fun u => u.ownSetClavier_frame _ _⟩
  | .readKeys .. => ⟨_, rfl, .request _ _ _ fun u => modClavier_within (.refl _ u) (by decide) _⟩
  | .swingStart .. => ⟨_, rfl, requestHeeds _ _ _ _ fun x u => u.ownSwingStart_heeds _ x⟩
  | .swingStop .. => ⟨_, rfl, requestHeeds _ _ _ _ fun m u => u.ownSwingStop_heeds m⟩
  | .setCircuit .. => ⟨_, rfl, requestHeeds _ _ _ _ fun x u => u.ownSetCircuit_heeds x⟩
  | .setPlan .. => ⟨_, rfl, .ite same (.of_heeds (Heeds.part s _ _ _ fun _ => Heeds.parsed fun x u => u.ownSetPlan_heeds x))⟩
  | .setLevel .. => ⟨_, rfl, .ite same (requestHeeds _ _ _ _ fun x u => u.ownSetLevel_heeds _ x)⟩
  | .setLevelRelease .. => ⟨_, rfl, .ite (requestHeeds _ _ _ _ fun x u => u.ownSetLevel_heeds _ x) same⟩
  | .setSolar .. => ⟨_, rfl, .ite same (.of_heeds (Heeds.part s _ _ _ fun _ => Heeds.parsed fun x u => u.ownSetSolar_heeds x))⟩
  | .setLoad .. => ⟨_, rfl, requestHeeds _ _ _ _ fun x u => u.ownSetLoad_heeds x⟩
  | .tuneBegin .. => ⟨_, rfl, .parsed _ _ _ _ fun x u => u.ownTuneBegin_frame _ x⟩
  | .tuneWrite .. => ⟨_, rfl, .request _ _ _ fun u => u.ownTuneWrite_frame _ _⟩
  | .tuneCommit .. => ⟨_, rfl, .parsed _ _ _ _ fun x u => u.ownTuneCommit_frame _ x⟩
  | .tuneInfo .. => ⟨_, rfl, .parsed _ _ _ _ fun x u => u.ownTuneInfo_frame _ x⟩
  | .getSensors .. => ⟨_, rfl, .of_heeds (s.readLatches_heeds _ _ _ _)⟩
  | .getLink .. | .getDone .. | .getRights .. | .getTime .. | .getDst .. | .getYearRef ..
  | .getEntry .. | .getEntryMap .. | .getProgram .. | .getDay .. | .calendarQuery .. | .getDials ..
  | .getBellConfig .. | .getBells .. | .getClaims .. | .getStrikes .. | .getCounters .. | .getPlayers ..
  | .getClavier .. | .getSwing .. | .getLights .. | .getLoad .. | .getSolar .. | .getPlan ..
  | .getStore .. =>
    ⟨_, rfl, .read _ _ _ _⟩

end

end State
end Sys2Proof.Machine
end

section
/-! PROOFS. The law of the strike queue (O41) and the loss counters (O42). -/

namespace Sys2Proof.Machine

/-- Settles O41: every command keeps the three laws, whatever it does to the rest of the part. -/
theorem lawOfTheStrikeQueue : Obligations.LawOfTheStrikeQueue := by
  intro s t queue hammers loads h
  unfold step at h
  split at h
  · cases h
    exact ⟨queue, hammers, loads⟩
  · rename_i c rest _
    obtain ⟨u, runs, ends⟩ := State.exec_ends c { s with pending := rest }
    rw [runs] at h
    cases h
    exact State.lawsBut_none.mp (ends.laws (State.lawsBut_none.mpr ⟨queue, hammers, loads⟩))

/-! ## The loss counters -/

namespace Losses

/-- A loss is counted under its reason, unless the counter is saturated (R97). -/
theorem read_count_same {l : Losses} {r : DropReason} (below : l.read r < 65535) : (l.count r).read r = l.read r + 1 := by
  cases r <;> exact if_pos below

/-- A loss is counted under no other reason, INTERLOCK and NO-HAMMER sharing a counter (R97). -/
theorem read_count_other (l : Losses) {r x : DropReason} (other : x ≠ r) (interlock : ¬(x = .interlock ∧ r = .noHammer))
    (noHammer : ¬(x = .noHammer ∧ r = .interlock)) : (l.count r).read x = l.read x := by
  cases r <;> cases x <;> simp_all [count, read]

end Losses

namespace State

/-- A loss below the saturation of its counter raises LOSS (R98). -/
theorem noticedAll_lose {s : State} {r : DropReason} (below : s.engine.losses.read r < 65535) : (s.lose r).noticedAll .loss := by
  rw [lose, if_pos (show s.engine.losses.read r < Config.saturation from below)]
  exact noticed_raiseAll _ .loss

end State

/-- Settles O42: what a command leaves of the losses, the nine cases of one loss, and the read of the counters. -/
theorem lossesRaiseLoss : Obligations.LossesRaiseLoss := by
  refine ⟨fun c s t r h changed => ?_, fun r s => ⟨fun below => ?_, fun full => if_neg (by rw [full]; decide)⟩, fun p s taken => ?_⟩
  · obtain ⟨u, runs, ends⟩ := State.exec_ends c s
    rw [runs] at h
    obtain rfl := Host.Outcome.next.inj h
    exact ends.losses.resolve_left fun same => changed (by rw [same])
  · have losses := State.lose_losses below
    refine ⟨by rw [losses, Losses.read_count_same below], State.noticedAll_lose below, State.lose_within (.refl _ s) (List.Subset.refl _) r, ?_⟩
    intro x other interlock noHammer
    rw [losses, Losses.read_count_other _ other interlock noHammer]
  · have row : s.check p 0x42 [0] = none := rfl
    exact congrArg Host.Outcome.next (State.read_accepted ⟨taken, row⟩ rfl rfl)

end Sys2Proof.Machine
end

section
/-! PROOFS. What the arbiter does: the entry and the slot that it takes, what a grant leaves, and the relation `Granting` from a state
to one that grants have been made in (R89 to R93). -/

namespace Sys2Proof.Machine.State

/-! ## The entry and the slot -/

theorem slot_of_freeSlot {s : State} {k : HammerSlot} (h : s.freeSlot = some k) : s.engine.slots.get k = none := by
  simpa using List.find?_some h

/-- A bell that no slot drives. -/
theorem pulsing_eq_false {s : State} {b : Bell} (h : ∀ k x, s.engine.slots.get k = some x → x.bell ≠ b) : s.pulsing b = false := by
  rw [pulsing, List.any_eq_false]
  intro x mem
  obtain ⟨k, bound, rfl⟩ := List.getElem_of_mem mem
  cases busy : s.engine.slots.rows[k] with
  | none => simp
  | some y => simpa using h ⟨k, bound.trans_eq s.engine.slots.len⟩ y busy

theorem bell_ne_of_not_pulsing {s : State} {b : Bell} (h : s.pulsing b = false) {k : HammerSlot} {x : BusySlot}
    (busy : s.engine.slots.get k = some x) : x.bell ≠ b := by
  rintro rfl
  rw [pulsing_of_slot busy] at h
  cases h

/-- The better of the entry that is best so far and another (R90). -/
def better (s : State) (best : Option QueueEntry) (x : QueueEntry) : Option QueueEntry :=
  match best with
  | none => some x
  | some y => if s.prefers x y then some x else some y

theorem choose_eq (s : State) : s.choose = (s.engine.queue.filter s.eligible).foldl s.better none := rfl

theorem better_eq (s : State) (best : Option QueueEntry) (x : QueueEntry) : s.better best x = some x ∨ s.better best x = best := by
  cases best with
  | none => exact .inl rfl
  | some y => exact (ite_eq_or_eq _ _ _)

/-- The entry that the arbiter chooses is queued and eligible. -/
theorem eligible_of_choose {s : State} {e : QueueEntry} (h : s.choose = some e) : e ∈ s.engine.queue ∧ s.eligible e = true := by
  rw [← List.mem_filter]
  have chosen : ∀ x, s.choose = some x → x ∈ s.engine.queue.filter s.eligible := by
    rw [choose_eq]
    refine List.foldlRecOn (motive := fun best => ∀ x, best = some x → x ∈ s.engine.queue.filter s.eligible) _ s.better nofun ?_
    intro best known y mem x same
    rcases s.better_eq best y with takes | stays
    · rw [takes] at same
      exact Option.some.inj same ▸ mem
    · exact known x (stays.symm.trans same)
  exact chosen e h

/-! ## A grant -/

/-- The pulse that a grant of an entry begins (R93). -/
def pulseFor (s : State) (e : QueueEntry) : BusySlot :=
  { bell := e.bell, source := e.source, port := e.port, cls := e.cls, onset := s.now + (s.config e.bell).lead
    ends := s.now + s.pulseWidth e.bell e.cls }

section

variable (s : State) (k : HammerSlot) (e : QueueEntry)

/-- The state once the slot has been taken and the onset recorded, before the claim and the requester hear of it. -/
def struck (s : State) (k : HammerSlot) (e : QueueEntry) : State :=
  (s.modEngine fun g => { g with queue := g.queue.erase e, rotation := e.bell, slots := g.slots.set k (some (s.pulseFor e)) }).modBell
    e.bell fun r => { r with lastOnset := some (s.now + (s.config e.bell).lead) }

/-- The claim and the requester hear of a grant. -/
theorem grant_frame : (s.struck k e).changesOnly [.claims, .players, .clavier, .link] (s.grant k e) :=
  endOutcome_within (renewByGrant_within (.refl _ _) (by decide) _ _) (by decide) _ _

theorem grant_bells : (s.grant k e).bells =
    (s.modBell e.bell fun r => { r with lastOnset := some (s.now + (s.config e.bell).lead) }).bells :=
  s.grant_frame k e .bells (by decide)

theorem bell_grant (b : Bell) : (s.grant k e).bell b =
    if b = e.bell then { s.bell b with lastOnset := some (s.now + (s.config e.bell).lead) } else s.bell b := by
  refine (congrArg (fun t : BellTable => t.bells.get b) (s.grant_bells k e)).trans ((bell_modBell ..).trans ?_)
  split
  · rename_i here
    rw [here]
  · rfl

theorem grant_engine : (s.grant k e).engine =
    { s.engine with queue := s.engine.queue.erase e, rotation := e.bell, slots := s.engine.slots.set k (some (s.pulseFor e)) } :=
  s.grant_frame k e .engine (by decide)

theorem grant_slots : (s.grant k e).engine.slots = s.engine.slots.set k (some (s.pulseFor e)) := by
  rw [grant_engine]

/-- A grant takes an entry of its owner's port as a renewal of a CHIME claim (R73). -/
theorem claim_grant (b : Bell) : (s.grant k e).claim b =
    if b = e.bell then (s.claim b).map fun c =>
      if c.kind = .chime ∧ e.port = some c.owner then { c with expiry := some (s.now + s.claims.hold.get c.owner * 15360) } else c
    else s.claim b := by
  have told : (s.grant k e).claims = ((s.struck k e).renewByGrant e.bell e.port).claims :=
    endOutcome_within (.refl _ _) (List.Subset.refl _) _ _ .claims (by decide)
  refine (congrArg (fun x : Claims => x.recs.get b) told).trans ?_
  change ((s.struck k e).renewByGrant e.bell e.port).claim b = _
  have before : (s.struck k e).claim b = s.claim b := rfl
  unfold renewByGrant
  split
  · rename_i c held
    have mine : s.claim e.bell = some c := held
    split
    · rename_i owner
      rw [claim_setClaim]
      split
      · rename_i here
        rw [here, mine, Option.map_some, if_pos owner]
        rfl
      · exact before
    · rename_i other
      split
      · rename_i here
        rw [before, here, mine, Option.map_some, if_neg other]
      · exact before
  · rename_i held
    have none : s.claim e.bell = none := held
    split
    · rename_i here
      rw [before, here, none, Option.map_none]
    · exact before

/-- A grant changes who may strike no bell (R67, R73). -/
theorem claimAllows_grant (b : Bell) (p : Option Port) : claimAllows ((s.grant k e).claim b) p = claimAllows (s.claim b) p := by
  rw [claim_grant]
  split
  · cases s.claim b with
    | none => rfl
    | some c =>
      rw [Option.map_some]
      split <;> rfl
  · rfl

end

end Sys2Proof.Machine.State
end

section
/-! PROOFS. The relations `Steady`, from a state to one in which a grant finds what it found before, and `Granting`, to one in which
grants have been made too (R88, R92, R93). -/

namespace Sys2Proof.Machine

/-- What the grant of a pulse found in `s`, and the pulse it began (R65, R92, R93). -/
structure State.Begun (s : State) (x : BusySlot) : Prop where
  idle : s.swingState x.bell = .idle
  ready : (s.bell x.bell).hammer = some .ready
  home : (s.bell x.bell).home.state = some true
  unlocked : s.lockedOut = false
  allowed : claimAllows (s.claim x.bell) x.port = true
  recovered : ∀ l, (s.bell x.bell).lastOnset = some l → l + (s.config x.bell).recovery ≤ x.onset
  ends : x.ends = s.now + s.pulseWidth x.bell x.cls

namespace State

/-- All that a grant asks of the state is as it was, save that a hammer may be READY no more. -/
structure Steady (s t : State) : Prop where
  now : t.now = s.now
  lockout : t.bells.lockout = s.bells.lockout
  swing : ∀ b, t.swingState b = s.swingState b
  claims : ∀ b p, claimAllows (t.claim b) p = claimAllows (s.claim b) p
  config : ∀ b, t.config b = s.config b
  home : ∀ b, (t.bell b).home = (s.bell b).home
  ready : ∀ b, (t.bell b).hammer = some .ready → (s.bell b).hammer = some .ready
  slots : t.engine.slots = s.engine.slots
  onsets : ∀ b, (t.bell b).lastOnset = (s.bell b).lastOnset

namespace Steady

variable {s t u : State}

theorem refl (s : State) : s.Steady s :=
  ⟨rfl, rfl, fun _ => rfl, fun _ _ => rfl, fun _ => rfl, fun _ => rfl, fun _ => id, rfl, fun _ => rfl⟩

theorem trans (h : s.Steady t) (g : t.Steady u) : s.Steady u where
  now := g.now.trans h.now
  lockout := g.lockout.trans h.lockout
  swing b := (g.swing b).trans (h.swing b)
  claims b p := (g.claims b p).trans (h.claims b p)
  config b := (g.config b).trans (h.config b)
  home b := (g.home b).trans (h.home b)
  ready b x := h.ready b (g.ready b x)
  slots := g.slots.trans h.slots
  onsets b := (g.onsets b).trans (h.onsets b)

theorem ite {c : Prop} [Decidable c] (h : s.Steady t) (g : s.Steady u) : s.Steady (if c then t else u) := by split <;> assumption

theorem foldl {f : State → α → State} (h : s.Steady t) (hf : ∀ u a, s.Steady u → s.Steady (f u a)) (as : List α) :
    s.Steady (as.foldl f t) :=
  List.foldlRecOn (motive := s.Steady) as f h fun u g a _ => hf u a g

/-- The blocks that a grant asks nothing of. -/
abbrev offGrants : List Block := [.pending, .power, .calendar, .dials, .players, .clavier, .lights, .load, .link, .store, .signals]

/-- An operation that changes no more than these blocks and the queue and the counters of the strike engine. -/
theorem engine (h : s.Steady t) (only : t.changesOnly (.engine :: offGrants) u) (slots : u.engine.slots = t.engine.slots) :
    s.Steady u := by
  have tk : u.tk = t.tk := only .timekeeper (by decide)
  have bells : u.bells = t.bells := only .bells (by decide)
  have claims : u.claims = t.claims := only .claims (by decide)
  have swing : u.swing = t.swing := only .swing (by decide)
  have record (b : Bell) : u.bell b = t.bell b := congrArg (fun x : BellTable => x.bells.get b) bells
  refine h.trans ⟨congrArg Timekeeper.runCount tk, congrArg BellTable.lockout bells, fun b => ?_, fun b p => ?_, fun b => ?_,
    fun b => by rw [record], fun b => by rw [record]; exact id, slots, fun b => by rw [record]⟩
  · exact congrArg (fun w : Swing => (w.recs.get b).state) swing
  · exact congrArg (fun x : Claims => claimAllows (x.recs.get b) p) claims
  · exact congrArg BellRec.config (record b)

theorem frame (h : s.Steady t) (only : t.changesOnly offGrants u) : s.Steady u :=
  h.engine (only.mono (by decide)) (congrArg Engine.slots (only .engine (by decide)))

/-- One bell's record changes: not what a grant asks of it, save that its hammer may be READY no more. -/
theorem modBell (h : s.Steady t) (b : Bell) {f : BellRec → BellRec} (config : (f (t.bell b)).config = (t.bell b).config)
    (home : (f (t.bell b)).home = (t.bell b).home) (onset : (f (t.bell b)).lastOnset = (t.bell b).lastOnset)
    (ready : (f (t.bell b)).hammer = some .ready → (t.bell b).hammer = some .ready) : s.Steady (t.modBell b f) := by
  have record {P : BellRec → BellRec → Prop} (same : ∀ r, P r r) (new : P (f (t.bell b)) (t.bell b)) (k : Bell) :
      P ((t.modBell b f).bell k) (t.bell k) := by
    rw [bell_modBell]
    split
    · rename_i here
      exact here ▸ new
    · exact same _
  exact h.trans ⟨rfl, rfl, fun _ => rfl, fun _ _ => rfl, record (P := fun x y => x.config = y.config) (fun _ => rfl) config,
    record (P := fun x y => x.home = y.home) (fun _ => rfl) home,
    record (P := fun x y => x.hammer = some .ready → y.hammer = some .ready) (fun _ => id) ready, rfl,
    record (P := fun x y => x.lastOnset = y.lastOnset) (fun _ => rfl) onset⟩

theorem lose (h : s.Steady t) (r : DropReason) : s.Steady (t.lose r) :=
  h.engine (lose_within (.refl _ t) (by decide) r) (t.lose_slots r)

theorem dropEntry (h : s.Steady t) (e : QueueEntry) (r : DropReason) : s.Steady (t.dropEntry e r) :=
  h.engine (dropEntry_within (.refl _ t) (by decide) e r) (t.dropEntry_slots e r)

theorem plan (h : s.Steady t) (r : StrikeRequest) : s.Steady (t.plan r) := by
  unfold State.plan
  split
  · exact h.lose _
  · exact (h.engine (modEngine_within (.refl _ t) (by decide) _) rfl).modBell _ rfl rfl rfl id

/-- A hammer that goes over to a state, READY only where it was READY (R55 to R61). -/
theorem takes (h : s.Steady t) {b : Bell} {x : Hammer} {cause : Option HammerCause} (g : HammerTakes b x cause t u)
    (ready : x = .ready → (t.bell b).hammer = some .ready) : s.Steady u := by
  obtain ⟨only, acts, record, -, -, -⟩ := g
  have at_ {P : BellRec → BellRec → Prop} (same : ∀ r, P r r) (new : P (u.bell b) (t.bell b)) (k : Bell) : P (u.bell k) (t.bell k) := by
    by_cases here : k = b
    · exact here ▸ new
    · rw [acts.bells k here]
      exact same _
  refine h.trans ⟨congrArg Timekeeper.runCount acts.tk, acts.lockout, fun k => ?_, fun k p => ?_,
    at_ (P := fun x y => x.config = y.config) (fun _ => rfl) (by rw [record]),
    at_ (P := fun x y => x.home = y.home) (fun _ => rfl) (by rw [record]),
    at_ (P := fun x y => x.hammer = some .ready → y.hammer = some .ready) (fun _ => id) ?_, acts.slots,
    at_ (P := fun x y => x.lastOnset = y.lastOnset) (fun _ => rfl) (by rw [record])⟩
  · exact congrArg (fun w : Swing => (w.recs.get k).state) (only .swing (by decide))
  · exact congrArg (fun x : Claims => claimAllows (x.recs.get k) p) (only .claims (by decide))
  · rw [record]
    exact fun same => ready (Option.some.inj same)

/-- A park that had to wait for the end of a pulse begins (R55). -/
theorem pulseEnded (h : s.Steady t) (b : Bell) : s.Steady (t.pulseEnded b) := by
  unfold State.pulseEnded
  split
  · rename_i waits
    simp only [Bool.and_eq_true, beq_iff_eq] at waits
    exact h.takes (t.enterParking_entered b) fun _ => waits.1.2
  · exact h

end Steady

/-- The state in which slot `k` is FREE again. -/
def freed (k : HammerSlot) (s : State) : State := s.modEngine fun g => { g with slots := g.slots.set k none }

/-- From `s` to `t` grants have been made, each of which found what it asks for in `s` already, and a pulse may have ended. -/
structure Granting (s t : State) : Prop where
  now : t.now = s.now
  lockout : t.bells.lockout = s.bells.lockout
  swing : ∀ b, t.swingState b = s.swingState b
  claims : ∀ b p, claimAllows (t.claim b) p = claimAllows (s.claim b) p
  config : ∀ b, t.config b = s.config b
  home : ∀ b, (t.bell b).home = (s.bell b).home
  ready : ∀ b, (t.bell b).hammer = some .ready → (s.bell b).hammer = some .ready
  onsets : ∀ b, t.pulsing b = false → (t.bell b).lastOnset = (s.bell b).lastOnset
  pulses : ∀ k x, t.engine.slots.get k = some x →
    s.engine.slots.get k = some x ∨ s.Begun x ∧ (t.bell x.bell).lastOnset = some x.onset
  driver : s.driverLaw → t.driverLaw

namespace Granting

variable {s t u : State}

theorem of_steady (h : s.Steady t) : s.Granting t where
  now := h.now
  lockout := h.lockout
  swing := h.swing
  claims := h.claims
  config := h.config
  home := h.home
  ready := h.ready
  onsets b _ := h.onsets b
  pulses k x busy := .inl (h.slots ▸ busy)
  driver law := by rw [driverLaw, h.slots]; exact law

theorem steady (h : s.Granting t) (g : t.Steady u) : s.Granting u where
  now := g.now.trans h.now
  lockout := g.lockout.trans h.lockout
  swing b := (g.swing b).trans (h.swing b)
  claims b p := (g.claims b p).trans (h.claims b p)
  config b := (g.config b).trans (h.config b)
  home b := (g.home b).trans (h.home b)
  ready b x := h.ready b (g.ready b x)
  onsets b still := (g.onsets b).trans (h.onsets b (by rwa [State.pulsing, g.slots] at still))
  pulses k x busy := by
    rw [g.slots] at busy
    rw [g.onsets]
    exact h.pulses k x busy
  driver law := by rw [driverLaw, g.slots]; exact h.driver law

/-- A pulse that ends frees its slot, and its bell may park (R94). -/
theorem freed (s : State) (k : HammerSlot) : s.Granting (s.freed k) := by
  have left {j : HammerSlot} {x : BusySlot} (busy : (s.engine.slots.set k none).get j = some x) : s.engine.slots.get j = some x := by
    rw [Table.get_set] at busy
    split at busy
    · cases busy
    · exact busy
  exact ⟨rfl, rfl, fun _ => rfl, fun _ _ => rfl, fun _ => rfl, fun _ => rfl, fun _ => id, fun _ _ => rfl, fun _ _ busy => .inl (left busy),
    fun law i j x y hi hj => law i j x y (left hi) (left hj)⟩

/-- What a grant finds, it found in `s`. -/
theorem begun (h : s.Granting t) {e : QueueEntry} (available : t.availability e.port e.bell = none)
    (home : (t.bell e.bell).home.state = some true) (still : t.pulsing e.bell = false) (recovered : t.unrecovered e.bell = false) :
    s.Begun (t.pulseFor e) := by
  obtain ⟨ready, unlocked, idle, allowed⟩ := strikable_of_available available
  refine ⟨(h.swing _).symm.trans idle, h.ready _ ready, ?_, ?_, (h.claims _ _).symm.trans allowed, fun l struck => ?_, ?_⟩
  · rw [← h.home]
    exact home
  · rw [lockedOut, ← h.lockout]
    exact unlocked
  · have onset : (t.bell e.bell).lastOnset = some l := (h.onsets _ still).trans struck
    rw [unrecovered, onset] at recovered
    rw [← h.config]
    exact Nat.le_of_not_lt (of_decide_eq_false recovered)
  · rw [← h.now, pulseWidth, ← h.config]
    rfl

/-- A grant begins one pulse, on a bell that had none (R88, R93). -/
theorem grant (h : s.Granting t) {k : HammerSlot} {e : QueueEntry} (free : t.engine.slots.get k = none) (still : t.pulsing e.bell = false)
    (begun : s.Begun (t.pulseFor e)) : s.Granting (t.grant k e) := by
  have frame := (grant_within (.refl _ t) (List.Subset.refl _) k e)
  have slots := t.grant_slots k e
  have get (j : HammerSlot) : (t.grant k e).engine.slots.get j = if j = k then some (t.pulseFor e) else t.engine.slots.get j := by
    rw [slots, Table.get_set]
  have bells (b : Bell) : (t.grant k e).bell b = if b = e.bell then _ else t.bell b := t.bell_grant k e b
  have other {b : Bell} (away : b ≠ e.bell) : (t.grant k e).bell b = t.bell b := (bells b).trans (if_neg away)
  have kept {α : Type} (f : BellRec → α) (same : ∀ r o, f { r with lastOnset := o } = f r) (b : Bell) :
      f ((t.grant k e).bell b) = f (t.bell b) := by
    rw [bells]
    split
    · exact same _ _
    · rfl
  have earlier {j : HammerSlot} (away : j ≠ k) : (t.grant k e).engine.slots.get j = t.engine.slots.get j := (get j).trans (if_neg away)
  have new : (t.grant k e).engine.slots.get k = some (t.pulseFor e) := (get k).trans (if_pos rfl)
  refine ⟨(congrArg Timekeeper.runCount (frame .timekeeper (by decide))).trans h.now, ?_, fun b => ?_, fun b p => ?_, fun b => ?_,
    fun b => ?_, fun b => ?_, fun b quiet => ?_, fun j x busy => ?_, fun law i j x y hi hj same => ?_⟩
  · exact (congrArg BellTable.lockout (t.grant_bells k e)).trans h.lockout
  · exact (congrArg (fun w : Swing => (w.recs.get b).state) (frame .swing (by decide))).trans (h.swing b)
  · exact (t.claimAllows_grant k e b p).trans (h.claims b p)
  · exact (kept BellRec.config (fun _ _ => rfl) b).trans (h.config b)
  · exact (kept BellRec.home (fun _ _ => rfl) b).trans (h.home b)
  · rw [kept BellRec.hammer (fun _ _ => rfl)]
    exact h.ready b
  · have away : b ≠ e.bell := fun here => bell_ne_of_not_pulsing quiet new here.symm
    rw [other away]
    refine h.onsets b (pulsing_eq_false fun j x busy => bell_ne_of_not_pulsing quiet (k := j) ?_)
    rwa [earlier]
    rintro rfl
    rw [free] at busy
    cases busy
  · by_cases here : j = k
    · subst here
      obtain rfl := Option.some.inj (new.symm.trans busy)
      refine .inr ⟨begun, ?_⟩
      rw [bells]
      exact congrArg BellRec.lastOnset (if_pos rfl)
    · rw [earlier here] at busy
      rw [other (bell_ne_of_not_pulsing still busy)]
      exact h.pulses j x busy
  · by_cases first : i = k <;> by_cases second : j = k
    · rw [first, second]
    · rw [first, new] at hi
      rw [earlier second] at hj
      exact absurd (same.symm.trans (congrArg BusySlot.bell (Option.some.inj hi)).symm) (bell_ne_of_not_pulsing still hj)
    · rw [earlier first] at hi
      rw [second, new] at hj
      exact absurd (same.trans (congrArg BusySlot.bell (Option.some.inj hj)).symm) (bell_ne_of_not_pulsing still hi)
    · rw [earlier first] at hi
      rw [earlier second] at hj
      exact h.driver law i j x y hi hj same

/-- An attempt grants the entry, or drops it and may fault the hammer (R92). -/
theorem attempt (h : s.Granting t) {k : HammerSlot} {e : QueueEntry} (free : t.freeSlot = some k) (eligible : t.eligible e = true) :
    s.Granting (t.attempt k e) := by
  simp only [State.eligible, waits, Bool.and_eq_true, Bool.not_eq_true', Bool.or_eq_false_iff] at eligible
  obtain ⟨-, still, recovered⟩ := eligible
  unfold State.attempt
  split
  · exact h.steady ((Steady.refl t).dropEntry ..)
  rename_i available
  split
  · exact h.steady (((Steady.refl t).dropEntry ..).takes (faultHammer_takes ..) nofun)
  · rename_i home
    exact h.grant (slot_of_freeSlot free) still (h.begun available (not_not.mp home) still recovered)

theorem arbitrateFor (h : s.Granting t) (n : Nat) : s.Granting (t.arbitrateFor n) := by
  induction n generalizing t with
  | zero => exact h
  | succ n ih =>
    unfold State.arbitrateFor
    split
    · rename_i free chosen
      exact ih (h.attempt free (eligible_of_choose chosen).2)
    · exact h

theorem arbitrate (h : s.Granting t) : s.Granting t.arbitrate := h.arbitrateFor _

end Granting
end State
end Sys2Proof.Machine
end

section
/-! PROOFS. The commands with which the arbiter acts, the law of recovery (O39) and the law of the hammer line (O40). -/

namespace Sys2Proof.Machine

namespace State

variable {s t u : State}

/-! ## Up to the grants, and to the end of the event -/

namespace Granting

theorem handQuarter (h : s.Steady t) : s.Granting t.handQuarter := by
  unfold State.handQuarter
  split
  · dsimp only
    split
    · split
      · exact arbitrate (of_steady ((h.plan _).frame
          (advanceQuarter_within (modPlayers_within (.refl _ _) (by decide) _) (by decide))))
      · exact of_steady h
    · exact of_steady h
  · exact of_steady h

theorem handBlow (h : s.Steady t) (r : HourRun) : s.Granting (t.handBlow r) := by
  unfold State.handBlow
  dsimp only
  split
  · exact arbitrate (of_steady ((h.plan _).frame
      (hourOutcome_within (modPlayers_within (.refl _ _) (by decide) _) (by decide) _ _ _)))
  · exact arbitrate (of_steady ((h.plan _).frame (modPlayers_within (.refl _ _) (by decide) _)))

theorem handHour (h : s.Steady t) : s.Granting t.handHour := by
  unfold State.handHour
  split
  · split
    · exact handBlow h _
    · exact of_steady h
  · exact of_steady h

theorem deferTests (h : s.Steady t) : s.Granting t.deferTests := by
  unfold State.deferTests
  split
  · split
    · split
      · exact handBlow h _
      · exact of_steady (h.frame (modPlayers_within (.refl _ _) (by decide) _))
    · exact of_steady h
  · exact of_steady h

theorem handTune (h : s.Steady t) : s.Granting t.handTune := by
  unfold State.handTune
  split
  · split
    · split
      · exact arbitrate (of_steady ((h.plan _).frame
          (advanceRequest_within (modPlayers_within (.refl _ _) (by decide) _) (by decide))))
      · exact of_steady h
    · exact of_steady h
  · exact of_steady h

theorem testFourthQuarter (h : s.Steady t) : s.Steady t.testFourthQuarter := by
  have forgotten (r : QuarterRun) : s.Steady ((t.modPlayers fun y => { y with quarterRun := none }).chimeNotHeld r.quarter) :=
    have without := h.frame (modPlayers_within (.refl _ t) (by decide) fun y => { y with quarterRun := none })
    .ite without (without.lose _)
  unfold State.testFourthQuarter
  split
  · exact .ite h (.ite (h.frame (advanceQuarter_within (modPlayers_within (.refl _ _) (by decide) _) (by decide))) (forgotten _))
  · exact h

theorem handOverNext (h : s.Steady t) (k : RunKind) : s.Granting (t.handOverNext k) := by
  cases k with
  | quarter => exact handQuarter (testFourthQuarter h)
  | hour => exact handHour h
  | request => exact handTune h

theorem tollStrikes (h : s.Steady t) (p : Port) : s.Granting (t.tollStrikes p) := by
  unfold State.tollStrikes
  split
  · split
    · exact arbitrate (of_steady ((h.plan _).frame
        (completeToll_within (modToll_within (.refl _ _) (by decide) _ _) (by decide) _)))
    · exact of_steady h
  · exact of_steady h

theorem pulseEnds (s : State) (k : HammerSlot) : s.Granting (s.pulseEnds k) := by
  unfold State.pulseEnds
  split
  · split
    · exact ((freed s k).steady ((Steady.refl _).pulseEnded _)).arbitrate
    · exact of_steady (.refl s)
  · exact of_steady (.refl s)

end Granting

/-! ## The clavier -/

namespace Steady

theorem modClavier (h : s.Steady t) (f : Clavier → Clavier) : s.Steady (t.modClavier f) :=
  h.frame (modClavier_within (.refl _ t) (by decide) f)

theorem setCondition (h : s.Steady t) (k : Fin 32) (x : KeyCondition) : s.Steady (t.setCondition k x) :=
  h.frame (setCondition_within (.refl _ t) (by decide) k x)

theorem bellKey (h : s.Steady t) (b : Bell) : s.Steady (t.bellKey b) := by
  unfold State.bellKey
  exact (h.plan _).modClavier _

theorem register (h : s.Steady t) (k : Fin 32) : s.Steady (t.register k) := by
  have set := h.setCondition k .registered
  unfold State.register
  dsimp only
  split
  · exact set.bellKey _
  · exact set.frame (functionKey_within (.refl _ _) (by decide) _)

theorem lockoutArbiter (h : s.Steady t) (closed opened : List (Fin 32)) : s.Steady (t.lockoutArbiter closed opened) := by
  have all {v : State} (g : s.Steady v) (x : KeyCondition) (l : List (Fin 32)) :
      s.Steady (l.foldl (fun s k => State.setCondition k x s) v) := g.foldl (fun _ _ c => c.setCondition ..) _
  have put {v : State} (g : s.Steady v) (x : Arbiter) : s.Steady (v.modClavier fun c => { c with arbiter := x }) := g.modClavier _
  unfold State.lockoutArbiter
  dsimp only
  split
  · split
    · exact h
    · exact (put h _).register _
    · exact put (all h _ _) _
  · split
    · exact put (all h _ _) _
    · exact all h _ _
  · split
    · exact put (all h _ _) _
    · exact (put (all h _ _) _).register _
    · exact put (all h _ _) _

end Steady

/-- What a command makes of the pulses: each that it begins found what it asks for, and its onset is the bell's last struck one;
and no bell gets a second pulse. -/
structure Strikes (s t : State) : Prop where
  pulses : ∀ k x, t.engine.slots.get k = some x →
    s.engine.slots.get k = some x ∨ s.Begun x ∧ t.now = s.now ∧ (t.bell x.bell).lastOnset = some x.onset
  driver : s.driverLaw → t.driverLaw

namespace Strikes

/-- Grants are made, and what follows in the same event begins no pulse and changes no onset. -/
theorem of_granting (h : s.Granting t) (g : t.Heeds True .none u) (now : u.now = t.now) : s.Strikes u where
  pulses k x busy := by
    rw [g.slots trivial] at busy
    refine (h.pulses k x busy).imp_right fun ⟨begun, onset⟩ => ⟨begun, now.trans h.now, ?_⟩
    exact (congrArg Prod.fst (g.onsets trivial x.bell)).trans onset
  driver law := by rw [driverLaw, g.slots trivial]; exact h.driver law

theorem settle (h : s.Granting t) : s.Strikes t.settle :=
  of_granting h (.settle (.refl True .none t)) (congrArg Timekeeper.runCount t.settle_tk)

theorem refl (s : State) : s.Strikes s := of_granting (.of_steady (.refl s)) (.refl True .none s) rfl

/-- A command with which no arbiter acts begins no pulse. -/
theorem of_ends {quiet : Prop} (h : s.Ends quiet t) (q : quiet) : s.Strikes t := by
  rcases h.slots q with same | cleared
  · exact ⟨fun k x busy => .inl (same ▸ busy), fun law => by rw [driverLaw, same]; exact law⟩
  · refine ⟨fun k x busy => ?_, fun _ j k x y busy => ?_⟩
    all_goals
      rw [cleared] at busy
      cases busy

/-- ALL-STOP may follow the grants of a scan, and purges what they left queued (R131). -/
theorem scanClavier (s : State) (keys : BitVec 32) (pedal : Bool) : s.Strikes (s.scanClavier keys pedal).settle := by
  unfold State.scanClavier
  extract_lets before sampled was is closed opened registered arbitrated
  have sampled' : s.Steady sampled := (Steady.refl s).modClavier _
  have registered' : s.Steady registered := by
    unfold registered
    split
    · exact sampled'.foldl (fun _ k c => c.register k) _
    · exact sampled'.lockoutArbiter ..
  have arbitrated' : s.Granting arbitrated := by
    unfold arbitrated
    split
    · exact .of_steady registered'
    · exact (Granting.of_steady registered').arbitrate
  split
  · have stopped : arbitrated.allStop.tk = arbitrated.tk := allStop_within (.refl _ _) (List.Subset.refl _) .timekeeper (by decide)
    exact of_granting arbitrated' (Heeds.refl True .none _).allStop.settle
      ((congrArg Timekeeper.runCount (settle_tk _)).trans (congrArg Timekeeper.runCount stopped))
  · exact settle arbitrated'

/-- STRIKE lets the arbiter act as its answer is given (R118). -/
theorem strike (s : State) (p : Port) (l : List Byte) :
    s.Strikes (s.request p 0x4C l (parsed rStrike l (ownStrike p))) := by
  have taken : s.Steady (s.takeFrame p false false) := (Steady.refl s).frame (takeFrame_within (.refl _ s) (by decide) p false false)
  have answered {a : Answer} (h : s.Steady a.state) : s.Strikes (respond p 0x4C a) :=
    of_granting (.of_steady h) (.respond p 0x4C (.refl True .none _)) rfl
  unfold request
  dsimp only
  split
  · split
    · exact answered taken
    · unfold parsed
      split
      · exact of_granting (.arbitrate (.of_steady (taken.plan _))) (.respond p 0x4C (.settle (.refl True .none _)))
          (congrArg Timekeeper.runCount (settle_tk _))
      · exact answered taken
  · exact refl s

end Strikes

/-- Every command begins pulses by grants alone. -/
theorem exec_strikes (c : Instr) (s : State) : ∃ t, exec c s = .next t ∧ s.Strikes t := by
  by_cases quiet : arbitrates c = false
  · obtain ⟨t, runs, ends⟩ := exec_ends c s
    exact ⟨t, runs, .of_ends ends quiet⟩
  have self := Steady.refl s
  exact match c, quiet with
  | .entryDue, _ => ⟨_, rfl, .settle (.arbitrate (.of_steady self))⟩
  | .waitRecoveryMet, _ => ⟨_, rfl, .settle (.arbitrate (.of_steady self))⟩
  | .pulseEnd _, _ => ⟨_, rfl, by split; exacts [.settle (.pulseEnds s _), .refl s]⟩
  | .noteHandOver _, _ => ⟨_, rfl, .settle (.handOverNext self _)⟩
  | .deferTest, _ => ⟨_, rfl, .settle (.deferTests self)⟩
  | .tollInstant _, _ => ⟨_, rfl, .settle (.tollStrikes self _)⟩
  | .clavierScan .., _ => ⟨_, rfl, by split; exacts [.scanClavier s _ _, .refl s]⟩
  | .strike .., _ => ⟨_, rfl, .strike s _ _⟩

end State

/-- A legal width lasts from 2 to 64 ticks (R46). -/
theorem BellConfig.width_of_legal {c : BellConfig} (h : c.legal = true) (i : Fin 4) : 2 ≤ c.widths.get i ∧ c.widths.get i ≤ 64 := by
  simp only [legal, Bool.and_eq_true, List.all_eq_true, decide_eq_true_eq, and_assoc] at h
  obtain ⟨-, -, -, widths, -⟩ := h
  exact widths _ (List.getElem_mem _)

/-- Settles O39: a pulse begins by a grant, which waits for the recovery and records the onset. -/
theorem lawOfRecovery : Obligations.LawOfRecovery := by
  intro c s t k x h busy new
  obtain ⟨u, runs, strikes⟩ := State.exec_strikes c s
  rw [runs] at h
  obtain rfl := Host.Outcome.next.inj h
  obtain ⟨begun, -, onset⟩ := (strikes.pulses k x busy).resolve_left new
  exact ⟨begun.recovered, onset⟩

/-- Settles O40: a pulse begins by a grant, which finds all that R65 and R92 ask for, on a bell that no slot drives. -/
theorem lawOfTheHammerLine : Obligations.LawOfTheHammerLine := by
  intro c s t h legal driver
  obtain ⟨u, runs, strikes⟩ := State.exec_strikes c s
  rw [runs] at h
  obtain rfl := Host.Outcome.next.inj h
  refine ⟨fun k x busy new => ?_, strikes.driver driver⟩
  obtain ⟨begun, now, -⟩ := (strikes.pulses k x busy).resolve_left new
  obtain ⟨idle, ready, home, unlocked, allowed, -, ends⟩ := begun
  obtain ⟨least, most⟩ : 2 ≤ s.pulseWidth x.bell x.cls ∧ s.pulseWidth x.bell x.cls ≤ 64 := BellConfig.width_of_legal (legal x.bell) _
  exact ⟨idle, ready, home, unlocked, allowed, now, by omega, by omega, State.pulsing_of_slot busy⟩

end Sys2Proof.Machine
end

section
/-! PROOFS. The end of a pulse and the LATE drop (O38). -/

namespace Sys2Proof.Machine

namespace State

variable {s t : State} {b : Bell}

/-! ## A hammer that parks -/

/-- The hammer of bell `b` stands in PARKING. -/
def Parks (b : Bell) (s : State) : Prop := (s.bell b).hammer = some .parking

namespace Parks

theorem of_bell (h : Parks b s) (same : t.bell b = s.bell b) : Parks b t := by
  rw [Parks, same]
  exact h

theorem setSwing (h : Parks b s) (f : SwingRec → SwingRec) (quiet : Bool) : Parks b (s.setSwing b f quiet) := by
  rw [Parks, bell_setSwing (.inl (by simp [show (s.bell b).hammer = some .parking from h]))]
  exact h

theorem swingFaults (h : Parks b s) (x : SwingFault) : Parks b (s.swingFaults b x) := by
  have left : Parks b (s.leaveLoadQueue b) := h.of_bell (congrArg (fun t : BellTable => t.bells.get b) (leaveLoadQueue_bells s b))
  rw [swingFaults_eq]
  exact (left.setSwing _ false).of_bell (bell_raiseAll ..)

/-- The rest of an event leaves a hammer in PARKING: no swing state takes its demands away at once. -/
theorem kept : KeptBySignals b (Parks b) where
  away other acts p := p.of_bell (acts.bells b other.symm)
  reported {s} p := by
    have parks : (s.bell b).hammer = some .parking := p
    unfold hammerReported
    rw [parks]
    split
    · rename_i parked
      cases parked
    · exact p.swingFaults _
    · exact p.swingFaults _
    · exact p.swingFaults _
    · exact p.swingFaults _
    · exact p
  starts := .inr fun _ p => p.setSwing ..
  parks := .inr fun s origin minutes p => by
    unfold toParking
    have purged (u : State) : (u.purge (fun e => e.bell == b) .interlock).bell b = u.bell b :=
      congrArg (fun t : BellTable => t.bells.get b) (purge_within (changesOnly.refl _ u) (List.Subset.refl _) _ _ .bells (by decide))
    dsimp only
    split <;> exact (p.setSwing _ false).of_bell (purged _)

end Parks

/-! ## The end of a pulse -/

theorem hammerSlotOf_succ (k : HammerSlot) : hammerSlotOf? (k.val + 1) = some k := by
  simp [hammerSlotOf?]

theorem exec_pulseEnd (s : State) (k : HammerSlot) : exec (.pulseEnd (k.val + 1)) s = .next (s.pulseEnds k).settle := by
  change Host.Outcome.next (match hammerSlotOf? (k.val + 1) with
    | some k => (s.pulseEnds k).settle
    | none => s) = _
  rw [hammerSlotOf_succ]

section

variable {k : HammerSlot} {x : BusySlot} (busy : s.engine.slots.get k = some x)
include busy

theorem pulseEnds_early (early : s.now < x.ends) : s.pulseEnds k = s := by
  simp only [pulseEnds, busy]
  exact if_neg (Nat.not_le.mpr early)

/-- With no entry queued the slot is offered to none (R94). -/
theorem pulseEnds_reached (reached : x.ends ≤ s.now) (queue : s.engine.queue = []) : s.pulseEnds k = (s.freed k).pulseEnded x.bell := by
  have left : ((s.freed k).pulseEnded x.bell).engine.queue = [] := by
    have frame := pulseEnded_within (.refl _ (s.freed k)) (List.Subset.refl _) x.bell .engine (by decide)
    exact (congrArg Engine.queue frame).trans queue
  simp only [pulseEnds, busy]
  exact (if_pos reached).trans (arbitrate_of_empty left)

/-- A bell that had one pulse has none once its slot is FREE. -/
theorem freed_still (law : s.driverLaw) : (s.freed k).pulsing x.bell = false := by
  refine pulsing_eq_false fun j y other same => ?_
  have get : (s.freed k).engine.slots.get j = if j = k then none else s.engine.slots.get j := Table.get_set ..
  rw [get] at other
  split at other
  · cases other
  · rename_i away
    exact away (law j k y x other busy same)

end

/-- A READY hammer whose park had to wait for its pulse begins it (R55). -/
theorem pulseEnded_parks (still : s.pulsing b = false) (ready : (s.bell b).hammer = some .ready) (demand : s.demanded b = true)
    (sound : s.sensorConflict b = false) (park : (s.bell b).park.state ≠ some true) :
    Parks b (s.pulseEnded b) ∧ (s.pulseEnded b).noticedAll .bell := by
  have enters : s.pulseEnded b = s.enterParking b := by
    unfold pulseEnded
    simp [still, ready, demand]
  have state : s.parkingState b = .parking := by
    unfold parkingState
    simp [sound, park]
  have entered := s.enterParking_entered b
  rw [enters, Parks, entered.record, state]
  exact ⟨rfl, entered.notice⟩

/-! ## A drop -/

/-- A loss below the saturation of its counter is counted and noticed with the drop of its entry (R97, R98). -/
theorem dropEntry_losses (s : State) (e : QueueEntry) {r : DropReason} (below : s.engine.losses.read r < 65535) :
    (s.dropEntry e r).engine.losses = s.engine.losses.count r ∧ (s.dropEntry e r).noticedAll .loss := by
  constructor
  · have told : (s.dropEntry e r).engine = ((s.modEngine fun g => { g with queue := g.queue.erase e }).lose r).engine :=
      endOutcome_within (.refl _ _) (List.Subset.refl _) e _ .engine (by decide)
    rw [told]
    exact lose_losses (s := s.modEngine fun g => { g with queue := g.queue.erase e }) below
  · have lost : ((s.modEngine fun g => { g with queue := g.queue.erase e }).lose r).noticedAll .loss := noticedAll_lose below
    exact ((Keeps.refl _).endOutcome e _).noticedAll lost

theorem dropEntry_bells (s : State) (e : QueueEntry) (r : DropReason) : (s.dropEntry e r).bells = s.bells :=
  dropEntry_within (.refl _ s) (List.Subset.refl _) e r .bells (by decide)

theorem lateDrops_head {e : QueueEntry} (head : s.engine.queue.head? = some e) (late : e.fire + 9 ≤ s.now) :
    s.lateDrops = s.dropEntry e .late := by
  obtain ⟨rest, queue⟩ := List.head?_eq_some_iff.mp head
  unfold lateDrops
  rw [queue, List.find?_cons_of_pos (by simpa using late)]

theorem lateDrops_none (h : ∀ e ∈ s.engine.queue, s.now < e.fire + 9) : s.lateDrops = s := by
  have none : (s.engine.queue.find? fun e => decide (e.fire + 9 ≤ s.now)) = none :=
    List.find?_eq_none.mpr fun e mem => by simpa using h e mem
  unfold lateDrops
  rw [none]

end State

/-- Settles O38: the freed slot, the park that waited for it, and the drop of the head of the queue. -/
theorem pulsesEndAndLateEntriesDrop : Obligations.PulsesEndAndLateEntriesDrop := by
  refine ⟨fun k x s busy => ⟨fun early quiet => ?_, fun reached law quiet queue => ?_⟩, fun s => ⟨fun e _ head late => ?_, fun none => ?_⟩⟩
  · rw [State.exec_pulseEnd, State.pulseEnds_early busy early, State.settle_of_quiet quiet]
  · rw [State.exec_pulseEnd, State.pulseEnds_reached busy reached queue]
    have heeds : (s.freed k).Heeds True .none ((s.freed k).pulseEnded x.bell).settle := ((State.Heeds.refl _ _ _).pulseEnded _).settle
    have still := State.freed_still busy law
    have slots := heeds.slots trivial
    refine ⟨_, rfl, slots, ?_, fun b => Prod.mk.inj (heeds.onsets trivial b), fun ready demand sound park => ?_⟩
    · rw [State.hammerLine, State.pulsing, slots]
      exact still
    · obtain ⟨parks, noticed⟩ := State.pulseEnded_parks still ready demand sound park
      exact ⟨State.Parks.kept.settleFor _ parks, ((State.Keeps.refl _).settle).noticedAll noticed⟩
  · obtain ⟨rest, queue⟩ := List.head?_eq_some_iff.mp head
    refine ⟨s.dropEntry e .late, congrArg Host.Outcome.next (State.lateDrops_head head late), ?_, s.dropEntry_slots e _, s.dropEntry_bells e _,
      fun below => ?_⟩
    · rw [State.dropEntry_queue, queue, List.erase_cons_head, List.tail_cons]
    · obtain ⟨losses, noticed⟩ := s.dropEntry_losses e (r := .late) below
      rw [losses]
      exact ⟨if_pos below, noticed⟩
  · exact congrArg Host.Outcome.next (State.lateDrops_none none)

end Sys2Proof.Machine
end

section
/-! PROOFS. The entry that the arbiter prefers, and what its attempt leaves (O37). -/

namespace Sys2Proof.Machine

namespace State

variable {s : State} {k : HammerSlot} {e : QueueEntry}

/-! ## The preferred entry -/

/-- Smaller priority number first, then the earlier fire time, then the bell that comes first after the rotation bell (R90). -/
theorem prefers_iff {x y : QueueEntry} : s.prefers x y = true ↔
    s.engine.priorities.read x.source < s.engine.priorities.read y.source ∨
      (s.engine.priorities.read x.source = s.engine.priorities.read y.source ∧
        (x.fire < y.fire ∨
          (x.fire = y.fire ∧ rotationDistance s.engine.rotation x.bell < rotationDistance s.engine.rotation y.bell))) := by
  simp [prefers]

theorem prefers_asymm {x y : QueueEntry} (h : s.prefers x y = true) : s.prefers y x = false := by
  rw [prefers_iff] at h
  rw [Bool.eq_false_iff, ne_eq, prefers_iff]
  omega

/-- An entry that is preferred to all others is the best of any list that holds it. -/
theorem foldl_better {l : List QueueEntry} {best : Option QueueEntry} (others : ∀ x ∈ l, x = e ∨ s.prefers e x = true)
    (known : ∀ y, best = some y → y = e ∨ s.prefers e y = true) (has : e ∈ l ∨ best = some e) :
    l.foldl s.better best = some e := by
  induction l generalizing best with
  | nil => simpa using has
  | cons x l ih =>
    have here := others x List.mem_cons_self
    refine ih (fun y mem => others y (List.mem_cons_of_mem x mem)) (fun y same => ?_) ?_
    · rcases s.better_eq best x with takes | stays
      · rw [← Option.some.inj (takes.symm.trans same)]
        exact here
      · exact known y (stays.symm.trans same)
    rcases has with mem | found
    · rcases List.mem_cons.mp mem with rfl | mem
      · refine .inr ?_
        cases best with
        | none => rfl
        | some y =>
          rcases known y rfl with rfl | preferred
          · exact ite_self _
          · exact if_pos preferred
      · exact .inl mem
    · rw [found]
      rcases here with rfl | preferred
      · exact .inr (ite_self _)
      · exact .inr (if_neg (by rw [prefers_asymm preferred]; decide))

theorem choose_of_preferred (mem : e ∈ s.engine.queue) (eligible : s.eligible e = true)
    (others : ∀ x ∈ s.engine.queue, s.eligible x = true → x = e ∨ s.prefers e x = true) : s.choose = some e := by
  rw [choose_eq]
  refine foldl_better (fun x among => ?_) nofun (.inl (List.mem_filter.mpr ⟨mem, eligible⟩))
  obtain ⟨queued, able⟩ := List.mem_filter.mp among
  exact others x queued able

theorem choose_of_none_eligible (h : ∀ e ∈ s.engine.queue, s.eligible e = false) : s.choose = none := by
  rw [choose_eq, List.filter_eq_nil_iff.mpr fun e mem => by simp [h e mem]]
  rfl

/-! ## The arbiter -/

theorem exec_arbitrates {c : Instr} (h : c = .entryDue ∨ c = .waitRecoveryMet) (s : State) : exec c s = .next s.arbitrate.settle := by
  rcases h with rfl | rfl <;> rfl

theorem arbitrate_of_no_choice (h : s.choose = none) : s.arbitrate = s := by
  unfold arbitrate
  cases s.engine.queue.length with
  | zero => rfl
  | succ n =>
    rw [arbitrateFor, h]
    cases s.freeSlot <;> rfl

theorem faultHammer_engine (s : State) (b : Bell) (c : HammerCause) (still : Bool) : (s.faultHammer b c still).engine = s.engine :=
  faultHammer_within (.refl _ s) (List.Subset.refl _) b c still .engine (by decide)

/-- An attempt takes its entry out of the queue, whatever comes of it (R92). -/
theorem attempt_queue (s : State) (k : HammerSlot) (e : QueueEntry) : (s.attempt k e).engine.queue = s.engine.queue.erase e := by
  unfold attempt
  split
  · exact dropEntry_queue ..
  split
  · rw [faultHammer_engine, dropEntry_queue]
  · rw [grant_engine]

theorem grant_rotation (s : State) (k : HammerSlot) (e : QueueEntry) : (s.grant k e).engine.rotation = e.bell := by
  rw [grant_engine]

theorem grant_losses (s : State) (k : HammerSlot) (e : QueueEntry) : (s.grant k e).engine.losses = s.engine.losses := by
  rw [grant_engine]

theorem grant_pulsing (s : State) (k : HammerSlot) (e : QueueEntry) : (s.grant k e).pulsing e.bell = true := by
  have busy : (s.grant k e).engine.slots.get k = some (s.pulseFor e) := by rw [grant_slots, Table.get_set_same]
  exact pulsing_of_slot busy

/-- The arbiter attempts the entry that it chooses, and acts again on what that leaves (R89). -/
theorem arbitrate_attempts (slot : s.freeSlot = some k) (chosen : s.choose = some e) : s.arbitrate = (s.attempt k e).arbitrate := by
  have mem := (eligible_of_choose chosen).1
  have left : (s.attempt k e).engine.queue.length + 1 = s.engine.queue.length := by
    rw [attempt_queue, List.length_erase_of_mem mem]
    exact Nat.sub_add_cancel (List.length_pos_of_mem mem)
  rw [arbitrate, ← left, arbitrateFor, slot, chosen]
  rfl

/-! ## What an attempt leaves -/

theorem attempt_of_unavailable {x : DropReason} (h : s.availability e.port e.bell = some x) : s.attempt k e = s.dropEntry e x := by
  simp only [attempt, h]

theorem attempt_of_astray (h : s.availability e.port e.bell = none) (home : (s.bell e.bell).home.state ≠ some true) :
    s.attempt k e = (s.dropEntry e .hammerFault).faultHammer e.bell .homeAtGrant false := by
  simp only [attempt, h]
  exact if_pos home

theorem dropEntry_rotation (s : State) (e : QueueEntry) (r : DropReason) : (s.dropEntry e r).engine.rotation = s.engine.rotation := by
  have told : (s.dropEntry e r).engine = ((s.modEngine fun g => { g with queue := g.queue.erase e }).lose r).engine :=
    endOutcome_within (.refl _ _) (List.Subset.refl _) e _ .engine (by decide)
  rw [told, lose]
  split <;> rfl

theorem dropEntry_signals (s : State) (e : QueueEntry) (r : DropReason) : (s.dropEntry e r).signals = s.signals :=
  dropEntry_within (.refl _ s) (List.Subset.refl _) e r .signals (by decide)

theorem grant_signals (s : State) (k : HammerSlot) (e : QueueEntry) : (s.grant k e).signals = s.signals :=
  grant_within (.refl _ s) (List.Subset.refl _) k e .signals (by decide)

/-- The hammer of an entry's bell whose HOME is not true goes to FAULT, HOME-AT-GRANT, as the entry is dropped (R59, R92). -/
theorem astray_takes (s : State) (e : QueueEntry) : HammerTakes e.bell .fault (some .homeAtGrant) (s.dropEntry e .hammerFault)
    ((s.dropEntry e .hammerFault).faultHammer e.bell .homeAtGrant false) := faultHammer_takes ..

theorem bell_dropEntry (s : State) (e : QueueEntry) (r : DropReason) (b : Bell) : (s.dropEntry e r).bell b = s.bell b :=
  congrArg (fun t : BellTable => t.bells.get b) (s.dropEntry_bells e r)

/-- Nothing but the attempt comes of a queue of one entry whose hammer is astray: no block takes up the report of an IDLE bell. -/
theorem astray_settles (quiet : s.signals = []) (available : s.availability e.port e.bell = none) :
    ((s.dropEntry e .hammerFault).faultHammer e.bell .homeAtGrant false).settle =
      { (s.dropEntry e .hammerFault).faultHammer e.bell .homeAtGrant false with signals := [] } := by
  obtain ⟨-, -, idle, -⟩ := strikable_of_available available
  refine (astray_takes s e).settle ((dropEntry_signals ..).trans quiet) ?_
  have swing : (s.dropEntry e .hammerFault).swing = s.swing :=
    dropEntry_within (.refl _ s) (List.Subset.refl _) e _ .swing (by decide)
  rw [swingState, swingRec, swing]
  exact (congrArg SwingState.bringsDown idle).trans rfl

end State

/-- Settles O37: the preferred entry is the one chosen, its attempt drops it, faults its hammer or grants it, and the arbiter goes on. -/
theorem grantsDriveTheHammer : Obligations.GrantsDriveTheHammer := by
  intro c s acts quiet
  have runs := State.exec_arbitrates acts
  refine ⟨fun idle => ?_, fun e k mem eligible slot preferred => ?_, fun e k queue eligible slot => ?_⟩
  · have stays : s.arbitrate = s := idle.elim State.arbitrate_of_no_slot fun none =>
      State.arbitrate_of_no_choice (State.choose_of_none_eligible none)
    rw [runs, stays, State.settle_of_quiet quiet]
  · have chosen : s.choose = some e := State.choose_of_preferred mem eligible fun x queued able =>
      (preferred x queued able).imp_right State.prefers_iff.mpr
    refine ⟨s.attempt k e, ?_, s.attempt_queue k e, fun x unavailable => ?_, fun available astray => ?_, fun available home => ?_⟩
    · rw [runs, runs, State.arbitrate_attempts slot chosen]
    · rw [State.attempt_of_unavailable unavailable]
      exact ⟨s.dropEntry_slots e x, s.dropEntry_rotation e x, s.dropEntry_bells e x, (s.dropEntry_signals e x).trans quiet,
        s.dropEntry_losses e⟩
    · rw [State.attempt_of_astray available astray]
      have takes := State.astray_takes s e
      refine ⟨?_, ?_, ?_, ?_, fun b other => (takes.acts.bells b other).trans (s.bell_dropEntry ..), takes.faults rfl, takes.notice⟩
      · rw [State.faultHammer_engine, State.dropEntry_slots]
      · rw [State.faultHammer_engine, State.dropEntry_rotation]
      · rw [takes.record]
      · rw [takes.record]
    · rw [State.attempt_of_available k available home]
      exact ⟨s.grant_rotation k e, s.grant_losses k e, s.grant_pulsing k e,
        (s.grant_signals k e).trans quiet, s.grant_slots k e, s.grant_bells k e⟩
  · have one := State.arbitrate_of_one queue slot eligible
    have left : (s.attempt k e).engine.queue = [] := by rw [State.attempt_queue, queue, List.erase_cons_head]
    refine ⟨fun x unavailable => ?_, fun available astray => ?_, fun available home => ?_⟩
    · rw [State.attempt_of_unavailable unavailable] at one left
      refine ⟨s.dropEntry e x, ?_, left, s.dropEntry_slots e x, fun below => (s.dropEntry_losses e below).1,
        fun below => (s.dropEntry_losses e below).2⟩
      rw [runs, one, State.settle_of_quiet ((s.dropEntry_signals e x).trans quiet)]
    · rw [State.attempt_of_astray available astray] at one left
      have takes := State.astray_takes s e
      have settles := State.astray_settles quiet available
      have slots := (congrArg Engine.slots (State.faultHammer_engine _ e.bell .homeAtGrant false)).trans (s.dropEntry_slots e .hammerFault)
      generalize (s.dropEntry e .hammerFault).faultHammer e.bell .homeAtGrant false = t at one left takes settles slots
      refine ⟨{ t with signals := [] }, ?_, left, slots, ?_, ?_, takes.faults rfl, takes.notice⟩
      · rw [runs, one, settles]
      · exact congrArg BellRec.hammer takes.record
      · exact congrArg BellRec.cause takes.record
    · rw [State.attempt_of_available k available home] at one left
      refine ⟨s.grant k e, ?_, left, s.grant_rotation k e, s.grant_slots k e, s.grant_losses k e,
        s.grant_pulsing k e, s.grant_bells k e, fun x held chime owner => ?_⟩
      · rw [runs, one, State.settle_of_quiet ((s.grant_signals k e).trans quiet)]
      · rw [State.claim_grant, if_pos rfl, held, Option.map_some, if_pos ⟨chime, owner⟩]

end Sys2Proof.Machine
end
